-- ==== Sys2Proof/Word.lean ====
section
/-!
DEFINITION. The native quantities of the GLX-4160 and their plainest arithmetic.
R6: the native word is 40 bits, numbered 39 down to 0; an octet is 8 bits.
-/
namespace Sys2Proof

/-- R6: one native word. Registers, working-memory words and store words each hold one. -/
abbrev Word := BitVec 40

/-- One octet of a packet. -/
abbrev Octet := BitVec 8

/-- A run of octets, first sent first. -/
abbrev Octets := List Octet

/-- R10: the number an octet string spells, least significant octet first. -/
def natOf : Octets → Nat
  | [] => 0
  | o :: os => o.toNat + 256 * natOf os

/-- R10: the `n` octets of a number, least significant octet first. -/
def leOf : Nat → Nat → Octets
  | 0, _ => []
  | n + 1, v => BitVec.ofNat 8 v :: leOf n (v / 256)

/-- R10: a word occupies five octets, bits [7:0] first. -/
def wordOctets (w : Word) : Octets := leOf 5 w.toNat

/-- The word that five octets spell. -/
def wordOf (os : Octets) : Word := BitVec.ofNat 40 (natOf (os.take 5))

/-- The words that an octet string spells, five octets each; a shorter tail spells none. -/
def wordsOf (os : Octets) : Nat → List Word
  | 0 => []
  | n + 1 => wordOf os :: wordsOf (os.drop 5) n

/-- Bits [lo + len - 1 : lo] of a word, as a number. -/
def fld (w : Word) (lo len : Nat) : Nat := (w.toNat >>> lo) % 2 ^ len

/-- Bit `i` of a word. -/
def bit (w : Word) (i : Nat) : Bool := w.getLsbD i

/-- The word whose field [lo + len - 1 : lo] holds `v` and whose other bits are zero. -/
def put (lo len v : Nat) : Word := BitVec.ofNat 40 ((v % 2 ^ len) <<< lo)

/-- `w` with field [lo + len - 1 : lo] replaced by `v`. -/
def setFld (w : Word) (lo len v : Nat) : Word :=
  (w &&& ~~~(BitVec.ofNat 40 ((2 ^ len - 1) <<< lo))) ||| put lo len v

/-- The word with only bit `i` set, or zero. -/
def flag (i : Nat) (b : Bool) : Word := if b then BitVec.ofNat 40 (1 <<< i) else 0

/-- The low `len` bits set, from bit `lo`. -/
def ones (lo len : Nat) : Word := BitVec.ofNat 40 ((2 ^ len - 1) <<< lo)

/-- A number read as two's complement of `len` bits. -/
def signed (len v : Nat) : Int := if v % 2 ^ len < 2 ^ (len - 1) then (v % 2 ^ len : Nat) else ((v % 2 ^ len : Nat) : Int) - (2 ^ len : Nat)

/-- An integer written as two's complement of `len` bits. -/
def twos (len : Nat) (i : Int) : Nat := (i % (2 ^ len : Nat)).toNat

end Sys2Proof
end

