-- ==== Sys2Proof/Syntax.lean ====
section
/-!
DEFINITION. The commands of the block. Each constructor of `Instr` is one row of spec/opcode_table.json.
A host command carries its packet header and its parameter octets as received (R49, R469). Where what the device does rests on
something physical that no command gives (a measured coil, the outcome of a self-test, a signature that verifies), the row
carries that observation as an operand, so that it is an input of the model and never a value the model picks.
-/
namespace Sys2Proof

/-- R39: the four ports, coded 0 to 3. -/
inductive Port where
  | spiA | spiB | uartC | net
  deriving DecidableEq, Repr

/-- R49: what a command's header says, with the port it arrived on; on the network port also the frame's source address and
the CMAC received (R45), as the number its octets spell. The framing, the CRC-32C, the version and the type are good. -/
structure Hdr where
  port  : Port
  ctx   : Fin 8
  seq   : BitVec 16
  retry : Bool
  src   : BitVec 48
  cmac  : BitVec 64
  deriving DecidableEq, Repr

/-- A received Ethernet frame: its addresses, whether it carries an 802.1Q tag, its length, whether its FCS is good, its
EtherType and payload, its arrival time on the local clock in ns, and whether the receive queue is full (R350). -/
structure Frame where
  dst       : BitVec 48
  src       : BitVec 48
  tagged    : Bool
  length    : Nat
  fcsOk     : Bool
  ether     : BitVec 16
  payload   : Octets
  time      : Int
  queueFull : Bool
  deriving DecidableEq, Repr

/-- R356: a PTP message: domain, port identity of its sender, sequence number, correctionField and the time it carries
in ns, the two-step flag, and (Delay_Resp) the port identity it answers. -/
structure PtpMsg where
  domain  : Nat
  src     : BitVec 80
  seqId   : BitVec 16
  corr    : Int
  twoStep : Bool
  time    : Int
  req     : BitVec 80
  deriving DecidableEq, Repr

/-- R98 to R103: what a measurement of one driven coil finds: amplitude in mA, phase in steps of 0.2 degrees (signed), the
quality factor in quarters, and whether the driver's cycle-by-cycle limit tripped within the first 8 carrier periods. -/
structure CoilMeas where
  coil  : Fin 12
  ampl  : Nat
  phase : Int
  q     : Nat
  trip  : Bool
  deriving DecidableEq, Repr

/-- R463: what a margin read of one physical page finds. -/
inductive PageHealth where
  /-- Every word reads without correction. -/
  | good
  /-- Weak: some words needed a correction (how many). -/
  | weak (corrected : Nat)
  /-- Failing: a word uncorrectable at the margin level only. -/
  | failing (corrected : Nat)
  /-- The words at these offsets are uncorrectable at the normal level. -/
  | lost (offsets : List (Fin 128))
  deriving DecidableEq, Repr

/-- R63: the units a host enables and disables. -/
inductive UnitId where
  | uhf | plough
  | seq (n : Fin 3)
  | rx (n : Fin 4)
  deriving DecidableEq, Repr

/-- R142 to R151: a frame a lane hears: the slot it starts in, the start offset from that slot in ns, RSSI, the CAPTURED flag, whether the
sampler's checks are clean, whether the sync came before collection closed, whether an engine's check finds a mismatch while the
frame is checked (R315), and its 41 octets. -/
structure RxFrame where
  lane     : Fin 64
  slot     : Fin 5
  offset   : Int
  rssi     : Nat
  captured : Bool
  clean    : Bool
  synced   : Bool
  fault    : Bool
  body     : Octets
  deriving DecidableEq, Repr

/-- R195: a loop-back check: whether both samplers recover the pattern, and where each estimator places it, in ticks from 2,048. -/
structure LoopCheck where
  sampler : Bool
  est     : List Int
  deriving DecidableEq, Repr

/-- R176: a UWB calibration: whether its results lie within their limits, and the check that runs with it. -/
structure UwbCal where
  ok   : Bool
  temp : Int
  loop : LoopCheck
  deriving DecidableEq, Repr

/-- R189, R190, R198: an arrival as the chosen pair of estimators times it: the two raw timestamps, QSTS on each port, whether the first
path lies within the STS, the carrier's offset in parts per 10^9, the phase difference in 360/4096 degrees, whether parity and block CRC
hold, MSG and whether the addresses and FCS are good, whether an engine's check finds a mismatch (R315), and the CIR taps of each port: preamble and STS. -/
structure Arrival where
  ta     : Nat
  tb     : Nat
  q0     : Nat
  q1     : Nat
  inside : Bool
  eps    : Int
  dphi   : Int
  clean  : Bool
  ours   : Bool
  msg    : Nat
  fault  : Bool
  loop   : LoopCheck
  cirs   : List (List (Int × Int))
  deriving DecidableEq, Repr

/-- R38, R273: what a release period meets: results that read as POISONED, receivers whose CCM finds a fault, receivers whose composer
buffer is uncorrectable. -/
structure PeriodObs where
  badIds   : List (BitVec 40)
  badSess  : List (Fin 8)
  fault    : BitVec 4
  composer : BitVec 4
  deriving DecidableEq, Repr

/-- What a command observes of the physical world while it runs. -/
inductive Obs where
  /-- Nothing to observe. -/
  | none
  /-- SYS_SELF_TEST: which tests of R478 fail, and the failing unit of each test in order. -/
  | selfTest (failed : BitVec 5) (detail : List Word) (gap : Bool)
  /-- Whether a signature verifies (R480). -/
  | verdict (ok : Bool)
  /-- NVM_PATROL: what the margin reads find, by physical page; a page not listed is good (R463). -/
  | patrol (found : List (Nat × PageHealth))
  /-- R315: a fault check finds a mismatch. -/
  | glitch
  /-- R96 to R103, R366: whether VLF is at or above 6.0 V, and what measurements of coils find, in order. -/
  | coils (vlfOk : Bool) (l : List CoilMeas)
  /-- R159, R162: whether a calibration's results lie within their limits, and the die temperature. -/
  | cal (ok : Bool) (temp : Int)
  /-- R176, R195: a UWB calibration and its check; `gap` is false where no gap comes within 100 ms. -/
  | uwbCal (gap : Bool) (c : UwbCal)
  /-- R210: the roster index cannot place a new ID. -/
  | indexFull
  deriving DecidableEq, Repr


/-- The commands of the block: one constructor for each row of spec/opcode_table.json, in its order, the rows without
operands after the others. -/
inductive Instr where
  /-- SPI_PACKET, R41: A packet or fragment on SPI-A or SPI-B that fails framing or CRC before any opcode is judged; it is dropped or counted, or answered BAD_FRAME. -/
  | spiPacket (port : Port) (os : Octets) (obs : Obs)
  /-- CHIP_SELECT_FALL, R40: SPI chip select falls: the device takes the SPI mode from SCK, may start an output packet, and wakes the device if it sleeps. -/
  | chipSelectFall (port : Port) (sckHigh : Bool)
  /-- CHIP_SELECT_RISE, R41: SPI chip select rises: a partial input packet is discarded and counted in TRUNC, and an incomplete output packet is kept for resending. -/
  | chipSelectRise (port : Port) (partOctets : Nat)
  /-- UART_FRAME, R44: A COBS frame on UART-C that does not decode, is too long or too short, or does not start with 0xA7; it is discarded and counted. -/
  | uartFrame (os : Octets) (obs : Obs)
  /-- HST_UART_CFG_WRITE, R44: A write to HST_UART_CFG sets a new UART rate, which applies after the last octet of its reply. -/
  | hstUartCfgWrite (h : Hdr) (p : Octets)
  /-- NETWORK_FRAME, R350: A received network frame that is dropped and counted: bad FCS, a tag, too long, another EtherType, a full queue, or a type not for the device. -/
  | networkFrame (f : Frame)
  /-- NETWORK_COMMAND, R46: An ACP command frame on the network port is checked for source address, CMAC and sequence window, and is dropped if a check fails. -/
  | networkCommand (f : Frame) (obs : Obs)
  /-- SPEED_REPORT, R260: A speed report from the MOTION_SRC receiver is checked and accepted as a motion fact, or dropped and counted in REPORT_FAIL. -/
  | speedReport (f : Frame)
  /-- BATTERY_RESPONSE, R237: A battery RESPONSE packet is matched to the attempt in progress and checked, which decides the attempt and sends a CONFIRM.
  `others` are the frames that arrive before that decision (R238). -/
  | batteryResponse (f : Frame) (others : List Frame) (fault : Bool)
  /-- ANNOUNCE, R357: A PTP Announce is received; a follower takes its first master or keeps the master it holds. -/
  | announce (m : PtpMsg)
  /-- SYNC, R358: A PTP Sync is received and waits for its Follow_Up. -/
  | sync (m : PtpMsg) (t2 : Int)
  /-- FOLLOW_UP, R358: A PTP Follow_Up completes a Sync; the follower computes the offset and runs the servo, the step-threshold rule and a Delay_Req. -/
  | followUp (m : PtpMsg)
  /-- DELAY_REQ, R357: A PTP Delay_Req reaches the master, which answers it with a Delay_Resp. -/
  | delayReq (m : PtpMsg) (t4 : Int)
  /-- DELAY_RESP, R358: A PTP Delay_Resp gives the follower a new pair t3, t4 for the mean path. -/
  | delayResp (m : PtpMsg)
  /-- LINK_CHANGE, R349: Network link is gained or lost, with its effect on NTC_STATUS.LINK, battery exchanges and sheaf transmission. -/
  | linkChange (up : Bool)
  /-- FRAME_TRANSMITTED, R351: A transmitted frame's FCS has been sent, which completes an EMIT, a reply or an event. -/
  | frameTransmitted (t : Int)
  /-- SYS_NOP, R476: Does nothing, checks the link and renews claims. -/
  | sysNop (h : Hdr) (p : Octets)
  /-- SYS_IDENTIFY, R476: Returns the part number, grade, revisions, serial number, MAC address and boot state. -/
  | sysIdentify (h : Hdr) (p : Octets)
  /-- SYS_STATUS, R476: Returns the power state, the boot state, the summary bits, the checker state, the always-on tick count and the calendar. -/
  | sysStatus (h : Hdr) (p : Octets)
  /-- SYS_SNAPSHOT, R477: Reads the listed registers at one handshake point, without clearing or latching anything. -/
  | sysSnapshot (h : Hdr) (p : Octets)
  /-- SYS_RESET, R479: Is refused above DENY; otherwise it replies and then leads to the commit and the restart. -/
  | sysReset (h : Hdr) (p : Octets)
  /-- DEVICE_RESTART, R545: After SYS_RESET or SYS_FW_COMMIT has replied, the device runs the power-down commit and restarts, falling back to the previous slot if the new image fails. -/
  | deviceRestart (imageOk : Bool)
  /-- SYS_SELF_TEST, R478: Runs the tests named in its mask; a passing entropy test re-instantiates a DRBG that is in ERROR. -/
  | sysSelfTest (h : Hdr) (p : Octets) (obs : Obs)
  /-- SYS_FW_BEGIN, R480: Opens a firmware transfer into the image slot that is not running. -/
  | sysFwBegin (h : Hdr) (p : Octets)
  /-- SYS_FW_CHUNK, R480: Appends a chunk of the firmware image at offset RECEIVED. -/
  | sysFwChunk (h : Hdr) (p : Octets)
  /-- SYS_FW_COMMIT, R480: Verifies the signed image and, if it passes, commits it and replies before the restart. -/
  | sysFwCommit (h : Hdr) (p : Octets) (obs : Obs)
  /-- SYS_REG_READ, R476: Reads COUNT consecutive registers, each at its own point. -/
  | sysRegRead (h : Hdr) (p : Octets)
  /-- SYS_REG_WRITE, R13: Writes a register that has no row of its own, with the reserved-bit, encoding, access-code and lock checks. -/
  | sysRegWrite (h : Hdr) (p : Octets)
  /-- RC_REGISTER_READ, R12: A read of an RC register returns its value and clears it in the same step. -/
  | rcRegisterRead (h : Hdr) (p : Octets)
  /-- W1C_FLAG_CLEAR, R15: A write to a W1C register clears the flags written as 1 that were set at the grant. -/
  | w1cFlagClear (h : Hdr) (p : Octets)
  /-- NTC_TIME_NS_READ, R355: A read of NTC_TIME_NS latches SEC into NTC_TIME_SEC and NTC_TIME_SEC_HI. -/
  | ntcTimeNsRead (h : Hdr) (p : Octets)
  /-- SYS_DEBUG_LOCK_WRITE, R507: Writing 1 to SYS_DEBUG_LOCK.LOCK from FLEET stores the debug lock and closes the debug port for ever. -/
  | sysDebugLockWrite (h : Hdr) (p : Octets)
  /-- DOMAIN_SEAL, R207: Writing 1 to CRD_DOMAIN.SEALED seals CRD_DOMAIN and CRD_SELF for ever. -/
  | domainSeal (h : Hdr) (p : Octets)
  /-- SEQ_POLICY_SIGNED, R305: Writing SEQ_POLICY.SIGNED to 1 requires signed images from then on and locks the field. -/
  | seqPolicySigned (h : Hdr) (p : Octets)
  /-- UWB_CAL_WRITE, R173: A write to UWB_CALcA or UWB_CALcB stores the calibration by a SYNC write and replies after the seal. -/
  | uwbCalWrite (h : Hdr) (p : Octets)
  /-- TMR_CFG_WRITE, R386: A SYS_REG_WRITE to TMRn_CFG acts as TMR_CONFIG: it is refused while the timer runs, and it otherwise zeroes the count. -/
  | tmrCfgWrite (h : Hdr) (p : Octets)
  /-- SYS_TAMPER_CONFIG, R268: Configures the enable, polarity and debounce of a tamper input and stores them. -/
  | sysTamperConfig (h : Hdr) (p : Octets)
  /-- SYS_TAMPER_CLEAR, R268: Clears a tamper latch, and is refused while the input is still active. -/
  | sysTamperClear (h : Hdr) (p : Octets)
  /-- HST_OPEN, R54: Claims a host context, or restarts it by ending its old session, and returns a role nonce. -/
  | hstOpen (h : Hdr) (p : Octets)
  /-- HST_CLOSE, R58: Ends the context's session as HST_OPEN does and leaves the context closed. -/
  | hstClose (h : Hdr) (p : Octets)
  /-- HST_SET_ROLE, R55: Raises or lowers the context's role against a proof over the role nonce. -/
  | hstSetRole (h : Hdr) (p : Octets)
  /-- HST_EVENT_READ, R68: Returns up to 8 queued events of a PULL context, oldest first. -/
  | hstEventRead (h : Hdr) (p : Octets)
  /-- HST_EVENT_MASK, R67: Sets the events queued to the context. -/
  | hstEventMask (h : Hdr) (p : Octets)
  /-- HST_CLAIM, R65: Sets the context's stay-awake claim floor. -/
  | hstClaim (h : Hdr) (p : Octets)
  /-- HST_UNCLAIM, R65: Removes the context's claim. -/
  | hstUnclaim (h : Hdr) (p : Octets)
  /-- CLAIM_LEASE_LAPSE, R65: HST_CLAIM_LEASE seconds pass without an accepted command on the context, and its claim lapses. -/
  | claimLeaseLapse (ctx : Fin 8)
  /-- ROLE_BACKOFF_END, R56: The 60 s role back-off of a context ends. -/
  | roleBackoffEnd (ctx : Fin 8)
  /-- JRN_READ, R89: Returns up to 40 almanac entries from both rings, in increasing SEQ. -/
  | jrnRead (h : Hdr) (p : Octets)
  /-- JRN_STATUS, R88: Returns the almanac ring state captured at one point. -/
  | jrnStatus (h : Hdr) (p : Octets)
  /-- JRN_LOOKUP, R91: Returns one entry found by sequence number, or by context and host sequence. -/
  | jrnLookup (h : Hdr) (p : Octets)
  /-- JRN_MARK, R85: Sets the context's wrap mark. -/
  | jrnMark (h : Hdr) (p : Octets)
  /-- PWR_ENTER, R397: Requests a power state, is checked, and waits for claims before entry begins. -/
  | pwrEnter (h : Hdr) (p : Octets)
  /-- PWR_WAKE_CONFIG, R401: Sets and stores the wake sources, polarities, PRESENT_ACTION and BAT_MASK. -/
  | pwrWakeConfig (h : Hdr) (p : Octets)
  /-- PWR_RESIDENCY_READ, R413: Returns the residency counters, captured at one point. -/
  | pwrResidencyRead (h : Hdr) (p : Octets)
  /-- PWR_WAKE_RECORD_READ, R414: Returns the wake record. -/
  | pwrWakeRecordRead (h : Hdr) (p : Octets)
  /-- PWR_PROFILE, R394: Changes the RUN profile and its VCORE level. -/
  | pwrProfile (h : Hdr) (p : Octets)
  /-- WAKE_PIN_ACTIVE, R402: A filtered active level on WAKE0 or WAKE1 wakes the device, or in OFF makes a cold start. -/
  | wakePinActive (pin : Fin 2)
  /-- VHOLD_LOW, R411: VHOLD falls below its minimum during a commit; store programming stops, and the page keeps its previous version. -/
  | vholdLow (sealedPages : Nat)
  /-- MEM_OK, R405: The memory fill or the retention checks complete, with the cipher checks on a wake from DEEP. -/
  | memOk (checker : Word) (flips : List (Nat × BitVec 47)) (keyFlips : List (Fin 256))
  /-- LOGIC_OK, R405: The save list is restored or the reset values are set, the clamps are released and the cores start in RUN. -/
  | logicOk (saveBad : List Nat) (exitUs : Nat)
  /-- COMMANDS_ACCEPTED, R405: The start-up work of the store and the tracts ends, and commands are accepted. -/
  | commandsAccepted (kat : BitVec 16) (modes : BitVec 4) (entropyOk : Bool)
  /-- LF_CHANNEL_CONFIG, R128: Sets the enable, current, trim and auto-tune of the masked coils. -/
  | lfChannelConfig (h : Hdr) (p : Octets)
  /-- LF_TUNE, R129: Sweeps each masked coil to zero phase between rounds and reports its final state. -/
  | lfTune (h : Hdr) (p : Octets) (obs : Obs)
  /-- LF_DIAGNOSE, R130: Returns coil status, first giving each coil a fresh pulse when FRESH is set. -/
  | lfDiagnose (h : Hdr) (p : Octets) (obs : Obs)
  /-- LF_POLL_START, R116: Starts polling in a base mode, or changes the mode, and can ask for a full round now. -/
  | lfPollStart (h : Hdr) (p : Octets)
  /-- LF_POLL_STOP, R121: Drains the plough and stops polling. -/
  | lfPollStop (h : Hdr) (p : Octets)
  /-- LF_FIELD_MAP_LOAD, R224: Replaces and stores the zone field map. -/
  | lfFieldMapLoad (h : Hdr) (p : Octets)
  /-- LF_SEND, R131: Sends one service frame on the frame coils between rounds. -/
  | lfSend (h : Hdr) (p : Octets) (obs : Obs)
  /-- PRESENCE_DETECTED, R158: The vigil receiver matches a presence burst in window; the poll is PRESENT and its headland falls. -/
  | presenceDetected (word : BitVec 16) (offset : Int)
  /-- DIAGNOSIS_PULSE, R98: A coil's diagnosis interval expires, and a pulse runs in the next gap and classifies the coil. -/
  | diagnosisPulse (vlfOk : Bool) (m : CoilMeas)
  /-- ELEMENT_END, R105: An LF transmission element ends, and the coil measurement and the next element follow. -/
  | elementEnd (vlfOk : Bool) (l : List CoilMeas)
  /-- DRIVER_OVER_TEMPERATURE, R96: A strip's drivers exceed their limit, or cool again, which stops or allows driving. -/
  | driverOverTemperature (strip : Fin 3) (hot : Bool)
  /-- LOCK_DRIVE_START, R97: A lock actuation delayed by plough work starts after that work ends. -/
  | lockDriveStart (n : Fin 2) (vlfOk : Bool)
  /-- UHF_CHANNEL_PLAN, R138: Loads a complete UHF channel plan after its checks. -/
  | uhfChannelPlan (h : Hdr) (p : Octets)
  /-- UHF_ENABLE, R63: Enables the UHF tract through STARTING. -/
  | uhfEnable (h : Hdr) (p : Octets)
  /-- UHF_DISABLE, R161: Stops the UHF tract after the round's headland. -/
  | uhfDisable (h : Hdr) (p : Octets)
  /-- UNIT_REACHES_STATE, R63: An enableable unit reaches ON or OFF, and pending replies or pending transitions follow. -/
  | unitReachesState (u : UnitId) (ok : Bool) (temp : Int)
  /-- UHF_CAPTURE_ARM, R164: Arms a diagnostic capture with a trigger. -/
  | uhfCaptureArm (h : Hdr) (p : Octets)
  /-- UHF_CAPTURE_READ, R164: Reads captured data in block form. -/
  | uhfCaptureRead (h : Hdr) (p : Octets)
  /-- UHF_CALIBRATE, R162: Runs a UHF calibration between rounds. -/
  | uhfCalibrate (h : Hdr) (p : Octets) (obs : Obs)
  /-- UHF_VIGIL_CONFIG, R156: Sets the presence channel, threshold and enable of the vigil receiver and calibrates it. -/
  | uhfVigilConfig (h : Hdr) (p : Octets) (obs : Obs)
  /-- UHF_CALIBRATION_DUE, R162: CAL_S expires, and background UHF calibration runs in the next gap. -/
  | uhfCalibrationDue (ok : Bool) (temp : Int)
  /-- TEMPERATURE_DRIFT, R162: The die temperature moves by CAL_DT, which triggers UHF, vigil or UWB calibration. -/
  | temperatureDrift (temp : Int) (uhfOk vigilOk : Bool) (c : UwbCal)
  /-- RESPONSE_FRAME, R149: A lane receives a key response frame, which passes the window, CRC, slot and channel checks and goes to the credential check. -/
  | responseFrame (f : RxFrame)
  /-- PRIMARY_SLOT_END, R153: The primary slot ends; collision indications are judged and second-chance slots are scheduled. -/
  | primarySlotEnd (residual : Nat) (unsynced : Bool)
  /-- COLLECTION_CLOSE, R154: Collection closes at tC, or at the end of listening, and in-flight frames pass to the late-frame monitor. -/
  | collectionClose (clipped : Bool)
  /-- LATE_FRAME_END, R155: The late-frame monitor finishes a frame and writes a late-frame log entry. -/
  | lateFrameEnd (lane : Fin 64) (crcOk incomplete : Bool) (id : BitVec 40) (rssi : Nat)
  /-- SAMPLE_PARITY_ERROR, R163: A sampler parity or block CRC error abandons the affected lanes for the round. -/
  | sampleParityError (strip : Option (Fin 8))
  /-- COEX_REQUEST, R167: The other radio raises or drops REQ on a grantor set, and the grant is given, blanked or withheld. -/
  | coexRequest (set : Fin 2) (req pri : Bool)
  /-- COEX_GRANT_CHANGE, R201: GNT changes on a requester set, which lets a round proceed or skips a device frame. -/
  | coexGrantChange (set : Fin 2) (gnt : Bool)
  /-- RADIO_COEX_CONFIG, R200: Configures a coexistence wire set. -/
  | radioCoexConfig (h : Hdr) (p : Octets)
  /-- COEX_CONFIG_APPLY, R200: A coexistence change waiting on a round takes effect at its headland. -/
  | coexConfigApply (set : Fin 2)
  /-- UWB_CONFIG, R204: Writes UWB_CFG. -/
  | uwbConfig (h : Hdr) (p : Octets)
  /-- UWB_SESSION_OPEN, R179: Opens a ranging session, calibrating the radio first if it is OFF. -/
  | uwbSessionOpen (h : Hdr) (p : Octets) (obs : Obs)
  /-- UWB_SESSION_CLOSE, R183: Closes a session at its round's headland. -/
  | uwbSessionClose (h : Hdr) (p : Octets)
  /-- UWB_RANGE_NOW, R182: Runs one extra initiator round in the next free gap. -/
  | uwbRangeNow (h : Hdr) (p : Octets)
  /-- UWB_CIR_READ, R199: Reads the exported CIRs or the estimator records. -/
  | uwbCirRead (h : Hdr) (p : Octets)
  /-- UWB_CALIBRATE, R196: Calibrates the radio and runs the loop-back check, which can re-enable ranging and update FAILED. -/
  | uwbCalibrate (h : Hdr) (p : Octets) (obs : Obs)
  /-- UWB_RADIO_STATE, R175: Sets RETURN_STATE and can turn the radio OFF while no session is open. -/
  | uwbRadioState (h : Hdr) (p : Octets)
  /-- UWB_CALIBRATION_DUE, R176: The UWB CAL_S interval expires, and calibration runs in a suitable gap. -/
  | uwbCalibrationDue (c : UwbCal)
  /-- RANGING_ROUND_PREPARATION, R181: A session's grid point nears; the ranging round is prepared, or is skipped on collision, with the first loop-back check. -/
  | rangingRoundPreparation (n : Fin 8) (extra : Bool) (c : LoopCheck)
  /-- UWB_FRAME_TX_DUE, R185: A device UWB frame's transmit time arrives, and it is sent, or skipped as TX_LATE. -/
  | uwbFrameTxDue (rmarker : Nat) (late : Bool)
  /-- UWB_POLL_RECEIVED, R180: A responder receives POLL, which re-anchors the grid and is timestamped. -/
  | uwbPollReceived (a : Arrival)
  /-- UWB_RESPONSE_RECEIVED, R189: An initiator receives RESPONSE, timed by a pair of estimators. -/
  | uwbResponseReceived (a : Arrival)
  /-- UWB_FINAL_RECEIVED, R189: A responder receives FINAL, timed by a pair of estimators. -/
  | uwbFinalReceived (a : Arrival)
  /-- UWB_REPORT_RECEIVED, R187: REPORT is checked, and the bound or RANGE_UNCERTAIN is computed. -/
  | uwbReportReceived (ours fault : Bool) (os : Octets)
  /-- CRD_ROSTER_WRITE, R210: Writes or deletes up to 48 roster entries atomically and seals them. -/
  | crdRosterWrite (h : Hdr) (p : Octets) (obs : Obs)
  /-- CRD_ROSTER_READ, R213: Reads roster entries by ID or by range. -/
  | crdRosterRead (h : Hdr) (p : Octets)
  /-- CRD_REVOKE, R215: Revokes up to 64 credentials. -/
  | crdRevoke (h : Hdr) (p : Octets)
  /-- CRD_EPOCH_ADVANCE, R216: Advances the roster epoch if EXPECT matches, which revokes every entry. -/
  | crdEpochAdvance (h : Hdr) (p : Octets)
  /-- CRD_TICKET_LOAD, R228: Loads, replaces or cancels a trip ticket after its checks. -/
  | crdTicketLoad (h : Hdr) (p : Octets)
  /-- CRD_LOCKOUT_STATUS, R232: Returns the lock-out state and draws or returns the LOCK_NONCE. -/
  | crdLockoutStatus (h : Hdr) (p : Octets)
  /-- CRD_LOCKOUT_CLEAR, R232: Clears the lock-out against a proof over LOCK_NONCE. -/
  | crdLockoutClear (h : Hdr) (p : Octets)
  /-- CRD_BATTERY_CHALLENGE, R235: Starts a battery exchange, or joins the one running. -/
  | crdBatteryChallenge (h : Hdr) (p : Octets)
  /-- CRD_ROUND_RESULT_READ, R243: Reads a copy of a result set. -/
  | crdRoundResultRead (h : Hdr) (p : Octets)
  /-- HRV_RECEIVER_CONFIG, R247: Configures a receiver's MAC address and MOTION_SRC. -/
  | hrvReceiverConfig (h : Hdr) (p : Octets)
  /-- HRV_ARM, R248: Arms a receiver through STARTING, reserving a counter block. -/
  | hrvArm (h : Hdr) (p : Octets)
  /-- HRV_ARM_DISARM, R248: Disarms a receiver at DENY after one final DENY sheaf. -/
  | hrvArmDisarm (h : Hdr) (p : Octets)
  /-- HRV_LOCK, R267: Sets the remote lock and replies OK or LOCK_DEFERRED after the first period that includes it. -/
  | hrvLock (h : Hdr) (p : Octets)
  /-- HRV_LOCK_CLEAR, R488: Clears the remote lock from the next snapshot. -/
  | hrvLockClear (h : Hdr) (p : Octets)
  /-- HRV_STATUS, R278: Returns every HRV_ register, captured between periods. -/
  | hrvStatus (h : Hdr) (p : Octets)
  /-- HRV_ACTUATE, R274: Drives a lock driver if its condition allows. -/
  | hrvActuate (h : Hdr) (p : Octets) (obs : Obs)
  /-- LOCK_DRIVE_TIMEOUT, R276: MAX_MS passes, and the drive ends with TIMEOUT. -/
  | lockDriveTimeout (n : Fin 2) (current : Nat)
  /-- LOCK_DRIVE_STALL, R276: The current stays at ILIM for 20 ms, and the drive ends with STALL. -/
  | lockDriveStall (n : Fin 2) (current : Nat)
  /-- HRV_POLICY, R278: Writes HRV_POLICY0 and HRV_POLICY1 together, from the next snapshot. -/
  | hrvPolicy (h : Hdr) (p : Octets)
  /-- CADENCE_POINT, R250: A release-period trigger fires; the period snapshots, evaluates, composes and hands over sheaves. -/
  | cadencePoint (obs : PeriodObs)
  /-- LATE_PERIOD_START, R21: A release period whose cadence point fell before its predecessor's headland starts after that headland. -/
  | latePeriodStart (obs : PeriodObs)
  /-- ALWAYS_ON_INPUT_SAMPLE, R510: The position and tamper inputs are sampled under the pulsed pull-up, and debounced changes take effect. -/
  | alwaysOnInputSample (tamper0 tamper1 posA posB : Bool) (currentA currentB : Nat)
  /-- SEQ_LOAD, R301: Stages a chunk of a Tilth image, and on LAST checks it and installs it. -/
  | seqLoad (h : Hdr) (p : Octets)
  /-- IMAGE_INSTALL, R303: A checked image is installed at the sequencer's next headland. -/
  | imageInstall (n : Fin 3)
  /-- SEQ_START, R297: Starts a sequencer, installing its image and zeroing its registers. -/
  | seqStart (h : Hdr) (p : Octets)
  /-- SEQ_STOP, R297: Stops a sequencer after its round's headland. -/
  | seqStop (h : Hdr) (p : Octets)
  /-- SEQ_STATUS, R308: Returns every SEQ_ register, captured at one point. -/
  | seqStatus (h : Hdr) (p : Octets)
  /-- NOP, R284: Tilth instruction that does nothing. -/
  | nop (n : Fin 3)
  /-- SET, R284: Tilth instruction that sets a register. -/
  | set (n : Fin 3)
  /-- ADD, R284: Tilth instruction that adds to a register. -/
  | add (n : Fin 3)
  /-- CMP, R284: Tilth instruction that compares and sets the flags. -/
  | cmp (n : Fin 3)
  /-- BRANCH, R284: Tilth instruction that jumps conditionally. -/
  | branch (n : Fin 3)
  /-- LOOP, R284: Tilth instruction that decrements a register and jumps while it is non-zero. -/
  | loop (n : Fin 3)
  /-- CALL, R284: Tilth instruction that calls, faulting with STACK_OVER at depth 4. -/
  | call (n : Fin 3)
  /-- RET, R284: Tilth instruction that returns, faulting with STACK_UNDER when the stack is empty. -/
  | ret (n : Fin 3)
  /-- GET, R285: Tilth instruction that reads a GET source. -/
  | get (n : Fin 3)
  /-- WAIT_TIME, R286: Tilth instruction that starts a clocked wait. -/
  | waitTime (n : Fin 3) (passed : Bool)
  /-- WAIT_TIME_END, R286: A Tilth wait expires, and the program continues. -/
  | waitTimeEnd (n : Fin 3)
  /-- WAIT_EVENT, R288: Tilth instruction that waits for a latched event line. -/
  | waitEvent (n : Fin 3)
  /-- SIGNAL, R289: Tilth instruction that latches a SIG line in a sequencer. -/
  | signal (n : Fin 3)
  /-- SEND_LF, R291: Tilth instruction that sends an LF wake, challenge or confirm frame in order. -/
  | sendLf (late vlfOk : Bool)
  /-- BURST, R291: Tilth instruction that sends the measurement burst. -/
  | burst (late vlfOk : Bool)
  /-- LISTEN, R291: Tilth instruction that opens UHF collection or vigil listening. -/
  | listen (late : Bool)
  /-- HEADLAND, R295: Tilth instruction that ends the round and lets its headland fall. -/
  | headland (n : Fin 3)
  /-- HALT, R296: Tilth instruction that ends the round and stops the sequencer. -/
  | halt (n : Fin 3)
  /-- ROUND_DEADLINE, R22: A round's deadline expires and brings its headland; abandonment, clearing and withheld-sheaf faults follow. -/
  | roundDeadline (n : Fin 3)
  /-- CPH_KEY_WRITE, R322: Writes a key slot in clear or wrapped form, taking effect at the seal. -/
  | cphKeyWrite (h : Hdr) (p : Octets)
  /-- CPH_KEY_ERASE, R326: Erases one key slot. -/
  | cphKeyErase (h : Hdr) (p : Octets)
  /-- CPH_KEY_ERASE_ALL, R327: Erases all slots to EMPTY and advances CTX_EPOCH. -/
  | cphKeyEraseAll (h : Hdr) (p : Octets)
  /-- CPH_KEY_DERIVE, R325: Derives a key into a slot by SP 800-108. -/
  | cphKeyDerive (h : Hdr) (p : Octets)
  /-- CPH_RUN, R330: Runs a chunk of a cipher mode on a context or as a single shot. -/
  | cphRun (h : Hdr) (p : Octets) (obs : Obs)
  /-- CPH_CTX_SAVE_COPY, R337: Copies a CMAC or decryption context. -/
  | cphCtxSaveCopy (h : Hdr) (p : Octets)
  /-- CPH_CTX_SAVE_EXPORT, R337: Exports a context as a wrapped copy and frees it. -/
  | cphCtxSaveExport (h : Hdr) (p : Octets)
  /-- CPH_CTX_RESTORE, R339: Restores a wrapped context after its checks. -/
  | cphCtxRestore (h : Hdr) (p : Octets)
  /-- CPH_RANDOM, R341: Returns DRBG output, reseeding first when PR is set. -/
  | cphRandom (h : Hdr) (p : Octets)
  /-- CPH_KEY_INFO, R329: Returns slot tags and KCVs. -/
  | cphKeyInfo (h : Hdr) (p : Octets)
  /-- DRBG_RESEED_DONE, R343: A reseed ends, or its health tests fail; three failed restarts put the DRBG in ERROR. -/
  | drbgReseedDone (ok : Bool) (apt : Bool)
  /-- NTC_CONFIG, R376: Writes and stores one network-time configuration register. -/
  | ntcConfig (h : Hdr) (p : Octets)
  /-- NTC_READ, R355: Returns the clock, the calendar and the ticks at one point. -/
  | ntcRead (h : Hdr) (p : Octets)
  /-- NTC_ADJUST, R360: Sets a frequency offset or adds a slewed offset. -/
  | ntcAdjust (h : Hdr) (p : Octets)
  /-- NTC_STEP, R361: Steps the local clock, absolutely or relatively. -/
  | ntcStep (h : Hdr) (p : Octets) (obs : Obs)
  /-- NTC_TRIGGER_ARM, R365: Arms a trigger slot. -/
  | ntcTriggerArm (h : Hdr) (p : Octets) (obs : Obs)
  /-- NTC_TRIGGER_DISARM, R365: Disarms a trigger slot. -/
  | ntcTriggerDisarm (h : Hdr) (p : Octets)
  /-- NTC_TRIGGER_READ, R365: Reads a trigger slot's setup. -/
  | ntcTriggerRead (h : Hdr) (p : Octets)
  /-- TRIGGER_FIRE, R366: The local clock reaches a slot's time, and its target acts. -/
  | triggerFire (slot : Fin 16) (coils : List CoilMeas)
  /-- CAPTURE_EDGE, R368: An edge on CAP0 or CAP1 is time-stamped and queued. -/
  | captureEdge (input : Fin 2) (rising : Bool)
  /-- NTC_CAPTURE_READ, R368: Returns and removes capture entries. -/
  | ntcCaptureRead (h : Hdr) (p : Octets)
  /-- NTC_CALENDAR_ATTEST, R373: Moves the calendar forward by a signed attestation and clears TIME_UNCERTAIN. -/
  | ntcCalendarAttest (h : Hdr) (p : Octets)
  /-- NTC_CALENDAR_READ, R372: Returns the calendar and the attestation nonce, drawing a nonce if none is live. -/
  | ntcCalendarRead (h : Hdr) (p : Octets)
  /-- TMR_CONFIG, R386: Configures a stopped timer and zeroes its count. -/
  | tmrConfig (h : Hdr) (p : Octets)
  /-- TMR_SET_COMPARE, R383: Writes a compare value judged against the count, possibly firing a late match. -/
  | tmrSetCompare (h : Hdr) (p : Octets)
  /-- TMR_READ, R388: Reads one timer. -/
  | tmrRead (h : Hdr) (p : Octets)
  /-- TMR_READ_PAIR, R388: Reads two counts and the tick count at one point. -/
  | tmrReadPair (h : Hdr) (p : Octets)
  /-- TMR_START, R387: Starts the masked timers. -/
  | tmrStart (h : Hdr) (p : Octets)
  /-- TMR_STOP, R387: Stops the masked timers. -/
  | tmrStop (h : Hdr) (p : Octets)
  /-- TMR_CLEAR, R387: Zeroes the counts of the masked timers. -/
  | tmrClear (h : Hdr) (p : Octets)
  /-- TMR_SNAPSHOT_ALL, R388: Captures all 32 counts and the tick count. -/
  | tmrSnapshotAll (h : Hdr) (p : Octets)
  /-- GPIO_EDGE, R381: A GPIO edge is processed for the timers it feeds. -/
  | gpioEdge (pin : Fin 16) (level : Bool)
  /-- TIMER_MATCH, R384: A timer's count reaches its compare, with flags, links, sequencer lines, wake and event. -/
  | timerMatch (n : Fin 32)
  /-- TIMER_OVERFLOW, R384: A timer's count wraps to 0, with the effects of a match. -/
  | timerOverflow (n : Fin 32)
  /-- MEM_READ, R417: Reads working-memory words. -/
  | memRead (h : Hdr) (p : Octets)
  /-- MEM_WRITE, R417: Writes words or octets to the user area. -/
  | memWrite (h : Hdr) (p : Octets)
  /-- MEM_SCRUB, R431: Scrubs a range of working memory once. -/
  | memScrub (h : Hdr) (p : Octets)
  /-- MEM_FAULT_LOG_READ, R437: Reads fault-log entries. -/
  | memFaultLogRead (h : Hdr) (p : Octets)
  /-- MEM_RETIRE, R433: Retires a bank, copying it to a spare. -/
  | memRetire (h : Hdr) (p : Octets)
  /-- MEM_ERROR_INJECT, R439: Injects a bit flip or poison into a word. -/
  | memErrorInject (h : Hdr) (p : Octets)
  /-- NVM_READ, R443: Reads store words from a readable region. -/
  | nvmRead (h : Hdr) (p : Octets)
  /-- NVM_WRITE, R450: Writes words to a user page through the buffer. -/
  | nvmWrite (h : Hdr) (p : Octets)
  /-- NVM_COMMIT, R451: Commits the write buffer. -/
  | nvmCommit (h : Hdr) (p : Octets)
  /-- PAGE_COMMIT_DONE, R446: The pages of a commit are programmed, sealed and verified, and the waiting replies follow. -/
  | pageCommitDone (fails : List Nat)
  /-- PAGE_ERASE_DONE, R444: A background page erase ends, and the page joins the pool. -/
  | pageEraseDone (ok : Bool)
  /-- NVM_PASSWORD_PRESENT, R462: Puts a region password in force for the context. -/
  | nvmPasswordPresent (h : Hdr) (p : Octets)
  /-- NVM_PASSWORD_SET, R462: Sets a region password. -/
  | nvmPasswordSet (h : Hdr) (p : Octets)
  /-- NVM_PASSWORD_REMOVE, R462: Removes a region password. -/
  | nvmPasswordRemove (h : Hdr) (p : Octets)
  /-- NVM_PASSWORD_WITHDRAW, R462: Takes the context's passwords for a region out of force. -/
  | nvmPasswordWithdraw (h : Hdr) (p : Octets)
  /-- NVM_PASSWORD_RESET, R462: Erases a user region and then removes its passwords. -/
  | nvmPasswordReset (h : Hdr) (p : Octets)
  /-- PW_BACKOFF_END, R462: The 60 s password back-off ends. -/
  | pwBackoffEnd (ctx : Fin 8)
  /-- NVM_TALLY_INCREMENT, R460: Increments a user tally counter. -/
  | nvmTallyIncrement (h : Hdr) (p : Octets)
  /-- TALLY_INCREMENT_DONE, R458: A tally increment or carry is verified, completing a block reservation or an epoch advance. -/
  | tallyIncrementDone (jump : Nat)
  /-- NVM_TALLY_READ, R460: Reads a tally counter. -/
  | nvmTallyRead (h : Hdr) (p : Octets)
  /-- NVM_PATROL, R465: Runs a full patrol pass at once. -/
  | nvmPatrol (h : Hdr) (p : Octets) (obs : Obs)
  /-- PATROL_PAGE_DUE, R463: The next page falls due for a margin read, and is refreshed or retired. -/
  | patrolPageDue (health : PageHealth)
  /-- NVM_REGULATORY_WRITE, R467: Writes the regulatory record in all 8 copies. -/
  | nvmRegulatoryWrite (h : Hdr) (p : Octets)
  /-- NVM_REGULATORY_LOCK, R467: Locks the regulatory page for ever. -/
  | nvmRegulatoryLock (h : Hdr) (p : Octets)
  /-- REGULATORY_LIMITS_APPLY, R127: Stricter regulatory limits take effect at a tract's next headland. -/
  | regulatoryLimitsApply (tract : Fin 3)
  /-- NVM_STATUS, R468: Returns every NVM_ register, captured at one point. -/
  | nvmStatus (h : Hdr) (p : Octets)
  /-- OUTPUT_PACKET_DELIVERED, R42: The last CRC octet of a reply or event packet is clocked out on SPI, or sent on UART-C, so the packet counts as delivered, its command stops being pending, and ATTN may deassert. -/
  | outputPacketDelivered (port : Port)
  /-- UHF_CAPTURE_DONE, R164: A running UHF capture reaches its LENGTH, or is cut at a headland, and UHF_STATUS.CAPT goes from running to done. -/
  | uhfCaptureDone (samples : List (Int × Int))
  /-- TRIG_PULSE_END, R365: PULSE_US after a trigger slot fires a pulse on a TRIG pin, the pin returns to its inactive level. -/
  | trigPulseEnd (pin : Fin 4)
  /-- VDDIO_CHANGE, R509: VDDIO is lost or returns, and every VDDIO-domain ball goes to, or leaves, its fail-safe high-impedance state, with GPIO edge counting stopping or resuming. -/
  | vddioChange (present : Bool)
  /-- UART_START_BIT, R401: A UART-C start bit while the device is in SLEEP or DEEP wakes it. -/
  | uartStartBit
  /-- SYNC_INTERVAL, R357: The master's Sync interval expires, and it sends Sync and Follow_Up. -/
  | syncInterval
  /-- ANNOUNCE_INTERVAL, R357: The master's announce interval expires, and it sends Announce. -/
  | announceInterval
  /-- ANNOUNCE_TIMEOUT, R357: Three announce intervals pass without an Announce from the held master; the clock becomes FREE and MASTER_LOST is set. -/
  | announceTimeout
  /-- TRANSMIT_OPPORTUNITY, R547: A PLCA transmit opportunity, or an idle medium in CSMA/CD, lets the waiting frame of highest priority start. -/
  | transmitOpportunity
  /-- FW_TRANSFER_TIMEOUT, R480: 60 s pass without a chunk, and the open firmware transfer is dropped. -/
  | fwTransferTimeout
  /-- REPLY_COLLECTION_TIMEOUT, R59: 10 ms pass after the last command completes before an entry, and uncollected replies are discarded. -/
  | replyCollectionTimeout
  /-- CLAIM_WAIT_TIMEOUT, R397: WAIT_MS passes while a claim still forbids the state, and PWR_ENTER returns BUSY. -/
  | claimWaitTimeout
  /-- ENTRY_BEGIN, R399: The last forbidding claim clears, entry begins, dispatch stops and the drain of step 4 starts. -/
  | entryBegin
  /-- ENTRY_DRAIN_COMPLETE, R399: The drain of a power-state entry ends; the commit for DEEP or OFF and the OK reply follow. -/
  | entryDrainComplete
  /-- POWER_STATE_REACHED, R400: After the save list is written and the domains are clamped, the state is reached, and a latched wake starts the exit at once. -/
  | powerStateReached
  /-- VCORE_RAMP_DONE, R394: A VCORE ramp ends, and the reply to PWR_PROFILE follows. -/
  | vcoreRampDone
  /-- VSYS_FALL, R411: VSYS falls below 2.85 V: rounds end, the power-down commit runs and the device enters DEEP on VBKUP. -/
  | vsysFall
  /-- VSYS_RETURN, R412: VSYS rises above 3.0 V and wakes the device from DEEP, or leaves OFF with a cold start. -/
  | vsysReturn
  /-- COLD_START, R407: Supply appears with no always-on state, and the device starts cold. -/
  | coldStart
  /-- VBKUP_LOW, R412: VBKUP falls below 1.8 V while VSYS is present, which sets VBKUP_LOW. -/
  | vbkupLow
  /-- VCORE_OK, R405: The main regulator reaches its RUN level during a return to work. -/
  | vcoreOk
  /-- VCORE_TIMEOUT, R406: VCORE_OK is not asserted within 5 ms, and the regulator is restarted from off, up to three times. -/
  | vcoreTimeout
  /-- XO_OK, R405: The 38.4 MHz oscillator is stable. -/
  | xoOk
  /-- XO_TIMEOUT, R406: XO_OK is not asserted within 10 ms; the start goes on without the oscillator and sets XO_FAIL. -/
  | xoTimeout
  /-- XO_RETRY, R406: The 1 s oscillator retry interval expires while XO_FAIL is set. -/
  | xoRetry
  /-- XO32_STABLE, R527: The 32.768 kHz crystal becomes stable, and the always-on tick moves to it at a tick boundary. -/
  | xo32Stable
  /-- LF_CONFIG_APPLY, R122: An LF configuration, plan or trim change waiting on a round takes effect at its headland, and the reply follows. -/
  | lfConfigApply
  /-- POLL_POINT, R116: A presence-poll grid point arrives: the poll runs, or is skipped, and the polling-stop check is made. -/
  | pollPoint
  /-- RIDE_POINT, R117: A ride grid point arrives and starts a full round, or is skipped. -/
  | ridePoint
  /-- FULL_ROUND_START, R118: A full round starts after a PRESENT result, or on FULL_NOW, once the gap or the UHF start allows it. -/
  | fullRoundStart
  /-- HOLDOFF_END, R118: The holdoff after a full round without an acceptance ends. -/
  | holdoffEnd
  /-- VLF_LIMITER_TRIP, R96: The VLF limiter reaches 2.0 A; the element stops, and its coils are ABANDONED with VLF_LIMIT. -/
  | vlfLimiterTrip
  /-- UHF_PLAN_APPLY, R141: A plan waiting on a round takes effect at its headland after retuning, and the reply follows. -/
  | uhfPlanApply
  /-- UWB_CFG_APPLY, R204: A UWB_CFG write waiting on a round takes effect at its headland, and the reply follows. -/
  | uwbCfgApply
  /-- RADIO_IDLE_TIMEOUT, R175: 10 ms pass with no session open, and the radio goes OFF. -/
  | radioIdleTimeout
  /-- SYNTHESISER_LOCK, R194: The UWB synthesiser locks, and a held frame proceeds. -/
  | synthesiserLock
  /-- ROSTER_COMPACTION_DONE, R216: A background compaction pass ends, having reclaimed old and revoked entries. -/
  | rosterCompactionDone
  /-- COUNTER_LOG_FOLD, R211: Once per calendar day, or at 384 entries, the counter log is folded into the roster pages. -/
  | counterLogFold
  /-- BATTERY_RECHECK, R235: RECHECK_MIN expires, and a battery exchange starts, or is deferred until link. -/
  | batteryRecheck
  /-- BATTERY_RESPONSE_TIMEOUT, R238: 20 ms pass after CHALLENGE without a RESPONSE, and the attempt fails NO_RESPONSE. -/
  | batteryResponseTimeout
  /-- BATTERY_RETRY, R238: 100 ms after a failed attempt, a new attempt is sent with a new RV. -/
  | batteryRetry
  /-- BATTERY_LINK_TIMEOUT, R238: No link within 1 s of the start of an exchange, and the attempt fails LINK. -/
  | batteryLinkTimeout
  /-- STAGING_TIMEOUT, R301: 10 s pass without a chunk, and the staging is dropped. -/
  | stagingTimeout
  /-- RANGE, R292: Tilth instruction that runs the slot sequence of the due session. -/
  | range
  /-- EMIT, R293: Tilth instruction that queues a receiver's composed sheaf for transmission. -/
  | emit
  /-- QUARANTINE_END, R316: The 32,768-tick quarantine ends. -/
  | quarantineEnd
  /-- DRBG_RESEED_DUE, R341: The request count or the 600 s age is reached, and a background reseed starts. -/
  | drbgReseedDue
  /-- ATTEST_NONCE_EXPIRY, R372: The ATTEST_NONCE's 300 s life ends. -/
  | attestNonceExpiry
  /-- ALWAYS_ON_TICK, R381: An always-on tick increments timers and applies their links in fixed order. -/
  | alwaysOnTick
  /-- GLEANER_STEP, R430: The gleaner reads, corrects and writes back the next word. -/
  | gleanerStep
  /-- MERGE_BUFFER_EVICTION, R426: 1 µs after its last octet, a merge-buffer entry is written back. -/
  | mergeBufferEviction
  /-- STEWARD_RESTART, R422: Poison in firmware state leads, after the commit, to a restart of the steward firmware that keeps the release levels. -/
  | stewardRestart
  /-- COMMIT_MS_TIMEOUT, R451: COMMIT_MS passes after the oldest uncommitted write, and a commit starts. -/
  | commitMsTimeout
  /-- UWB_RECEIVE_SLOT_END, R194: A slot in which the device expects a phone frame, or a responder's listening window, ends with no valid frame, giving RANGE_UNCERTAIN with NO_RESPONSE or counting a missed POLL. -/
  | uwbReceiveSlotEnd
  /-- SLEW_COMPLETE, R360: An offset slew from NTC_ADJUST or from the servo's step-threshold handling has been fully applied, so NTC_STATUS.SLEWING clears and the rate returns to the servo or FREQ_PPB value. -/
  | slewComplete
  /-- VBKUP_LOSS, R412: VBKUP falls away while VSYS is absent, so the always-on domain, the calendar and the vigil lose power and the next start is cold with TIME_UNCERTAIN. -/
  | vbkupLoss
  /-- VBKUP_RETURN, R412: VBKUP rises back to 1.8 V or above while VSYS is present, and PWR_STATUS.VBKUP_OK returns to 1. -/
  | vbkupReturn
  deriving DecidableEq, Repr

end Sys2Proof
end

