-- ==== Sys2Proof/Decode.lean ====
section
/-!
DEFINITION. The command a table word spells. spec/opcode_table.json gives bits to none of its rows: host commands come as packets
(R39 to R49), the other rows are events, and a Tilth instruction is read from the program of its sequencer (`State.fetchOp`).
-/
namespace Sys2Proof

/-- No row of the table gives bits, so no word spells a command. DESIGN CHOICE, assumption log 3. -/
def decodeTableWord (_nbits _w : Nat) : Option Instr := none

end Sys2Proof
end

