-- ==== Sys2Proof/Config.lean ====
section
/-!
DEFINITION. What an implementation fixes and the spec does not state: identity values of one device, and the free values.
Every constant here is opaque: nothing can evaluate it, so whatever is proved holds for every value of it (assumption log 2).
-/
namespace Sys2Proof.Config

/-- SYS_IDENTIFY.SERIAL (R476). -/
opaque serial : BitVec 64

/-- The device's MAC address (R45, R476). -/
opaque mac : BitVec 48

/-- SYS_IDENTIFY.GRADE (R2): 0 -A, 1 -I. -/
opaque grade : BitVec 8

/-- SYS_IDENTIFY.DIE_REV (R499). -/
opaque dieRev : BitVec 8

/-- The version of the firmware image the device left production with (R476). -/
opaque fwVersion : BitVec 32

/-- The device-unique key (R336), which only the key loader reads; 32 octets once padded. -/
opaque deviceKey : BitVec 256

/-- R340: the n-th draw from the DRBG. -/
opaque drbg : Nat → BitVec 64

/-- R416: the content of a working-memory word whose layout belongs to the firmware, at an address, at a draw. -/
opaque firmwareWord : Nat → Nat → BitVec 40

/-- R431: the time a scrub takes, in µs, at a draw. -/
opaque scrubTime : Nat → BitVec 32

/-- R433: the SPARE octet of a MEM_RETIRE reply for a bank that needs no spare, at a draw. -/
opaque noSpare : Nat → BitVec 8

/-- R358: the rate, in ppb, that the PI servo gives for its state and an offset in ns; the spec gives no gains. -/
opaque servoRate : Int → Int → Int

/-- R358: the state of the PI servo after an offset in ns. -/
opaque servoNext : Int → Int → Int

/-- R370: whether a positive TRIM shortens the fraction steps; the spec states no sign. -/
opaque trimShortens : Bool

/-- R210: which of the FREE positions the device chooses for a new ID, at a draw. -/
opaque rosterPick : Nat → Nat

/-- R172: the UWB timestamp count, which starts from an undefined value, at a draw. -/
opaque uwbCount : Nat → BitVec 40

/-- A field of a record to which the spec gives no value in the case at hand, by its place, at a draw. -/
opaque openField : Nat → Nat → Int

/-- R266: MAX_MS of the drive that ACTUATE_B asks for, where it lies within the range of R274. -/
opaque lockDriveMs : Nat

/-- R266: ILIM of the drive that ACTUATE_B asks for, where it lies within the range of R274. -/
opaque lockDriveLimit : Nat

/-- PWR_RAILS: the three rails in mV, [37:0] of the register, as a measurement at a tick of the always-on count finds them. -/
opaque rails : BitVec 40 → BitVec 38

end Sys2Proof.Config
end

