-- ==== Sys2Proof/Machine/Crypto.lean ====
section
/-!
DEFINITION. The checks and ciphers the spec names and takes from outside: CRC-32C (R39, R79, R445), the AES block cipher,
AES-CMAC (SP 800-38B), AES-CCM (SP 800-38C), AES key wrap (SP 800-38F) and the SP 800-108 derivation.
PRESUMED: the spec names these algorithms and gives none of their inner steps; they are written here from their public standards.
Everything runs on plain numbers, so that Lean's kernel can evaluate a block.
-/
namespace Sys2Proof.Machine

open Sys2Proof

/-- One bit of the reflected CRC-32C division (polynomial 0x1EDC6F41, reflected 0x82F63B78). -/
def crc32cBit (c : Nat) : Nat := if c % 2 = 1 then (c / 2) ^^^ 0x82F63B78 else c / 2

/-- One octet of CRC-32C. -/
def crc32cStep (c : Nat) (o : Octet) : Nat :=
  crc32cBit (crc32cBit (crc32cBit (crc32cBit (crc32cBit (crc32cBit (crc32cBit (crc32cBit (c ^^^ o.toNat))))))))

/-- CRC-32C of an octet string: start at all ones, complement at the end. Left open: PRESUMED, assumption log 12. -/
def crc32c (os : Octets) : BitVec 32 := BitVec.ofNat 32 (os.foldl crc32cStep 0xFFFFFFFF ^^^ 0xFFFFFFFF)

/-- One bit of an unreflected CRC of `n` bits with polynomial `poly`; `b` is the message bit. -/
def crcBit (n poly : Nat) (c b : Nat) : Nat :=
  let top := (c / 2 ^ (n - 1)) % 2
  let sh := (c * 2) % 2 ^ n
  if top ^^^ b = 1 then sh ^^^ poly else sh

/-- An unreflected CRC of `n` bits over octets sent most significant bit first. Left open: PRESUMED, assumption log 12. -/
def crcMsb (n poly init : Nat) (os : Octets) : Nat :=
  os.foldl (fun c o => [7, 6, 5, 4, 3, 2, 1, 0].foldl (fun c i => crcBit n poly c ((o.toNat >>> i) % 2)) c) init

/-! AES (FIPS 197). Octets are numbers below 256 here; a block is a list of 16, in column order. -/

/-- The S-box, entry `i` in bits [8i+7 : 8i]. -/
def aesSboxT : Nat := 0x16bb54b00f2d99416842e6bf0d89a18cdf2855cee9871e9b948ed9691198f8e19e1dc186b95735610ef6034866b53e708a8bbd4b1f74dde8c6b4a61c2e2578ba08ae7a65eaf4566ca94ed58d6d37c8e779e4959162acd3c25c2406490a3a32e0db0b5ede14b8ee4688902a22dc4f816073195d643d7ea7c41744975fec130ccdd2f3ff1021dab6bcf5389d928f40a351a89f3c507f02f94585334d43fbaaefd0cf584c4a39becb6a5bb1fc20ed00d153842fe329b3d63b52a05a6e1b1a2c830975b227ebe28012079a059618c323c7041531d871f1e5a534ccf73f362693fdb7c072a49cafa2d4adf04759fa7dc982ca76abd7fe2b670130c56f6bf27b777c63

/-- The inverse S-box, laid out as `aesSboxT`. -/
def aesInvT : Nat := 0x7d0c2155631469e126d677ba7e042b17619953833cbbebc8b0f52aae4d3be0a0ef9cc9939f7ae52d0d4ab519a97f51605fec8027591012b131c7078833a8dd1ff45acd78fec0db9a2079d2c64b3e56fc1bbe18aa0e62b76f89c5291d711af1476edf751ce837f9e28535ade72274ac9673e6b4f0cecff297eadc674f4111913a6b8a130103bdafc1020f3fca8f1e2cd00645b3b80558e4f70ad3bc8c00abd890849d8da75746155edab9edfd5048706c92b6655dcc5ca4d41698688664f6f87225d18b6d49a25b76b224d92866a12e084ec3fa420b954cee3d23c2a632947b54cbe9dec444438e3487ff2f9b8239e37cfbd7f3819ea340bf38a53630d56a0952

/-- S-box lookup. -/
def aesSub (b : Nat) : Nat := (aesSboxT >>> (8 * b)) % 256

/-- Inverse S-box lookup. -/
def aesInvSub (b : Nat) : Nat := (aesInvT >>> (8 * b)) % 256

/-- Doubling in GF(2^8). -/
def aesDbl (b : Nat) : Nat := if b < 128 then 2 * b else (2 * b - 256) ^^^ 0x1B

/-- Octet-wise exclusive or; the longer tail is dropped. -/
def xorN (a b : List Nat) : List Nat := List.zipWith (· ^^^ ·) a b

/-- The octets of a block that ShiftRows puts in each place. -/
def aesRows : List Nat := [0, 5, 10, 15, 4, 9, 14, 3, 8, 13, 2, 7, 12, 1, 6, 11]

/-- The octets of a block that the inverse of ShiftRows puts in each place. -/
def aesInvRows : List Nat := [0, 13, 10, 7, 4, 1, 14, 11, 8, 5, 2, 15, 12, 9, 6, 3]

/-- MixColumns on each column. -/
def aesMix : List Nat → List Nat
  | a :: b :: c :: d :: r =>
    let t := a ^^^ b ^^^ c ^^^ d
    (a ^^^ t ^^^ aesDbl (a ^^^ b)) :: (b ^^^ t ^^^ aesDbl (b ^^^ c)) ::
    (c ^^^ t ^^^ aesDbl (c ^^^ d)) :: (d ^^^ t ^^^ aesDbl (d ^^^ a)) :: aesMix r
  | r => r

/-- The inverse of MixColumns, as a pre-addition before MixColumns. -/
def aesInvMix : List Nat → List Nat
  | a :: b :: c :: d :: r =>
    let u := aesDbl (aesDbl (a ^^^ c))
    let v := aesDbl (aesDbl (b ^^^ d))
    aesMix [a ^^^ u, b ^^^ v, c ^^^ u, d ^^^ v] ++ aesInvMix r
  | r => r

/-- Key expansion: `win` is the last Nk words, `i` the number of the next word, `rc` the round constant. -/
def aesExpand (nk : Nat) : Nat → Nat → Nat → List (List Nat) → List (List Nat)
  | 0, _, _, _ => []
  | n + 1, i, rc, win =>
    let t := win.getLastD []
    let t' := if i % nk = 0 then
        xorN ((t.drop 1 ++ t.take 1).map aesSub) [rc, 0, 0, 0]
      else if nk = 8 ∧ i % 8 = 4 then t.map aesSub else t
    let w := xorN (win.headD []) t'
    w :: aesExpand nk n (i + 1) (if i % nk = 0 then aesDbl rc else rc) (win.drop 1 ++ [w])

/-- A list cut into runs of `k`, at most `n` of them. -/
def chunks {α : Type} (k : Nat) : Nat → List α → List (List α)
  | 0, _ => []
  | n + 1, l => if l.isEmpty then [] else l.take k :: chunks k n (l.drop k)

/-- The round keys of a 16- or 32-octet key, each a block. -/
def aesKeys (key : List Nat) : List (List Nat) :=
  let nk := key.length / 4
  let w0 := chunks 4 nk key
  let nw := 4 * (nk + 7)
  chunks 16 (nk + 7) ((w0 ++ aesExpand nk (nw - nk) nk 1 w0).flatten)

/-- The rounds of encryption after the first key addition. -/
def aesRounds : List (List Nat) → List Nat → List Nat
  | [], st => st
  | [k], st => xorN (aesRows.map (fun i => aesSub (st.getD i 0))) k
  | k :: ks, st => aesRounds ks (xorN (aesMix (aesRows.map (fun i => aesSub (st.getD i 0)))) k)

/-- The rounds of decryption after the first key addition. -/
def aesInvRounds : List (List Nat) → List Nat → List Nat
  | [], st => st
  | [k], st => xorN (aesInvRows.map (fun i => aesInvSub (st.getD i 0))) k
  | k :: ks, st => aesInvRounds ks (aesInvMix (xorN (aesInvRows.map (fun i => aesInvSub (st.getD i 0))) k))

/-- AES encryption of one block under expanded keys. -/
def aesEncN (ks : List (List Nat)) (blk : List Nat) : List Nat :=
  match ks with
  | [] => blk
  | k :: r => aesRounds r (xorN blk k)

/-- AES decryption of one block under expanded keys. -/
def aesDecN (ks : List (List Nat)) (blk : List Nat) : List Nat :=
  match ks.reverse with
  | [] => blk
  | k :: r => aesInvRounds r (xorN blk k)

/-- Octets as numbers. -/
def nums (os : Octets) : List Nat := os.map BitVec.toNat

/-- Numbers as octets. -/
def octs (ns : List Nat) : Octets := ns.map (BitVec.ofNat 8)

/-- AES encryption of a 16-octet block under a 16- or 32-octet key. Left open: PRESUMED, assumption log 12. -/
def aesEnc (key blk : Octets) : Octets := octs (aesEncN (aesKeys (nums key)) (nums blk))

/-- AES decryption of a 16-octet block. Left open: PRESUMED, assumption log 12. -/
def aesDec (key blk : Octets) : Octets := octs (aesDecN (aesKeys (nums key)) (nums blk))

/-- Sixteen zero octets. -/
def zeroBlock : List Nat := List.replicate 16 0

/-- Big-endian number of a list of octets. -/
def beNum (ns : List Nat) : Nat := ns.foldl (fun a b => a * 256 + b) 0

/-- The `n` big-endian octets of a number. -/
def beOf (n v : Nat) : List Nat := ((nums (leOf n v))).reverse

/-- Doubling in GF(2^128), the subkey step of SP 800-38B. -/
def cmacDbl (b : List Nat) : List Nat :=
  let v := beNum b * 2
  beOf 16 (if v < 2 ^ 128 then v else (v % 2 ^ 128) ^^^ 0x87)

/-- The chaining of CMAC over whole blocks. -/
def cbcMac (ks : List (List Nat)) (iv : List Nat) (blks : List (List Nat)) : List Nat :=
  blks.foldl (fun a b => aesEncN ks (xorN a b)) iv

/-- The last block of CMAC: a whole block is masked with K1; any other is padded with 0x80 and masked with K2. -/
def cmacLast (ks : List (List Nat)) (last : List Nat) : List Nat :=
  let k1 := cmacDbl (aesEncN ks zeroBlock)
  if last.length = 16 then xorN last k1
  else xorN (last ++ [0x80] ++ List.replicate (15 - last.length) 0) (cmacDbl k1)

/-- How many octets go before the last block of CMAC. -/
def cmacBody (len : Nat) : Nat := if len = 0 then 0 else 16 * ((len - 1) / 16)

/-- AES-CMAC of a message, 16 octets. Left open: PRESUMED, assumption log 12. -/
def cmac (key msg : Octets) : Octets :=
  let ks := aesKeys (nums key)
  let m := nums msg
  let n := cmacBody m.length
  let body := chunks 16 m.length (m.take n)
  octs (aesEncN ks (xorN (cbcMac ks zeroBlock body) (cmacLast ks (m.drop n))))

/-- R45, R55: AES-CMAC truncated to its leftmost 64 bits, as the number its 8 octets spell little-endian. -/
def cmac64 (key msg : Octets) : BitVec 64 := BitVec.ofNat 64 (natOf ((cmac key msg).take 8))

/-- Zero padding to whole blocks. -/
def padBlocks (m : List Nat) : List (List Nat) :=
  (chunks 16 m.length m).map (fun b => b ++ List.replicate (16 - b.length) 0)

/-- CCM: the first block B0 (SP 800-38C) from tag length, nonce, associated-data flag and payload length. -/
def ccmB0 (t : Nat) (nonce : List Nat) (aad : Bool) (plen : Nat) : List Nat :=
  let q := 15 - nonce.length
  ((if aad then 64 else 0) + 8 * ((t - 2) / 2) + (q - 1)) :: (nonce ++ beOf q plen)

/-- CCM: the associated data with its length prefix (below 65,280 octets). -/
def ccmAad (aad : List Nat) : List Nat := if aad.isEmpty then [] else beOf 2 aad.length ++ aad

/-- CCM: the counter block of index `i`. -/
def ccmCtr (nonce : List Nat) (i : Nat) : List Nat :=
  let q := 15 - nonce.length
  (q - 1) :: (nonce ++ beOf q i)

/-- Encryption of a message by counter blocks from index `i`. -/
def ctrXor (ks : List (List Nat)) (ctr : Nat → List Nat) : Nat → List (List Nat) → List Nat
  | _, [] => []
  | i, b :: bs => xorN b (aesEncN ks (ctr i)) ++ ctrXor ks ctr (i + 1) bs

/-- CCM: the tag before truncation is masked with counter block 0. -/
def ccmTag (ks : List (List Nat)) (t : Nat) (nonce aad m : List Nat) : List Nat :=
  let mac := cbcMac ks zeroBlock (ccmB0 t nonce (!aad.isEmpty) m.length :: (padBlocks (ccmAad aad) ++ padBlocks m))
  (xorN mac (aesEncN ks (ccmCtr nonce 0))).take t

/-- AES-CCM generation: ciphertext followed by a tag of `t` octets. Left open: PRESUMED, assumption log 12. -/
def ccmSeal (key nonce aad msg : Octets) (t : Nat) : Octets :=
  let ks := aesKeys (nums key)
  let m := nums msg
  octs (ctrXor ks (ccmCtr (nums nonce)) 1 (chunks 16 m.length m) ++ ccmTag ks t (nums nonce) (nums aad) m)

/-- AES-CCM verification: the plaintext, if the tag holds. Left open: PRESUMED, assumption log 12. -/
def ccmOpen (key nonce aad ct tag : Octets) : Option Octets :=
  let ks := aesKeys (nums key)
  let c := nums ct
  let m := ctrXor ks (ccmCtr (nums nonce)) 1 (chunks 16 c.length c)
  if ccmTag ks tag.length (nums nonce) (nums aad) m = nums tag then some (octs m) else none

/-- AES key wrap (SP 800-38F KW): one step over register `a` and semiblock `r`, with step number `t`. -/
def kwStep (ks : List (List Nat)) (t : Nat) (a r : List Nat) : List Nat × List Nat :=
  let b := aesEncN ks (a ++ r)
  (xorN (b.take 8) (beOf 8 t), b.drop 8)

/-- One pass of key wrap over the semiblocks. -/
def kwPass (ks : List (List Nat)) : Nat → List Nat → List (List Nat) → List Nat × List (List Nat)
  | _, a, [] => (a, [])
  | t, a, r :: rs =>
    let (a', r') := kwStep ks t a r
    let (a'', rs') := kwPass ks (t + 1) a' rs
    (a'', r' :: rs')

/-- The six passes of key wrap. -/
def kwPasses (ks : List (List Nat)) : Nat → Nat → List Nat → List (List Nat) → List Nat × List (List Nat)
  | 0, _, a, rs => (a, rs)
  | n + 1, t, a, rs =>
    let (a', rs') := kwPass ks t a rs
    kwPasses ks n (t + rs.length) a' rs'

/-- AES key wrap of whole semiblocks of 8 octets. Left open: PRESUMED, assumption log 12. -/
def kwWrap (kek msg : Octets) : Octets :=
  let (a, rs) := kwPasses (aesKeys (nums kek)) 6 1 (List.replicate 8 0xA6) (chunks 8 msg.length (nums msg))
  octs (a ++ rs.flatten)

/-- One pass of key unwrap, over the semiblocks last first; `t` is the highest step number of the pass. -/
def kwUnpass (ks : List (List Nat)) : Nat → List Nat → List (List Nat) → List Nat × List (List Nat)
  | _, a, [] => (a, [])
  | t, a, r :: rs =>
    let b := aesDecN ks (xorN a (beOf 8 t) ++ r)
    let (a'', rs') := kwUnpass ks (t - 1) (b.take 8) rs
    (a'', b.drop 8 :: rs')

/-- The six passes of key unwrap. -/
def kwUnpasses (ks : List (List Nat)) : Nat → Nat → List Nat → List (List Nat) → List Nat × List (List Nat)
  | 0, _, a, rs => (a, rs)
  | n + 1, t, a, rs =>
    let (a', rs') := kwUnpass ks t a rs
    kwUnpasses ks n (t - rs.length) a' rs'

/-- AES key unwrap: the message, if the check value 0xA6A6... comes back. Left open: PRESUMED, assumption log 12. -/
def kwUnwrap (kek ct : Octets) : Option Octets :=
  let c := nums ct
  let rs := (chunks 8 c.length (c.drop 8)).reverse
  let (a, out) := kwUnpasses (aesKeys (nums kek)) 6 (6 * rs.length) (c.take 8) rs
  if a = List.replicate 8 0xA6 then some (octs out.reverse.flatten) else none

/-! ## Keys the device makes for itself (R319, R336) -/

/-- R319: the key check value of a key: the leftmost 24 bits of the encryption of a zero block. -/
def kcvOf (key : Octets) : Nat := beNum ((nums (aesEnc key (List.replicate 16 0))).take 3)

/-- The device-unique key as octets. -/
def deviceKeyOctets : Octets := leOf 32 Config.deviceKey.toNat

/-- R336: the context wrapping key of an epoch. -/
def slot0Key (epoch : Nat) : Octets :=
  let half (b : Octet) : Octets := cmac deviceKeyOctets ([0x43, 0x54, 0x58, b] ++ octs (beOf 3 epoch))
  half 0x00 ++ half 0x01

end Sys2Proof.Machine
end

