-- ==== Sys2Proof/Machine/Flags.lean ====
section
/-!
DEFINITION. Flags and counters of the register file: the W1C flag registers and the RC count registers of R12 and R15.
-/
namespace Sys2Proof.Machine

open Sys2Proof

/-- Sets flag `i` of a W1C register. -/
def raiseFlag (w : Word) (i : Nat) : Word := w ||| flag i true

/-- R12, R15: a W1C write: 1 clears the flag, 0 leaves it unchanged. -/
def w1cWrite (w v : Word) : Word := w &&& ~~~v

/-- A count field of `len` bits at `lo` goes up by `n` and saturates at its greatest value. -/
def bumpBy (w : Word) (lo len n : Nat) : Word :=
  setFld w lo len (min (fld w lo len + n) (2 ^ len - 1))

/-- A 16-bit count field goes up by one and saturates at 0xFFFF. -/
def bump (w : Word) (lo : Nat) : Word := bumpBy w lo 16 1

/-- A number that counts up by one to a greatest value and stays there. -/
def satSucc (n top : Nat) : Nat := min (n + 1) top

end Sys2Proof.Machine
end

