-- ==== Sys2Proof/Machine/Lists.lean ====
section
/-!
DEFINITION. Sparse data by key: lists of (key, value) pairs with keys strictly rising and no value equal to what an unlisted
key reads as. Working memory and the store are held this way.
-/
namespace Sys2Proof.Machine

open Sys2Proof

/-- The value at a key; `d` where the key is not listed. -/
def alGet {α : Type} (d : α) : List (Nat × α) → Nat → α
  | [], _ => d
  | (k, v) :: r, a => if a = k then v else alGet d r a

/-- Writes a value at a key; writing `d`, what the unlisted key reads as, removes the entry. -/
def alPut {α : Type} [DecidableEq α] (d : α) (a : Nat) (x : α) : List (Nat × α) → List (Nat × α)
  | [] => if x = d then [] else [(a, x)]
  | (k, v) :: r =>
    if a < k then (if x = d then (k, v) :: r else (a, x) :: (k, v) :: r)
    else if a = k then (if x = d then r else (a, x) :: r)
    else (k, v) :: alPut d a x r

/-- Keys strictly rise. -/
def keysRise {α : Type} : List (Nat × α) → Bool
  | [] => true
  | [_] => true
  | (k, _) :: (k', v') :: r => decide (k < k') && keysRise ((k', v') :: r)

/-- Removes every key of [lo, lo + n). -/
def alCut {α : Type} (lo n : Nat) (l : List (Nat × α)) : List (Nat × α) :=
  l.filter (fun kv => decide (kv.1 < lo) || decide (lo + n ≤ kv.1))

/-- Keeps the keys of [lo, lo + n). -/
def alPart {α : Type} (lo n : Nat) (l : List (Nat × α)) : List (Nat × α) :=
  l.filter (fun kv => decide (lo ≤ kv.1) && decide (kv.1 < lo + n))

/-- A list of numbers with one added in its place; rising lists stay rising. -/
def addNat (a : Nat) : List Nat → List Nat
  | [] => [a]
  | k :: r => if a < k then a :: k :: r else if a = k then k :: r else k :: addNat a r

/-- The first `n` numbers from `lo`. -/
def span (lo n : Nat) : List Nat := (List.range n).map (lo + ·)

end Sys2Proof.Machine
end

