-- ==== Sys2Proof/Machine/Operands.lean ====
section
/-!
DEFINITION. The operand forms of the commands: the parameter fields of R469, each little-endian under R10, by offset and width;
and the octets of the fields a reply or an event carries.
-/
namespace Sys2Proof.Machine

open Sys2Proof

/-- The octet at an offset; 0 past the end. -/
def p8 (p : Octets) (i : Nat) : Nat := (p.getD i 0).toNat

/-- The field of `n` octets at an offset. -/
def pN (p : Octets) (i n : Nat) : Nat := natOf ((p.drop i).take n)

/-- The field of 2 octets at an offset. -/
def p16 (p : Octets) (i : Nat) : Nat := pN p i 2

/-- The field of 3 octets at an offset. -/
def p24 (p : Octets) (i : Nat) : Nat := pN p i 3

/-- The field of 4 octets at an offset. -/
def p32 (p : Octets) (i : Nat) : Nat := pN p i 4

/-- The word, 5 octets, at an offset. -/
def pW (p : Octets) (i : Nat) : Word := BitVec.ofNat 40 (pN p i 5)

/-- The field of 6 octets at an offset. -/
def p48 (p : Octets) (i : Nat) : Nat := pN p i 6

/-- The field of 8 octets at an offset. -/
def p64 (p : Octets) (i : Nat) : Nat := pN p i 8

/-- A signed field of `n` octets at an offset. -/
def pS (p : Octets) (i n : Nat) : Int := signed (8 * n) (pN p i n)

/-- A run of octets at an offset. -/
def pRun (p : Octets) (i n : Nat) : Octets := (p.drop i).take n

/-- A bit of the octet at an offset. -/
def pBit (p : Octets) (i b : Nat) : Bool := (p.getD i 0).getLsbD b

/-- Octets [i, i + n) replaced by zeros (R79). -/
def blankOut (p : Octets) (i n : Nat) : Octets :=
  p.take i ++ List.replicate (min n (p.length - i)) 0 ++ p.drop (i + n)

/-- One octet of a number. -/
def o8 (v : Nat) : Octets := leOf 1 v

/-- Two octets of a number. -/
def o16 (v : Nat) : Octets := leOf 2 v

/-- Four octets of a number. -/
def o32 (v : Nat) : Octets := leOf 4 v

/-- Eight octets of a signed number. -/
def oS64 (v : Int) : Octets := leOf 8 (twos 64 v)

/-- A truth value as 0 or 1. -/
def b2n (b : Bool) : Nat := if b then 1 else 0

end Sys2Proof.Machine
end

