-- ==== Sys2Proof/Machine/Secded.lean ====
section
/-!
DEFINITION. The SEC-DED code of working memory (R418, R419): how a word is stored, and what reading stored bits gives.
-/
namespace Sys2Proof.Machine

open Sys2Proof

/-- R418: the columns of data bits 0 to 34, the 7-bit values of weight 3 in rising order, and of 35 to 39, the first of weight 5. -/
def dataCols : List Nat :=
  [7, 11, 13, 14, 19, 21, 22, 25, 26, 28, 35, 37, 38, 41, 42, 44, 49, 50, 52, 56, 67, 69, 70, 73, 74, 76, 81, 82, 84, 88,
   97, 98, 100, 104, 112, 31, 47, 55, 59, 61]

/-- R418: the columns of all 47 stored bits; check bit c has 2^c. -/
def allCols : List Nat := dataCols ++ [1, 2, 4, 8, 16, 32, 64]

/-- The exclusive or of the columns of the bits set in a number. -/
def colSum : List Nat → Nat → Nat
  | [], _ => 0
  | c :: cs, n => (if n % 2 = 1 then c else 0) ^^^ colSum cs (n / 2)

/-- R418: a word as it is stored, with the check bits that make its syndrome 0. -/
def encode47 (w : Word) : BitVec 47 := BitVec.ofNat 47 (w.toNat + colSum dataCols w.toNat * 2 ^ 40)

/-- R419: the syndrome of stored bits. -/
def syndrome (b : BitVec 47) : Nat := colSum allCols b.toNat

/-- The data bits of a stored word. -/
def dataOf (b : BitVec 47) : Word := BitVec.ofNat 40 b.toNat

/-- R408, R419: the poison encoding, data 0 with all seven check bits at 1. -/
def poison47 : BitVec 47 := BitVec.ofNat 47 (0x7F * 2 ^ 40)

/-- R419: the outcome of reading stored bits. -/
inductive Decoded where
  | good (w : Word)
  | corrected (w : Word)
  | poison
  | bad (syndrome : Nat)
  deriving DecidableEq, Repr

/-- R419: decodes stored bits. -/
def decode47 (b : BitVec 47) : Decoded :=
  let s := syndrome b
  if s = 0 then .good (dataOf b)
  else match allCols.idxOf? s with
    | some i => .corrected (dataOf (b ^^^ BitVec.ofNat 47 (2 ^ i)))
    | none => if s = 0x7F ∧ dataOf b = 0 then .poison else .bad s

end Sys2Proof.Machine
end

