-- ==== Sys2Proof/Machine/Opcode.lean ====
section
/-!
DEFINITION. The opcodes of the ACP protocol: the cards of spec/16_opcode_reference.md (R469 to R473, R476 to R496),
the roles of R57, the read opcodes of R57, the journal rules of R73 and R81, and the status codes of R71.
-/
namespace Sys2Proof.Machine

open Sys2Proof

/-- R57, R476 to R496: the opcodes, one for each card. -/
inductive Op where
  /-- SYS_NOP, opcode 0x0001. -/
  | sysNop
  /-- SYS_IDENTIFY, opcode 0x0002. -/
  | sysIdentify
  /-- SYS_STATUS, opcode 0x0003. -/
  | sysStatus
  /-- SYS_SNAPSHOT, opcode 0x0004. -/
  | sysSnapshot
  /-- SYS_RESET, opcode 0x0005. -/
  | sysReset
  /-- SYS_SELF_TEST, opcode 0x0006. -/
  | sysSelfTest
  /-- SYS_FW_BEGIN, opcode 0x0007. -/
  | sysFwBegin
  /-- SYS_FW_CHUNK, opcode 0x0008. -/
  | sysFwChunk
  /-- SYS_FW_COMMIT, opcode 0x0009. -/
  | sysFwCommit
  /-- SYS_REG_READ, opcode 0x000A. -/
  | sysRegRead
  /-- SYS_REG_WRITE, opcode 0x000B. -/
  | sysRegWrite
  /-- SYS_TAMPER_CONFIG, opcode 0x000C. -/
  | sysTamperConfig
  /-- HST_OPEN, opcode 0x0101. -/
  | hstOpen
  /-- HST_CLOSE, opcode 0x0102. -/
  | hstClose
  /-- HST_SET_ROLE, opcode 0x0103. -/
  | hstSetRole
  /-- HST_EVENT_READ, opcode 0x0104. -/
  | hstEventRead
  /-- HST_EVENT_MASK, opcode 0x0105. -/
  | hstEventMask
  /-- HST_CLAIM, opcode 0x0106. -/
  | hstClaim
  /-- HST_UNCLAIM, opcode 0x0107. -/
  | hstUnclaim
  /-- JRN_READ, opcode 0x0201. -/
  | jrnRead
  /-- JRN_STATUS, opcode 0x0202. -/
  | jrnStatus
  /-- JRN_LOOKUP, opcode 0x0203. -/
  | jrnLookup
  /-- JRN_MARK, opcode 0x0204. -/
  | jrnMark
  /-- PWR_ENTER, opcode 0x0301. -/
  | pwrEnter
  /-- PWR_WAKE_CONFIG, opcode 0x0302. -/
  | pwrWakeConfig
  /-- PWR_RESIDENCY_READ, opcode 0x0303. -/
  | pwrResidencyRead
  /-- PWR_WAKE_RECORD_READ, opcode 0x0304. -/
  | pwrWakeRecordRead
  /-- PWR_PROFILE, opcode 0x0305. -/
  | pwrProfile
  /-- LF_CHANNEL_CONFIG, opcode 0x0401. -/
  | lfChannelConfig
  /-- LF_TUNE, opcode 0x0402. -/
  | lfTune
  /-- LF_DIAGNOSE, opcode 0x0403. -/
  | lfDiagnose
  /-- LF_POLL_START, opcode 0x0404. -/
  | lfPollStart
  /-- LF_POLL_STOP, opcode 0x0405. -/
  | lfPollStop
  /-- LF_FIELD_MAP_LOAD, opcode 0x0406. -/
  | lfFieldMapLoad
  /-- LF_SEND, opcode 0x0407. -/
  | lfSend
  /-- UHF_CHANNEL_PLAN, opcode 0x0501. -/
  | uhfChannelPlan
  /-- UHF_ENABLE, opcode 0x0502. -/
  | uhfEnable
  /-- UHF_DISABLE, opcode 0x0503. -/
  | uhfDisable
  /-- UHF_CAPTURE, opcode 0x0504. -/
  | uhfCapture
  /-- UHF_CALIBRATE, opcode 0x0505. -/
  | uhfCalibrate
  /-- UHF_VIGIL_CONFIG, opcode 0x0506. -/
  | uhfVigilConfig
  /-- UWB_CONFIG, opcode 0x0601. -/
  | uwbConfig
  /-- UWB_SESSION_OPEN, opcode 0x0602. -/
  | uwbSessionOpen
  /-- UWB_SESSION_CLOSE, opcode 0x0603. -/
  | uwbSessionClose
  /-- UWB_RANGE_NOW, opcode 0x0604. -/
  | uwbRangeNow
  /-- UWB_CIR_READ, opcode 0x0605. -/
  | uwbCirRead
  /-- UWB_CALIBRATE, opcode 0x0606. -/
  | uwbCalibrate
  /-- UWB_RADIO_STATE, opcode 0x0607. -/
  | uwbRadioState
  /-- RADIO_COEX_CONFIG, opcode 0x0608. -/
  | radioCoexConfig
  /-- CRD_ROSTER_WRITE, opcode 0x0701. -/
  | crdRosterWrite
  /-- CRD_ROSTER_READ, opcode 0x0702. -/
  | crdRosterRead
  /-- CRD_REVOKE, opcode 0x0703. -/
  | crdRevoke
  /-- CRD_EPOCH_ADVANCE, opcode 0x0704. -/
  | crdEpochAdvance
  /-- CRD_TICKET_LOAD, opcode 0x0705. -/
  | crdTicketLoad
  /-- CRD_LOCKOUT_STATUS, opcode 0x0706. -/
  | crdLockoutStatus
  /-- CRD_LOCKOUT_CLEAR, opcode 0x0707. -/
  | crdLockoutClear
  /-- CRD_BATTERY_CHALLENGE, opcode 0x0708. -/
  | crdBatteryChallenge
  /-- CRD_ROUND_RESULT_READ, opcode 0x0709. -/
  | crdRoundResultRead
  /-- HRV_RECEIVER_CONFIG, opcode 0x0801. -/
  | hrvReceiverConfig
  /-- HRV_ARM, opcode 0x0802. -/
  | hrvArm
  /-- HRV_LOCK, opcode 0x0803. -/
  | hrvLock
  /-- HRV_STATUS, opcode 0x0804. -/
  | hrvStatus
  /-- HRV_ACTUATE, opcode 0x0805. -/
  | hrvActuate
  /-- HRV_POLICY, opcode 0x0806. -/
  | hrvPolicy
  /-- SEQ_LOAD, opcode 0x0901. -/
  | seqLoad
  /-- SEQ_START, opcode 0x0902. -/
  | seqStart
  /-- SEQ_STOP, opcode 0x0903. -/
  | seqStop
  /-- SEQ_STATUS, opcode 0x0904. -/
  | seqStatus
  /-- CPH_KEY_WRITE, opcode 0x0A01. -/
  | cphKeyWrite
  /-- CPH_KEY_ERASE, opcode 0x0A02. -/
  | cphKeyErase
  /-- CPH_KEY_DERIVE, opcode 0x0A03. -/
  | cphKeyDerive
  /-- CPH_RUN, opcode 0x0A04. -/
  | cphRun
  /-- CPH_CTX_SAVE, opcode 0x0A05. -/
  | cphCtxSave
  /-- CPH_CTX_RESTORE, opcode 0x0A06. -/
  | cphCtxRestore
  /-- CPH_RANDOM, opcode 0x0A07. -/
  | cphRandom
  /-- CPH_KEY_INFO, opcode 0x0A08. -/
  | cphKeyInfo
  /-- NTC_CONFIG, opcode 0x0B01. -/
  | ntcConfig
  /-- NTC_READ, opcode 0x0B02. -/
  | ntcRead
  /-- NTC_ADJUST, opcode 0x0B03. -/
  | ntcAdjust
  /-- NTC_STEP, opcode 0x0B04. -/
  | ntcStep
  /-- NTC_TRIGGER_CONFIG, opcode 0x0B05. -/
  | ntcTriggerConfig
  /-- NTC_CAPTURE_READ, opcode 0x0B06. -/
  | ntcCaptureRead
  /-- NTC_CALENDAR_ATTEST, opcode 0x0B07. -/
  | ntcCalendarAttest
  /-- NTC_CALENDAR_READ, opcode 0x0B08. -/
  | ntcCalendarRead
  /-- TMR_CONFIG, opcode 0x0C01. -/
  | tmrConfig
  /-- TMR_SET_COMPARE, opcode 0x0C02. -/
  | tmrSetCompare
  /-- TMR_READ, opcode 0x0C03. -/
  | tmrRead
  /-- TMR_READ_PAIR, opcode 0x0C04. -/
  | tmrReadPair
  /-- TMR_CONTROL, opcode 0x0C05. -/
  | tmrControl
  /-- TMR_SNAPSHOT_ALL, opcode 0x0C06. -/
  | tmrSnapshotAll
  /-- MEM_READ, opcode 0x0D01. -/
  | memRead
  /-- MEM_WRITE, opcode 0x0D02. -/
  | memWrite
  /-- MEM_SCRUB, opcode 0x0D03. -/
  | memScrub
  /-- MEM_FAULT_LOG_READ, opcode 0x0D04. -/
  | memFaultLogRead
  /-- MEM_RETIRE, opcode 0x0D05. -/
  | memRetire
  /-- MEM_ERROR_INJECT, opcode 0x0D06. -/
  | memErrorInject
  /-- NVM_READ, opcode 0x0E01. -/
  | nvmRead
  /-- NVM_WRITE, opcode 0x0E02. -/
  | nvmWrite
  /-- NVM_COMMIT, opcode 0x0E03. -/
  | nvmCommit
  /-- NVM_PASSWORD, opcode 0x0E04. -/
  | nvmPassword
  /-- NVM_TALLY_INCREMENT, opcode 0x0E05. -/
  | nvmTallyIncrement
  /-- NVM_TALLY_READ, opcode 0x0E06. -/
  | nvmTallyRead
  /-- NVM_PATROL, opcode 0x0E07. -/
  | nvmPatrol
  /-- NVM_REGULATORY_LOCK, opcode 0x0E08. -/
  | nvmRegulatoryLock
  /-- NVM_STATUS, opcode 0x0E09. -/
  | nvmStatus
  deriving DecidableEq, Repr

/-- The opcode value on each card. -/
def Op.code : Op → Nat
  | .sysNop => 0x0001
  | .sysIdentify => 0x0002
  | .sysStatus => 0x0003
  | .sysSnapshot => 0x0004
  | .sysReset => 0x0005
  | .sysSelfTest => 0x0006
  | .sysFwBegin => 0x0007
  | .sysFwChunk => 0x0008
  | .sysFwCommit => 0x0009
  | .sysRegRead => 0x000A
  | .sysRegWrite => 0x000B
  | .sysTamperConfig => 0x000C
  | .hstOpen => 0x0101
  | .hstClose => 0x0102
  | .hstSetRole => 0x0103
  | .hstEventRead => 0x0104
  | .hstEventMask => 0x0105
  | .hstClaim => 0x0106
  | .hstUnclaim => 0x0107
  | .jrnRead => 0x0201
  | .jrnStatus => 0x0202
  | .jrnLookup => 0x0203
  | .jrnMark => 0x0204
  | .pwrEnter => 0x0301
  | .pwrWakeConfig => 0x0302
  | .pwrResidencyRead => 0x0303
  | .pwrWakeRecordRead => 0x0304
  | .pwrProfile => 0x0305
  | .lfChannelConfig => 0x0401
  | .lfTune => 0x0402
  | .lfDiagnose => 0x0403
  | .lfPollStart => 0x0404
  | .lfPollStop => 0x0405
  | .lfFieldMapLoad => 0x0406
  | .lfSend => 0x0407
  | .uhfChannelPlan => 0x0501
  | .uhfEnable => 0x0502
  | .uhfDisable => 0x0503
  | .uhfCapture => 0x0504
  | .uhfCalibrate => 0x0505
  | .uhfVigilConfig => 0x0506
  | .uwbConfig => 0x0601
  | .uwbSessionOpen => 0x0602
  | .uwbSessionClose => 0x0603
  | .uwbRangeNow => 0x0604
  | .uwbCirRead => 0x0605
  | .uwbCalibrate => 0x0606
  | .uwbRadioState => 0x0607
  | .radioCoexConfig => 0x0608
  | .crdRosterWrite => 0x0701
  | .crdRosterRead => 0x0702
  | .crdRevoke => 0x0703
  | .crdEpochAdvance => 0x0704
  | .crdTicketLoad => 0x0705
  | .crdLockoutStatus => 0x0706
  | .crdLockoutClear => 0x0707
  | .crdBatteryChallenge => 0x0708
  | .crdRoundResultRead => 0x0709
  | .hrvReceiverConfig => 0x0801
  | .hrvArm => 0x0802
  | .hrvLock => 0x0803
  | .hrvStatus => 0x0804
  | .hrvActuate => 0x0805
  | .hrvPolicy => 0x0806
  | .seqLoad => 0x0901
  | .seqStart => 0x0902
  | .seqStop => 0x0903
  | .seqStatus => 0x0904
  | .cphKeyWrite => 0x0A01
  | .cphKeyErase => 0x0A02
  | .cphKeyDerive => 0x0A03
  | .cphRun => 0x0A04
  | .cphCtxSave => 0x0A05
  | .cphCtxRestore => 0x0A06
  | .cphRandom => 0x0A07
  | .cphKeyInfo => 0x0A08
  | .ntcConfig => 0x0B01
  | .ntcRead => 0x0B02
  | .ntcAdjust => 0x0B03
  | .ntcStep => 0x0B04
  | .ntcTriggerConfig => 0x0B05
  | .ntcCaptureRead => 0x0B06
  | .ntcCalendarAttest => 0x0B07
  | .ntcCalendarRead => 0x0B08
  | .tmrConfig => 0x0C01
  | .tmrSetCompare => 0x0C02
  | .tmrRead => 0x0C03
  | .tmrReadPair => 0x0C04
  | .tmrControl => 0x0C05
  | .tmrSnapshotAll => 0x0C06
  | .memRead => 0x0D01
  | .memWrite => 0x0D02
  | .memScrub => 0x0D03
  | .memFaultLogRead => 0x0D04
  | .memRetire => 0x0D05
  | .memErrorInject => 0x0D06
  | .nvmRead => 0x0E01
  | .nvmWrite => 0x0E02
  | .nvmCommit => 0x0E03
  | .nvmPassword => 0x0E04
  | .nvmTallyIncrement => 0x0E05
  | .nvmTallyRead => 0x0E06
  | .nvmPatrol => 0x0E07
  | .nvmRegulatoryLock => 0x0E08
  | .nvmStatus => 0x0E09

/-- Every opcode, in card order. -/
def Op.all : List Op := [
  .sysNop, .sysIdentify, .sysStatus, .sysSnapshot, .sysReset, .sysSelfTest, .sysFwBegin, .sysFwChunk, .sysFwCommit, .sysRegRead, .sysRegWrite, .sysTamperConfig, .hstOpen, .hstClose, .hstSetRole, .hstEventRead, .hstEventMask, .hstClaim, .hstUnclaim, .jrnRead, .jrnStatus, .jrnLookup, .jrnMark, .pwrEnter, .pwrWakeConfig, .pwrResidencyRead, .pwrWakeRecordRead, .pwrProfile, .lfChannelConfig, .lfTune, .lfDiagnose, .lfPollStart, .lfPollStop, .lfFieldMapLoad, .lfSend, .uhfChannelPlan, .uhfEnable, .uhfDisable, .uhfCapture, .uhfCalibrate, .uhfVigilConfig, .uwbConfig, .uwbSessionOpen, .uwbSessionClose, .uwbRangeNow, .uwbCirRead, .uwbCalibrate, .uwbRadioState, .radioCoexConfig, .crdRosterWrite] ++ [
  .crdRosterRead, .crdRevoke, .crdEpochAdvance, .crdTicketLoad, .crdLockoutStatus, .crdLockoutClear, .crdBatteryChallenge, .crdRoundResultRead, .hrvReceiverConfig, .hrvArm, .hrvLock, .hrvStatus, .hrvActuate, .hrvPolicy, .seqLoad, .seqStart, .seqStop, .seqStatus, .cphKeyWrite, .cphKeyErase, .cphKeyDerive, .cphRun, .cphCtxSave, .cphCtxRestore, .cphRandom, .cphKeyInfo, .ntcConfig, .ntcRead, .ntcAdjust, .ntcStep, .ntcTriggerConfig, .ntcCaptureRead, .ntcCalendarAttest, .ntcCalendarRead, .tmrConfig, .tmrSetCompare, .tmrRead, .tmrReadPair, .tmrControl, .tmrSnapshotAll, .memRead, .memWrite, .memScrub, .memFaultLogRead, .memRetire, .memErrorInject, .nvmRead, .nvmWrite, .nvmCommit, .nvmPassword, .nvmTallyIncrement, .nvmTallyRead, .nvmPatrol, .nvmRegulatoryLock, .nvmStatus]

/-- R52 step 7: the opcode a value names, if any card gives it. -/
def Op.ofCode (c : Nat) : Option Op := Op.all.find? (fun o => o.code == c)

/-- R11: the opcode class, the high octet of the opcode. -/
def Op.cls (o : Op) : Nat := o.code / 256

/-- The Read opcodes column of R57. -/
def Op.isRead : Op → Bool
  | .sysNop | .sysIdentify | .sysStatus | .sysRegRead | .jrnRead | .jrnStatus => true
  | .jrnLookup | .pwrResidencyRead | .pwrWakeRecordRead | .lfDiagnose | .uwbCirRead | .crdRosterRead => true
  | .crdLockoutStatus | .crdRoundResultRead | .hrvStatus | .seqStatus | .cphKeyInfo | .ntcRead => true
  | .ntcCaptureRead | .ntcCalendarRead | .tmrRead | .tmrReadPair | .tmrSnapshotAll | .memFaultLogRead => true
  | .nvmStatus | .nvmTallyRead => true
  | _ => false

/-- R73: an opcode is journaled unless it is a read opcode, HST_EVENT_READ, MEM_READ or NVM_READ. -/
def Op.journaled (o : Op) : Bool :=
  !(o.isRead || o == .hstEventRead || o == .memRead || o == .nvmRead)

/-- R81: the journaled opcodes whose entry always has SECURITY set, apart from the whole classes CRD_ and HRV_. -/
def Op.alwaysSecure : Op → Bool
  | .cphKeyWrite | .cphKeyErase | .cphKeyDerive | .hstSetRole | .sysReset | .sysFwBegin => true
  | .sysFwCommit | .sysTamperConfig | .sysRegWrite | .ntcStep | .ntcCalendarAttest | .nvmPassword => true
  | .nvmRegulatoryLock | .memRetire | .memErrorInject => true
  | _ => false

/-- R81: SECURITY at acceptance: every journaled CRD_ and HRV_ opcode and the opcodes listed. -/
def Op.security (o : Op) : Bool :=
  o.journaled && (o.cls == 7 || o.cls == 8 || o.alwaysSecure)

/-- R470: the cards that narrow R57 to FLEET and SERVICE. -/
def Op.fleetService : Op → Bool
  | .sysSnapshot | .sysReset | .sysSelfTest | .sysTamperConfig | .jrnMark | .pwrWakeConfig => true
  | .radioCoexConfig | .crdLockoutClear | .cphKeyWrite | .cphKeyErase | .cphKeyDerive | .cphCtxRestore => true
  | .memRetire | .memErrorInject | .nvmPassword => true
  | _ => false

/-- R470: the cards that narrow R57 to FLEET. -/
def Op.fleetOnly : Op → Bool
  | .sysFwBegin | .sysFwChunk | .sysFwCommit | .nvmRegulatoryLock => true
  | _ => false

/-- R72: the roles of a host context, coded as HST_CTXn_STATUS.ROLE. -/
inductive Role where
  | observer | fleet | drive | display | service | battery
  deriving DecidableEq, Repr

/-- R72: the code of a role. -/
def Role.code : Role → Nat
  | .observer => 0 | .fleet => 1 | .drive => 2 | .display => 3 | .service => 4 | .battery => 5

/-- R72: the role a code names; 6 and 7 are reserved. -/
def Role.ofCode : Nat → Option Role
  | 0 => some .observer | 1 => some .fleet | 2 => some .drive
  | 3 => some .display | 4 => some .service | 5 => some .battery | _ => none

/-- R57, R72: the role mask: for a role and an opcode class, 0 none, 1 read opcodes, 2 listed opcodes, 3 all. -/
def Role.mask : Role → Nat → Nat
  | .fleet, k => if k < 15 then 3 else 0
  | .service, k => if k < 15 then 3 else 0
  | .drive, k => ([1, 3, 1, 3, 1, 0, 3, 1, 1, 1, 1, 1, 3, 1, 1] : List Nat).getD k 0
  | .display, k => ([1, 3, 1, 1, 0, 0, 0, 1, 1, 0, 0, 1, 1, 0, 0] : List Nat).getD k 0
  | .battery, k => ([1, 3, 0, 0, 0, 0, 0, 2, 1, 0, 0, 0, 0, 0, 0] : List Nat).getD k 0
  | .observer, k => ([1, 3, 1, 0, 0, 0, 0, 0, 0, 0, 0, 0, 0, 0, 0] : List Nat).getD k 0

/-- R57 and R470: whether a role may use an opcode (R52 step 8). -/
def Role.may (r : Role) (o : Op) : Bool :=
  (match r.mask o.cls with
   | 0 => false
   | 1 => o.isRead
   | 2 => o == .crdBatteryChallenge
   | _ => true) &&
  (!o.fleetService || r == .fleet || r == .service) &&
  (!o.fleetOnly || r == .fleet) &&
  (!(o == .crdBatteryChallenge) || r == .fleet || r == .service || r == .battery)

/-- A length that a count octet gives: `base + size * count`. -/
def countLen (p : Octets) (at_ base size : Nat) : Nat :=
  base + size * ((p.getD at_ 0).toNat)

/-- R469, R491: the length CPH_RUN's parameters must have, from IV_LEN, AAD_LEN, DATA_LEN and NONCE_DRBG. -/
def cphRunLen (p : Octets) : Nat :=
  12 + (if (p.getD 4 0).getLsbD 2 then 0 else (p.getD 7 0).toNat)
    + natOf ((p.drop 8).take 2) + natOf ((p.drop 10).take 2)

/-- R52 step 9 and R469: the parameter length suits the opcode. Where the length depends on a count, the count gives it.
Left open: DESIGN CHOICE, assumption log 18. -/
def Op.lenOk (o : Op) (p : Octets) : Bool :=
  match o with
  | .sysNop => p.length == 0
  | .sysIdentify => p.length == 0
  | .sysStatus => p.length == 0
  | .sysReset => p.length == 0
  | .sysSelfTest => p.length == 2
  | .sysFwBegin => p.length == 8
  | .sysFwCommit => p.length == 0
  | .sysRegRead => p.length == 3
  | .sysRegWrite => p.length == 7
  | .sysTamperConfig => p.length == 5
  | .hstOpen => p.length == 9
  | .hstClose => p.length == 0
  | .hstSetRole => p.length == 9
  | .hstEventRead => p.length == 1
  | .hstEventMask => p.length == 2
  | .hstClaim => p.length == 1
  | .hstUnclaim => p.length == 0
  | .jrnRead => p.length == 6
  | .jrnStatus => p.length == 0
  | .jrnLookup => p.length == 9
  | .jrnMark => p.length == 5
  | .pwrEnter => p.length == 5
  | .pwrWakeConfig => p.length == 9
  | .pwrResidencyRead => p.length == 0
  | .pwrWakeRecordRead => p.length == 0
  | .pwrProfile => p.length == 1
  | .lfChannelConfig => p.length == 7
  | .lfTune => p.length == 2
  | .lfDiagnose => p.length == 3
  | .lfPollStart => p.length == 2
  | .lfPollStop => p.length == 0
  | .uhfChannelPlan => p.length == 40
  | .uhfEnable => p.length == 0
  | .uhfDisable => p.length == 0
  | .uhfCapture => p.length == 12
  | .uhfCalibrate => p.length == 0
  | .uhfVigilConfig => p.length == 6
  | .uwbConfig => p.length == 5
  | .uwbSessionOpen => p.length == 56
  | .uwbSessionClose => p.length == 1
  | .uwbRangeNow => p.length == 1
  | .uwbCirRead => p.length == 7
  | .uwbCalibrate => p.length == 0
  | .uwbRadioState => p.length == 2
  | .radioCoexConfig => p.length == 6
  | .crdRosterRead => p.length == 9
  | .crdEpochAdvance => p.length == 3
  | .crdTicketLoad => p.length == 40
  | .crdLockoutStatus => p.length == 0
  | .crdLockoutClear => p.length == 8
  | .crdBatteryChallenge => p.length == 0
  | .crdRoundResultRead => p.length == 6
  | .hrvReceiverConfig => p.length == 8
  | .hrvArm => p.length == 2
  | .hrvLock => p.length == 2
  | .hrvStatus => p.length == 0
  | .hrvActuate => p.length == 5
  | .hrvPolicy => p.length == 10
  | .seqStart => p.length == 1
  | .seqStop => p.length == 1
  | .seqStatus => p.length == 0
  | .cphKeyErase => p.length == 2
  | .cphCtxSave => p.length == 3
  | .cphCtxRestore => p.length == 80
  | .cphRandom => p.length == 3
  | .cphKeyInfo => p.length == 2
  | .ntcConfig => p.length == 6
  | .ntcRead => p.length == 0
  | .ntcAdjust => p.length == 13
  | .ntcStep => p.length == 19
  | .ntcTriggerConfig => p.length == 21
  | .ntcCaptureRead => p.length == 1
  | .ntcCalendarAttest => p.length == 32
  | .ntcCalendarRead => p.length == 0
  | .tmrConfig => p.length == 12
  | .tmrSetCompare => p.length == 7
  | .tmrRead => p.length == 1
  | .tmrReadPair => p.length == 2
  | .tmrControl => p.length == 5
  | .tmrSnapshotAll => p.length == 0
  | .memRead => p.length == 4
  | .memScrub => p.length == 6
  | .memFaultLogRead => p.length == 3
  | .memRetire => p.length == 1
  | .memErrorInject => p.length == 8
  | .nvmRead => p.length == 4
  | .nvmCommit => p.length == 0
  | .nvmPassword => p.length == 19
  | .nvmTallyIncrement => p.length == 1
  | .nvmTallyRead => p.length == 1
  | .nvmPatrol => p.length == 0
  | .nvmStatus => p.length == 0
  | .sysSnapshot => 1 ≤ p.length && p.length == countLen p 0 1 2
  | .sysFwChunk => 5 ≤ p.length && p.length ≤ 1004
  | .lfFieldMapLoad => 1 ≤ p.length && p.length == countLen p 0 1 32
  | .lfSend => 3 ≤ p.length && p.length == countLen p 2 3 1
  | .crdRosterWrite => 1 ≤ p.length && p.length == countLen p 0 1 20
  | .crdRevoke => 1 ≤ p.length && p.length == countLen p 0 1 5
  | .seqLoad => 9 ≤ p.length && p.length ≤ 1004 && (p.length - 4) % 5 == 0
  | .cphKeyWrite =>
    (p.getD 1 0 == 0 && p.length == 10 + (if p.getD 3 0 == 0 then 16 else 32)) ||
    (p.getD 1 0 != 0 && p.length == 10 + (if p.getD 3 0 == 0 then 32 else 48))
  | .cphKeyDerive => 12 ≤ p.length && p.length == 12 + (p.getD 10 0).toNat + (p.getD 11 0).toNat
  | .cphRun => 12 ≤ p.length && p.length == cphRunLen p
  | .memWrite => 6 ≤ p.length && p.length == 6 + natOf ((p.drop 4).take 2) * (if p.getD 0 0 == 0 then 5 else 1)
  | .nvmWrite => 5 ≤ p.length && p.length == countLen p 4 5 5
  | .nvmRegulatoryLock => (p.getD 0 0 != 0 && p.length == 1) || (p.getD 0 0 != 1 && p.length == 56)

/-- R71: the status codes. -/
inductive Status where
  /-- OK. -/
  | ok
  /-- OK_DEFERRED. -/
  | okDeferred
  /-- DUPLICATE. -/
  | duplicate
  /-- BAD_FRAME. -/
  | badFrame
  /-- BAD_LENGTH. -/
  | badLength
  /-- BAD_OPCODE. -/
  | badOpcode
  /-- BAD_PARAM. -/
  | badParam
  /-- NOT_PERMITTED. -/
  | notPermitted
  /-- AUTH_FAIL. -/
  | authFail
  /-- QUEUE_FULL. -/
  | queueFull
  /-- BUSY. -/
  | busy
  /-- WRONG_STATE. -/
  | wrongState
  /-- KEY_EMPTY. -/
  | keyEmpty
  /-- KEY_ERASED. -/
  | keyErased
  /-- KEY_STALE. -/
  | keyStale
  /-- NONCE_EXHAUSTED. -/
  | nonceExhausted
  /-- FAULT_DETECTED. -/
  | faultDetected
  /-- CIPHER_QUARANTINE. -/
  | cipherQuarantine
  /-- CONTEXT_STALE. -/
  | contextStale
  /-- POISONED. -/
  | poisoned
  /-- BLANK. -/
  | blank
  /-- PASSWORD_REQUIRED. -/
  | passwordRequired
  /-- NVM_WORN. -/
  | nvmWorn
  /-- CMP_BEHIND. -/
  | cmpBehind
  /-- TIME_UNCERTAIN. -/
  | timeUncertain
  /-- TIME_BACKWARD_REFUSED. -/
  | timeBackwardRefused
  /-- LOCKED_OUT. -/
  | lockedOut
  /-- LOCK_DEFERRED. -/
  | lockDeferred
  /-- REGULATORY_LIMIT. -/
  | regulatoryLimit
  /-- TX_LATE. -/
  | txLate
  /-- RANGE_UNCERTAIN. -/
  | rangeUncertain
  /-- SEQ_FAULT. -/
  | seqFault
  /-- SELF_TEST_FAIL. -/
  | selfTestFail
  deriving DecidableEq, Repr

/-- R71: the code of each status. -/
def Status.code : Status → Nat
  | .ok => 0
  | .okDeferred => 1
  | .duplicate => 2
  | .badFrame => 0x100
  | .badLength => 0x101
  | .badOpcode => 0x102
  | .badParam => 0x103
  | .notPermitted => 0x104
  | .authFail => 0x105
  | .queueFull => 0x106
  | .busy => 0x107
  | .wrongState => 0x108
  | .keyEmpty => 0x200
  | .keyErased => 0x201
  | .keyStale => 0x202
  | .nonceExhausted => 0x203
  | .faultDetected => 0x204
  | .cipherQuarantine => 0x205
  | .contextStale => 0x206
  | .poisoned => 0x300
  | .blank => 0x301
  | .passwordRequired => 0x302
  | .nvmWorn => 0x303
  | .cmpBehind => 0x400
  | .timeUncertain => 0x401
  | .timeBackwardRefused => 0x402
  | .lockedOut => 0x500
  | .lockDeferred => 0x501
  | .regulatoryLimit => 0x502
  | .txLate => 0x503
  | .rangeUncertain => 0x504
  | .seqFault => 0x600
  | .selfTestFail => 0x700

/-- R71: codes 0x0000 to 0x00FF are success codes. -/
def Status.success (s : Status) : Bool := s.code < 256

end Sys2Proof.Machine
end

