-- ==== Sys2Proof/Machine/Programs.lean ====
section
/-!
DEFINITION. Tilth instruction words, the default programs and the image header (R280, R283, R284, R299, R300).
-/
namespace Sys2Proof.Machine

open Sys2Proof

/-! ## Instructions and the default programs (R283, R284, R299) -/

/-- R283: an instruction word. -/
def tilthWord (op ra rb i low : Nat) : Word := put 34 6 op ||| put 31 3 ra ||| put 28 3 rb ||| put 27 1 i ||| put 0 27 low

/-- R283: OP. -/
def tOp (w : Word) : Nat := fld w 34 6
/-- R283: RA. -/
def tRa (w : Word) : Fin 8 := Fin.ofNat 8 (fld w 31 3)
/-- R283: RB. -/
def tRb (w : Word) : Fin 8 := Fin.ofNat 8 (fld w 28 3)
/-- R283: I. -/
def tI (w : Word) : Bool := bit w 27

/-- R299: the default program of the plough. -/
def ploughDefault : List Word :=
  [tilthWord 0x18 7 0 1 0xFFF, tilthWord 0x03 7 0 1 0, tilthWord 0x04 0 0 0 (2 * 2 ^ 24 + 4), tilthWord 0x1A 7 0 0 0,
   tilthWord 0x1E 0 0 0 0, tilthWord 0x18 7 0 1 0xFFF, tilthWord 0x18 7 0 1 (2 ^ 25 + 0xFFF), tilthWord 0x19 7 0 1 0xFFF,
   tilthWord 0x1A 6 0 0 0, tilthWord 0x01 5 0 1 8, tilthWord 0x18 7 0 1 (2 * 2 ^ 25 + 0xFFF), tilthWord 0x03 7 0 1 0,
   tilthWord 0x04 0 0 0 (2 * 2 ^ 24 + 14), tilthWord 0x05 5 0 0 10, tilthWord 0x1E 0 0 0 0]

/-- R299: the default program of the ranging sequencer. -/
def rangingDefault : List Word := [tilthWord 0x1B 7 0 0 0, tilthWord 0x1E 0 0 0 0]

/-- R299: the default program of the harvest sequencer. -/
def harvestDefault : List Word :=
  [tilthWord 0x01 2 0 1 0, tilthWord 0x1C 7 2 0 0, tilthWord 0x02 2 0 1 1, tilthWord 0x03 2 0 1 4, tilthWord 0x04 0 0 0 (3 * 2 ^ 24 + 1),
   tilthWord 0x1E 0 0 0 0]

/-- R280: the size of a program memory. -/
def progSize (n : Fin 3) : Nat := if n = 2 then 256 else 512

/-- R300: header word 0. -/
def headWord0 (target len version : Nat) : Word := put 0 8 1 ||| put 8 2 target ||| put 10 10 len ||| put 20 20 version

/-- R300: header word 1. -/
def headWord1 (entry0 entry1 : Nat) : Word := put 0 9 entry0 ||| put 9 9 entry1

/-- R300: the octets that the CRC covers. -/
def imageOctets (w0 w1 : Word) (code : List Word) : Octets := ((w0 :: w1 :: code).map wordOctets).flatten

end Sys2Proof.Machine
end

