-- ==== Sys2Proof/Machine/State.lean ====
section
/-!
DEFINITION. The state of the GLX-4160 as plain data: every register, queue, buffer, counter, mode and pin of spec/, and the
queue of the commands that wait. INVENTORY.md lists each piece with its rule. After the types stands State.reset, piece by
piece. Nothing else here computes: the accessors and the meanings stand in the other files of Sys2Proof/Machine/.
-/
namespace Sys2Proof.Machine

open Sys2Proof

/-- What stops the machine. No rule of the spec stops it and no meaning raises a fault, so there is no constructor:
every command answers a next state (safe: nothing is claimed about a stop). -/
inductive Fault where
  deriving DecidableEq, Repr

/-- Why a command has no meaning. -/
inductive Refusal where
  /-- Raised by the dispatcher for a command whose meaning is not written yet (safe: the machine stops). -/
  | notModelled (mnemonic : String)
  deriving DecidableEq, Repr

/-- R63: the stages of an enableable unit. -/
inductive UnitState where
  | off | starting | on | stopping | restartPending | stopPending
  deriving DecidableEq, Repr

/-! ## Host contexts, queues and replies (spec/02_command_protocol.md) -/

/-- R67, R69: one queued event of a context. -/
structure Event where
  code  : Nat
  seq   : BitVec 16
  stamp : Word
  data  : Octets
  deriving DecidableEq, Repr

/-- What a dispatched command still waits for before it completes. -/
inductive Wait where
  /-- The seal of every store write up to a ticket (R451), and then this status and result. -/
  | seal (ticket : Nat) (st : Status) (data : Octets)
  /-- A write without SYNC that waits for room in the write buffer (R451). -/
  | buffered (ticket : Nat)
  /-- NVM_COMMIT: the seal, and then the number of pages (R496). -/
  | commit (ticket : Nat) (pages : Nat)
  /-- A unit reaching ON (true) or OFF (false), R63. -/
  | unit (u : UnitId) (on : Bool)
  /-- A tally increment of a counter (R458); `n` is its place in the queue of increments. -/
  | tally (n : Nat)
  /-- A change held for its headland: LF (R122), UHF plan (R141), UWB_CFG (R204), one coexistence set (R200). -/
  | lfApply | uhfApply | uwbApply
  | coexApply (set : Fin 2)
  /-- LF_TUNE, LF_DIAGNOSE FRESH, LF_SEND, UHF and UWB calibration, the loop-back self-test: work between rounds, with what it will measure. -/
  | work (obs : Obs)
  /-- PWR_PROFILE: the VCORE ramp and the seal (R394). -/
  | ramp (ticket : Nat)
  /-- HRV_LOCK: the first period that includes the lock (R267), then the seal. -/
  | period (ticket : Nat)
  /-- HRV_LOCK: the end of that period (R267), then the seal. -/
  | periodEnd (ticket : Nat)
  /-- HRV_STATUS: the end of the release period in progress (R278). -/
  | betweenPeriods
  /-- HRV_ACTUATE: the end of the drive of a driver (R276). -/
  | drive (n : Fin 2)
  /-- CRD_BATTERY_CHALLENGE: the end of the exchange (R236). -/
  | battery
  /-- UWB_RANGE_NOW: the round of a session, since a tick (R182). -/
  | range (n : Fin 8) (since : Word)
  /-- UWB_SESSION_CLOSE: the headland of the session's round (R183). -/
  | sessionClose (n : Fin 8)
  /-- PWR_ENTER: claims, and then the entry (R397 to R400). -/
  | claims | entry
  /-- SEQ_LOAD with LAST: the install (R303). -/
  | install (n : Fin 3)
  deriving DecidableEq, Repr

/-- R75: one almanac entry, its fields. -/
structure Entry where
  seq       : Word
  stamp     : Word
  opcode    : BitVec 16
  hostSeq   : BitVec 16
  ctx       : BitVec 3
  role      : BitVec 3
  port      : BitVec 2
  status    : BitVec 16
  pending   : Bool
  security  : Bool
  internal  : Bool
  deferred  : Bool
  retry     : Bool
  discarded : Bool
  dispatch  : BitVec 16
  crc       : BitVec 32
  deriving DecidableEq, Repr

/-- R60: the stages of a pending command. -/
inductive Phase where
  /-- Accepted, not dispatched. -/
  | waiting
  /-- Dispatched, not complete. -/
  | running (w : Wait)
  /-- Complete; its reply waits for the replies before it (R62). -/
  | done
  /-- Its reply waits for delivery at the port. -/
  | sent
  deriving DecidableEq, Repr

/-- R60: a pending command of a context. -/
structure Cmd where
  op       : Op
  seq      : BitVec 16
  retry    : Bool
  role     : Role
  /-- The port it arrived on, and on the network port where its reply goes and the slot that protects it. -/
  port     : Port
  dst      : BitVec 48
  key      : BitVec 8
  /-- Its almanac entry, with number 0 when it was not journaled, and the slot of the working ring it took. -/
  entry    : Entry
  slot     : Nat
  /-- The slot of the non-volatile ring that already holds its security entry (R82). -/
  nvAt     : Option Nat
  p        : Octets
  obs      : Obs
  phase    : Phase
  status   : Status
  data     : Octets
  /-- R58: the reply is to be discarded. -/
  dropped  : Bool
  deriving DecidableEq, Repr

/-- R86: one entry of a duplicate filter. -/
structure Seen where
  seq    : BitVec 16
  jseq   : Word
  status : BitVec 16
  deriving DecidableEq, Repr

/-- R53: one of the 4 most recent replies of a context. -/
structure Kept where
  seq    : BitVec 16
  status : Status
  data   : Octets
  deriving DecidableEq, Repr

/-- A back-off of R56 or R462: the ticks of the recent AUTH_FAIL results, and the tick at which a back-off began. -/
structure Backoff where
  fails : List Word
  since : Option Word
  deriving DecidableEq, Repr

/-- R54 to R70: one host context. -/
structure Ctx where
  isOpen     : Bool
  port       : Port
  role       : Role
  push       : Bool
  mac        : BitVec 48
  keySlot    : BitVec 8
  lastSeq    : BitVec 16
  evSeq      : BitVec 16
  mask       : BitVec 16
  events     : List Event
  lost       : Nat
  /-- R65: 0 none, 1 SLEEP, 2 IDLE, 3 RUN. -/
  claim      : Nat
  /-- R65: the tick of the last accepted command. -/
  renewed    : Word
  nonce      : BitVec 64
  /-- R55: whether a nonce is live; each attempt consumes it. -/
  nonceLive  : Bool
  roleTries  : Backoff
  pwTries    : Backoff
  /-- R462: bit 2k, the read password of region k is in force; bit 2k+1, the write password. -/
  pwForce    : BitVec 16
  filter     : List Seen
  /-- R421: how many commands must still be accepted before an incomplete filter is whole again. -/
  filterLost : Nat
  kept       : List Kept
  cmds       : List Cmd
  /-- R85: the wrap mark, and whether its warning was raised. -/
  mark       : Word
  markWarned : Bool
  deriving DecidableEq, Repr

/-- What an output packet is. -/
inductive PacketKind where
  | reply | event
  deriving DecidableEq, Repr

/-- A complete output packet that waits at a port, before its CMAC and CRC are added (R49 to R51). -/
structure Packet where
  kind   : PacketKind
  ctx    : Fin 8
  /-- Bits [7:3] of CONTEXT: as received in the reply to a refused packet, and 0 in every other (R53). -/
  high   : BitVec 5
  seq    : BitVec 16
  code   : BitVec 16
  trunc  : Bool
  params : Octets
  /-- Whether its delivery ends a pending command of the context (R60). -/
  frees  : Bool
  deriving DecidableEq, Repr

/-- R40 to R43: one of the two SPI ports, or UART-C with its fields unused. -/
structure PortState where
  /-- Chip select is low. -/
  selected : Bool
  /-- The SPI mode taken at the last fall: true is mode 3. -/
  mode3    : Bool
  /-- The output packet that is being clocked out, or that chip select cut short (R42). -/
  cur      : Option Packet
  /-- Replies that wait for delivery, oldest first. -/
  out      : List Packet
  /-- HST_ERR_x: FRAME_ERR or CMAC_FAIL in [15:0]; TRUNC, COBS_ERR or SEQ_WINDOW in [31:16]. -/
  err      : Word
  deriving DecidableEq, Repr

/-- R63, R64: a command answered OK_DEFERRED whose outcome is still to be reported. -/
structure Deferred where
  ctx  : Fin 8
  jseq : Word
  op   : BitVec 16
  unit : UnitId
  on   : Bool
  deriving DecidableEq, Repr

/-- The host block (R72). -/
structure Hst where
  deferred   : List Deferred
  ctx        : Vector Ctx 8
  ports      : Vector PortState 4
  claimLease : Word
  uartCfg    : Word
  /-- R44: the UART rate in force, which follows uartCfg after the reply that set it. -/
  baud       : Nat
  /-- R44: the command that set the rate and whose reply has not gone: its context and host sequence. -/
  baudBy     : Option (Fin 8 × BitVec 16)
  spiCfg     : Word
  /-- R61: the context the arbiter considers first. -/
  rrNext     : Fin 8
  deriving DecidableEq, Repr

/-! ## The almanac (spec/03_almanac.md) -/

/-- R77: what waits for a block reservation to seal. -/
inductive Held where
  | command (op : Op) (h : Hdr) (p : Octets) (obs : Obs)
  | internal (opcode : BitVec 16) (hostSeq : BitVec 16) (crc : BitVec 32) (stamp : Word)
  deriving DecidableEq, Repr

/-- The journal block (R77, R80, R92). -/
structure Jrn where
  /-- The next number; a number is taken only below `blockEnd`. -/
  next      : Nat
  blockEnd  : Nat
  /-- The first number of a block that was reserved in the background and sealed. -/
  nextBlock : Option Nat
  reserving : Bool
  exhausted : Bool
  startSeq  : Word
  startKind : Nat
  /-- The slot of the working ring the next entry takes, and how many it holds. -/
  head      : Nat
  count     : Nat
  nvHead    : Nat
  nvCount   : Nat
  dispatch  : BitVec 16
  held      : List Held
  deriving DecidableEq, Repr

/-! ## Key slots (spec/10_cipher_tract.md) -/

/-- R318: the STATE of a key slot. -/
inductive SlotState where
  | empty | written | erased | lost
  deriving DecidableEq, Repr

/-- R318: a key slot: the fields of its tag, the key it never gives out, and the check value of R319. -/
structure Slot where
  usage   : Nat
  size    : Nat
  fchk    : Nat
  cls     : Nat
  persist : Nat
  st      : SlotState
  gen     : Nat
  key     : Octets
  kcv     : Nat
  deriving DecidableEq, Repr

/-! ## Working memory and its protection (spec/14_memory_integrity.md) -/

/-- R432: one entry of the correction tally. -/
structure TallyEnt where
  addr     : Nat
  count    : Nat
  /-- The tick of the last write-back. -/
  stamp    : Option Word
  hard     : Bool
  deriving DecidableEq, Repr

/-- R426: one entry of the merge buffer; an octet not written yet is `none`. -/
structure MergeEnt where
  addr : Nat
  octs : List (Option Octet)
  deriving DecidableEq, Repr

/-- The memory block. -/
structure Mem where
  /-- The stored bits, data in [39:0] and check in [46:40], of the physical words that differ from their bank's fill; addresses rise. -/
  cells      : List (Nat × BitVec 47)
  /-- Bit b: the unlisted words of physical bank b hold poison; otherwise the zero word. -/
  fill       : BitVec 24
  /-- The physical bank serving each logical bank of 0 to 15. -/
  map        : Vector Nat 16
  /-- Bit n: physical bank n is retired, for this run or permanently. -/
  retired    : BitVec 24
  /-- The part of `retired` and the map that is stored (R433). -/
  storedRet  : BitVec 24
  storedMap  : Vector Nat 16
  tally      : List TallyEnt
  /-- R440 GLEANING: the gleaner has begun to run. -/
  gleaning   : Bool
  gleanNext  : Nat
  passes     : Nat
  merge      : List MergeEnt
  checker    : Word
  flags      : Word
  cfg        : Word
  counts0    : Word
  counts1    : Word
  counts2    : Word
  repairs    : Nat
  lost       : Nat
  cand       : Vector Nat 24
  logCount   : Nat
  logNext    : Nat
  /-- R438: the ticks of the events raised in the last second, and the events suppressed. -/
  evTicks    : List Word
  suppressed : Nat
  /-- R423: the stored bits of each copy of each critical word, as a difference from the valid code of the value: copy c of word w at 3w + c; addresses rise. -/
  critDiff   : List (Nat × BitVec 47)
  /-- R435: the signatures of banks 0 to 7 (critical words 34 to 41). -/
  signs      : Vector (BitVec 32) 8
  deriving DecidableEq, Repr

/-! ## The non-volatile store (spec/15_nvm.md) -/

/-- The contents of the logical pages: words that differ from the erased value, at rising store addresses (`none` is a word
of poison, R448), and the pages that are not BLANK, rising. -/
structure Store where
  cells   : List (Nat × Option Word)
  written : List Nat
  deriving DecidableEq, Repr

/-- R451, R452: a commit under way. -/
structure Commit where
  pages  : List Nat
  image  : Store
  upTo   : Nat
  deriving DecidableEq, Repr

/-- R450: a write that waits for room in the buffer. -/
structure BufWrite where
  ticket : Nat
  cells  : List (Nat × Option Word)
  deriving DecidableEq, Repr

/-- R457: one tally counter. -/
structure Tally where
  base   : Nat
  gen    : Nat
  bits   : Nat
  intent : Option Nat
  deriving DecidableEq, Repr

/-- Why a tally is incremented, and so what its completion brings. -/
inductive TallyUse where
  /-- R77: an almanac block in the background. -/
  | block
  /-- R216: an epoch advance. -/
  | epoch
  /-- R336: CTX_EPOCH. -/
  | ctxEpoch
  /-- R257: a counter block of a receiver. -/
  | rx (n : Fin 4)
  /-- R460: a host's increment of a user counter. -/
  | user
  deriving DecidableEq, Repr

/-- R458: an increment under way or waiting. -/
structure TallyOp where
  counter : Fin 32
  use     : TallyUse
  number  : Nat
  deriving DecidableEq, Repr

/-- R454: the values the shadow region saves; the counter log is the words of bank 1 it occupies. -/
structure Shadow where
  lockFails  : Nat
  lockLevel  : Nat
  lockActive : Bool
  lockEnd    : Word
  lockNonce  : BitVec 64
  nonceLive  : Bool
  tamper     : BitVec 4
  calendar   : Word
  lastAttest : Word
  idleSince  : Word
  counters   : List (Nat × Word)
  deriving DecidableEq, Repr

/-- R455: one generation of the shadow ring. Left open: DESIGN CHOICE, assumption log 9. -/
structure ShadowGen where
  gen      : Nat
  complete : Bool
  val      : Shadow
  deriving DecidableEq, Repr

/-- R411, R453: the power-down commit that has run, so that VHOLD_LOW can cut it short: the store before it, its pages in
order of sealing with their new contents, and the shadow ring before it. -/
structure PowerDown where
  before  : Store
  pages   : List Nat
  image   : Store
  shadows : List ShadowGen
  /-- R324: the key slots whose records it sealed, with what they held before. -/
  keys    : List (Nat × Slot)
  deriving DecidableEq, Repr

/-- R465: the figures of a patrol pass. -/
structure PatrolSum where
  pages     : Nat
  corrected : Nat
  refreshed : Nat
  retired   : Nat
  lost      : Nat
  deriving DecidableEq, Repr

/-- The non-volatile store block. -/
structure Nvm where
  mounted    : Bool
  /-- What reads see: the sealed pages with the write buffer over them (R450). -/
  work       : Store
  /-- The sealed version of each page. -/
  sealed     : Store
  /-- The dirty pages of the write buffer, in order of entry. -/
  dirty      : List Nat
  /-- The tick of the oldest uncommitted write. -/
  oldest     : Option Word
  commit     : Option Commit
  /-- Another commit starts when the one under way ends. -/
  again      : Bool
  backlog    : List BufWrite
  ticket     : Nat
  sealedTo   : Nat
  /-- The physical page of each logical page that has moved; a page not listed is where it started. -/
  map        : List (Nat × Nat)
  pool       : List Nat
  erasing    : List Nat
  retired    : List Nat
  seq        : Nat
  shadows    : List ShadowGen
  tallies    : Vector Tally 32
  tallyOps   : List TallyOp
  tallyNext  : Nat
  flags      : Word
  cfg        : Word
  counts0    : Word
  counts1    : Word
  patrolNext : Nat
  patrolLast : Word
  /-- The calendar second at which the next page falls due. -/
  patrolDue  : Nat
  patrolSum  : PatrolSum
  powerDown  : Option PowerDown
  /-- R461: what is kept of the password of region k: read at 2k, write at 2k + 1. -/
  pw         : Vector (Option (BitVec 64)) 16
  /-- R466: words 0 to 10 of the regulatory record in force, and whether the page has been written. -/
  reg        : List Word
  regWritten : Bool
  /-- R127, R202: the limits each tract applies: they follow the record at the tract's next headland. -/
  regLf      : Word
  regUhf     : List Word
  regUwb     : Word
  deriving DecidableEq, Repr

/-! ## Power states, domains and wake (spec/13_power_states.md) -/

/-- R392: the power states, coded as PWR_ENTER.STATE. -/
inductive PState where
  | run | idle | sleep | deep | off
  deriving DecidableEq, Repr

/-- R405: the ready signal a return to work waits for. -/
inductive StartPhase where
  | vcore | xo | mem | logic | accept
  deriving DecidableEq, Repr

/-- What kind of start a return to work is: R74's kinds, a wake from SLEEP, and a cold start from OFF or from no supply. -/
inductive StartKind where
  | cold | reset | firmware | deep | sleep
  deriving DecidableEq, Repr

/-- R405: a return to work under way. -/
structure Start where
  kind    : StartKind
  left    : PState
  phase   : StartPhase
  /-- R414 SOURCE and timer. -/
  source  : Nat
  timer   : Nat
  /-- The wake was latched during entry (R400). -/
  latched : Bool
  /-- The tick the exit began. -/
  began   : Word
  /-- R406: restarts of the main regulator so far. -/
  tries   : Nat
  saveFail : Bool
  commitFail : Bool
  bankFail : BitVec 8
  deriving DecidableEq, Repr

/-- R399: the stages of an entry. -/
inductive EntryPhase where
  /-- Step 2: claims. -/
  | claims
  /-- Steps 3 and 4: dispatched commands complete and the drain runs. -/
  | drain
  /-- Steps 6 to 8: replies are collected, the save list written, the clamps applied. -/
  | collect
  deriving DecidableEq, Repr

/-- R397 to R400: a PWR_ENTER under way, or the re-entry of R404 (which has no command). -/
structure PwrEntry where
  target  : PState
  force   : Bool
  retain  : BitVec 8
  waitMs  : Nat
  began   : Word
  /-- Step 6: the tick at which the last command completed. -/
  done    : Word
  phase   : EntryPhase
  /-- The first wake source latched since the grant: SOURCE and timer. -/
  latched : Option (Nat × Nat)
  byHost  : Bool
  deriving DecidableEq, Repr

/-- R414: the wake record. -/
structure WakeRec where
  source    : Nat
  timer     : Nat
  left      : Nat
  flags     : Nat
  bankFail  : BitVec 8
  entryT    : Nat
  exitUs    : Nat
  stamp     : Word
  residency : Word
  deriving DecidableEq, Repr

/-- The power block. -/
structure Pwr where
  state     : PState
  start     : Option Start
  entry     : Option PwrEntry
  /-- R394: 0 RUN-ECO, 1 RUN, 2 RUN-PERF; `profNext` is the profile a ramp or a boost's end brings. -/
  profile   : Nat
  profNext  : Option Nat
  /-- R394: a VCORE ramp is under way. -/
  ramping   : Bool
  boost     : Bool
  vbkupOk   : Bool
  /-- VSYS is at or above 2.85 V; VSYS has been below it since it was last above 3.0 V. -/
  vsysOk    : Bool
  xoOk      : Bool
  xoFail    : Bool
  xo32      : Bool
  flags     : Word
  wakeCfg   : Word
  wakeTmr   : Word
  rails     : Word
  res       : Vector Word 4
  wrap      : Vector Nat 4
  wake      : WakeRec
  /-- The tick at which the present state was reached; whether it was forced or entered on VBKUP, and the ticks its entry took. -/
  visit     : Word
  forced    : Bool
  onBkup    : Bool
  entryT    : Nat
  /-- The retention mask of the DEEP being held. -/
  retain    : BitVec 8
  /-- R404: this RUN visit follows a PRESENT wake, and no host command has come since. -/
  presentVisit : Bool
  deriving DecidableEq, Repr

/-! ## System: balls, tamper, firmware (spec/17_balls_and_signals.md, R268, R476 to R480) -/

/-- R510: a debounced always-on input: the level last sampled, how many samples in a row showed it, and the debounced level once there
is one. -/
structure Debounce where
  last   : Bool
  run    : Nat
  level  : Option Bool
  deriving DecidableEq, Repr

/-- R268: a tamper input. -/
structure Tamper where
  enable   : Bool
  high     : Bool
  debounce : Nat
  input    : Debounce
  deriving DecidableEq, Repr

/-- R480: an open firmware transfer. -/
structure FwXfer where
  ctx      : Fin 8
  size     : Nat
  version  : Nat
  received : Nat
  image    : Octets
  last     : Word
  deriving DecidableEq, Repr

/-- The system block. -/
structure Sys where
  faultBoot : Bool
  gpioDir   : Word
  gpioOut   : Word
  gpioPull  : Word
  /-- The levels outside drivers put on the pins. -/
  gpioExt   : BitVec 16
  vddio     : Bool
  debugLock : Bool
  tamper    : Vector Tamper 2
  /-- R269: the levels of LOCKA_POS and LOCKB_POS; low is locked. -/
  pos       : Vector Debounce 2
  /-- R510: the tick of the last sample. -/
  sampled   : Option Word
  /-- Events raised while no command could be accepted; they follow the next return to work. -/
  later     : List (Nat × Octets)
  /-- R268: the latches: bits 0 and 1 the inputs, bits 2 and 3 the position tamper of LOCKA and LOCKB. -/
  latch     : BitVec 4
  fw        : Option FwXfer
  fwSlot    : Nat
  fwVersion : Nat
  /-- A verified image waits for the restart of SYS_FW_COMMIT. -/
  fwNext    : Option Nat
  /-- R479: a restart follows the delivery of the reply: the kind of its START entry. -/
  restart   : Option Nat
  deriving DecidableEq, Repr

/-! ## The always-on domain (R7, R370, R371, R527) -/

/-- The always-on time base and the calendar. -/
structure Aon where
  tick      : Word
  calendar  : Word
  /-- Ticks since the last calendar fraction (128 to a fraction), and the trim's remainder (R370). -/
  calPhase  : Nat
  trimAcc   : Int
  uncertain : Bool
  lastAttest : Word
  /-- R372: the attestation nonce and the tick it was drawn. -/
  nonce     : BitVec 64
  nonceAt   : Option Word
  deriving DecidableEq, Repr

/-! ## Cipher tract and key slots (spec/10_cipher_tract.md) -/

/-- R334: a cipher context. The 16-bit generation `cgen` outlives the use of the context (R337, R339). -/
structure CphCtx where
  inUse  : Bool
  owner  : Fin 8
  mode   : Nat
  op     : Nat
  width  : Nat
  slot   : Nat
  gen    : Nat
  chain  : Octets
  part   : Octets
  count  : Nat
  cgen   : Nat
  deriving DecidableEq, Repr

/-- R347: the DRBG field of CPH_STATUS. -/
inductive DrbgState where
  | none | ready | reseeding | error
  deriving DecidableEq, Repr

/-- The write of a key slot that takes effect when its record is sealed (R324). -/
structure KeyPend where
  slot   : Nat
  ticket : Nat
  val    : Slot
  deriving DecidableEq, Repr

/-- The cipher block. -/
structure Cph where
  slots     : Vector Slot 256
  pend      : List KeyPend
  ctxs      : Vector CphCtx 64
  failed    : BitVec 16
  /-- R344: the modes whose known-answer test failed: bit 0 CMAC, 1 CCM, 2 KW, 3 DRBG. -/
  katModes  : BitVec 4
  katDone   : Bool
  faults    : List Word
  /-- R316: the tick at which quarantine began. -/
  quarantine : Option Word
  drbg      : DrbgState
  entropyOk : Bool
  restarts  : Nat
  requests  : Nat
  reseedAt  : Word
  flags     : Word
  counts0   : Word
  counts1   : Word
  counts2   : Word
  deriving DecidableEq, Repr

/-! ## Network port, local clock, triggers and captures (spec/11_network_time.md) -/

/-- R351: what a waiting frame carries. -/
inductive TxKind where
  | sheaf (n : Fin 4)
  | sync | delayReq
  | ptp
  | battery
  | reply (ctx : Fin 8) (seq : BitVec 16) (frees : Bool)
  | event (ctx : Fin 8)
  deriving DecidableEq, Repr

/-- A frame that waits for a transmit opportunity. -/
structure TxFrame where
  kind    : TxKind
  dst     : BitVec 48
  ether   : BitVec 16
  payload : Octets
  deriving DecidableEq, Repr

/-- R358: a Sync that waits for its Follow_Up: sequence number, arrival t2 in ns, correction in ns. -/
structure SyncWait where
  seqId : BitVec 16
  t2    : Int
  corr  : Int
  deriving DecidableEq, Repr

/-- R357, R358: the PTP engine and the servo. -/
structure Ptp where
  /-- The master held: its port identity. -/
  master    : Option (BitVec 80)
  announced : Word
  newMaster : Bool
  sync      : Option SyncWait
  syncSeq   : BitVec 16
  annSeq    : BitVec 16
  delaySeq  : BitVec 16
  /-- The Delay_Req that waits for its response: sequence number and departure t3. -/
  delayReq  : Option (BitVec 16 × Int)
  delayAt   : Option Word
  /-- t4 - t3 and the correction of the last complete pair. -/
  pair      : Option (Int × Int)
  goodRun   : Nat
  bigRun    : Nat
  /-- The state of the PI servo, whose gains the spec does not give. -/
  servo     : Int
  deriving DecidableEq, Repr

/-- R365, R376: one trigger slot. Times are in ns of the local clock. -/
structure TrigSlot where
  armed   : Bool
  target  : Nat
  pol     : Nat
  sec     : Nat
  ns      : Nat
  period  : Nat
  pulse   : Nat
  nextNs  : Int
  late    : Bool
  fires   : Nat
  missed  : Nat
  deriving DecidableEq, Repr

/-- R365: a TRIG pin: its level, and the level a running pulse ends at. -/
structure TrigPin where
  level : Bool
  pulse : Option Bool
  deriving DecidableEq, Repr

/-- R368: one capture entry. -/
structure Capture where
  ns     : Nat
  rising : Bool
  coarse : Bool
  step   : Nat
  deriving DecidableEq, Repr

/-- R354: CLOCK_STATE. -/
inductive ClockState where
  | unset | free | locked
  deriving DecidableEq, Repr

/-- The network-time block and the network port. -/
structure Ntc where
  link      : Bool
  /-- Nanoseconds of the local clock, SEC * 10^9 + NS, and the remainder below one nanosecond in units of 1 / (64 * 10^9) ns. -/
  ns        : Nat
  frac      : Nat
  clock     : ClockState
  coarse    : Bool
  stepCount : Nat
  ptp       : Ptp
  offset    : Int
  /-- R360: FREQ_PPB in force or the servo's rate, in ppb, and what remains of an offset slew, in units of 1 / (64 * 10^9) ns. -/
  freq      : Int
  slew      : Int
  latchSec  : Nat
  flags     : Word
  netCfg    : Word
  ptpCfg    : Word
  servoCfg  : Word
  asym      : Word
  calCfg    : Word
  capCfg    : Word
  counts0   : Word
  counts1   : Word
  trig      : Vector TrigSlot 16
  pins      : Vector TrigPin 4
  cap       : Vector (List Capture) 2
  capOver   : Vector Bool 2
  /-- R349: the PHY restarts when the frame in progress ends. -/
  restart   : Bool
  queue     : List TxFrame
  onWire    : Option TxFrame
  deriving DecidableEq, Repr

/-! ## Tilth sequencers (spec/09_tilth_sequencers.md) -/

/-- R300: an installed program: what its header gives, and its instructions. -/
structure Image where
  version : Nat
  /-- Its CMAC verified. -/
  signed  : Bool
  crc     : BitVec 32
  entry0  : Nat
  entry1  : Nat
  code    : List Word
  deriving DecidableEq, Repr

/-- What holds a program up between two instructions. -/
inductive Stall where
  /-- Nothing: the instruction at the index runs next. -/
  | none
  /-- R286: a wait of `count` units that began at a tick, or, absolute, at the round's t = 0. -/
  | time (unit count : Nat) (since : Word)
  /-- R288: a wait for a line of the mask; the line goes to a register. -/
  | event (mask : BitVec 16) (ra : Fin 8)
  /-- R290: an element under way; its result goes to a register. -/
  | element (ra : Fin 8)
  deriving DecidableEq, Repr

/-- One sequencer (R280 to R307). -/
structure Seq where
  unit     : UnitState
  source   : Nat
  fallback : Bool
  image    : Image
  /-- R303: a checked image that waits for the headland. -/
  next     : Option Image
  /-- R303: the ticket of the store write of an image loaded with PERSIST. -/
  ticket   : Option Nat
  regs     : Vector Word 8
  eq       : Bool
  lt       : Bool
  slt      : Bool
  pc       : Nat
  stack    : List Nat
  lines    : BitVec 16
  inRound  : Bool
  /-- The tick at which the round began, from which its deadline runs (R18). -/
  entered  : Word
  /-- The tick of the round's t = 0 (R286). -/
  began    : Word
  stall    : Stall
  /-- R22, R295: the headland waits for an element on air to finish. -/
  ending   : Bool
  cause    : Nat
  faultPc  : Nat
  stopHalt : Bool
  counts   : Word
  evt      : Word
  evtNext  : Option Word
  deriving DecidableEq, Repr

/-- R301: the open staging; its words lie in bank 6 from 0x3000. -/
structure Staging where
  ctx     : Fin 8
  seq     : Fin 3
  words   : Nat
  /-- A chunk did not follow the one before it. -/
  gap     : Bool
  last    : Word
  deriving DecidableEq, Repr

/-- The sequencer block. -/
structure SeqBlock where
  seqs   : Vector Seq 3
  signed : Bool
  flags  : Word
  stage  : Option Staging
  deriving DecidableEq, Repr

/-! ## Timers (spec/12_timers.md) -/

/-- R377: one timer; `phase` counts the source events since its last increment. -/
structure Timer where
  count : Word
  cmp   : Word
  cfg   : Word
  run   : Bool
  phase : Nat
  late  : Bool
  deriving DecidableEq, Repr

/-- The timer block. -/
structure Tmr where
  timers : Vector Timer 32
  matched : Word
  isOver    : Word
  late    : Word
  deriving DecidableEq, Repr

/-! ## Credentials and their checks (spec/07_credentials.md) -/

/-- R241, R220: an accepted credential of a full round. -/
structure Acceptance where
  lane      : Nat
  slot      : Nat
  zone      : Nat
  id        : Word
  cls       : Nat
  epoch     : Nat
  /-- R226: its zone was allowed when it was classified. -/
  allowed   : Bool
  conflict  : Bool
  captured  : Bool
  confirmed : Bool
  jump      : Bool
  stale     : Bool
  rssi      : Nat
  offset    : Int
  ctr       : Word
  body      : Octets
  pos       : Nat
  stamp     : Word
  deriving DecidableEq, Repr

/-- R241: a rejection of a full round. -/
structure Rejection where
  lane    : Nat
  slot    : Nat
  reason  : Nat
  id      : Word
  rssi    : Nat
  counted : Bool
  /-- Whether its CMAC verified (R150), and its 41 octets. -/
  genuine : Bool
  body    : Octets
  deriving DecidableEq, Repr

/-- R224: one zone of the field map. -/
structure Zone where
  name : Octets
  lo   : Octets
  hi   : Octets
  deriving DecidableEq, Repr

/-- R227: a trip ticket. -/
structure Ticket where
  id     : Word
  serial : Nat
  since  : Nat
  until_ : Nat
  level  : Nat
  cap    : Nat
  deriving DecidableEq, Repr

/-- R236, R238: the attempt of a battery exchange. -/
inductive BatPhase where
  /-- No link yet (R238 LINK). -/
  | link
  /-- CHALLENGE queued or sent, with its RV; the RESPONSE is awaited. -/
  | waiting (rv : BitVec 64)
  /-- The attempt failed; the next follows 100 ms later, or waits for a quarantine's end. -/
  | pause
  deriving DecidableEq, Repr

/-- R235 to R238: a battery exchange under way. -/
structure Battery where
  number : BitVec 16
  /-- Attempts begun so far. -/
  tries  : Nat
  phase  : BatPhase
  began  : Word
  deriving DecidableEq, Repr

/-- The credentials block. -/
structure Crd where
  loaded     : Bool
  compacting : Bool
  flags      : Word
  domain     : Nat
  sealed     : Bool
  self       : Word
  cfg        : Word
  /-- R231: the lock-out. -/
  fails      : Nat
  level      : Nat
  active     : Bool
  lockEnd    : Word
  nonce      : BitVec 64
  nonceLive  : Bool
  batCfg     : Word
  battery    : Option Battery
  batNumber  : BitVec 16
  /-- The pack authenticated, and its stamp. -/
  batAuth    : Option (Word × Word)
  batFailed  : Bool
  batReason  : Nat
  /-- The newest battery record. -/
  batRecord  : Octets
  /-- R235: a recheck that waits for link. -/
  batDefer   : Bool
  /-- The tick of the last start of an exchange. -/
  batAt      : Word
  tickets    : List Ticket
  serialHigh : Nat
  zones      : List Zone
  mapCrc     : BitVec 32
  counts0    : Word
  counts1    : Word
  zpol       : Vector Word 16
  /-- R209: the index: credential ID and position of every entry that is not FREE, in order of ID. -/
  index      : List (Nat × Nat)
  /-- R240: the fresh set, and the records of the latest full round. -/
  fresh      : List Acceptance
  latest     : Octets
  /-- R211: the counter log: position and value. -/
  ctrLog     : List (Nat × Word)
  foldDay    : Nat
  revoked    : Nat
  deriving DecidableEq, Repr

/-! ## LF field tract (spec/04_lf_field_tract.md) -/

/-- R105: what is on air. -/
inductive Element where
  | wake | challenge
  | slot (k : Nat)
  | confirm (j : Nat)
  deriving DecidableEq, Repr

/-- R98 to R103: one coil. -/
structure Coil where
  cfg     : Word
  cls     : Nat
  /-- The class of the latest measurement, how many in a row showed it, and how many in a row showed neither OPEN nor SHORT. -/
  seen    : Nat
  run     : Nat
  clear   : Nat
  phase   : Int
  ampl    : Nat
  q       : Nat
  trimNow : Nat
  /-- The tick of its last diagnosis pulse. -/
  diagAt  : Word
  deriving DecidableEq, Repr

/-- R122, R128: a configuration change that waits for a headland. -/
inductive LfChange where
  | reg (r : Nat) (v : Word)
  | channels (mask set enable current trim auto : Nat)
  deriving DecidableEq, Repr

/-- R18, R112, R113: a plough round. -/
structure PloughRound where
  full    : Bool
  cause   : Nat
  /-- The tick of the wake burst's start; before it, of the round's start. -/
  stamp   : Word
  /-- R291: the next element in order: 0 wake, 1 challenge, 2 burst, 3 listen, 4 confirm. -/
  next    : Nat
  refused : Bool
  onAir   : Option Element
  driven  : BitVec 12
  /-- The mask of the BURST under way. -/
  mask    : BitVec 12
  listening : Bool
  sc      : Nat
  rb      : BitVec 64
  /-- R218: the key latched from slot 8, and its generation. -/
  key     : Option Octets
  gen     : Nat
  erased  : Bool
  stale   : Bool
  /-- R132, R224: the field map the round classifies under. -/
  zones   : List Zone
  /-- R220: word 2, at the round's start, of the entries written since. -/
  ctr0    : List (Nat × Word)
  /-- R115: each coil: 0 delivered, 1 to 6 a reason, 7 not in the plan; and the coils whose slot was silent. -/
  coil    : Vector Nat 12
  silent  : BitVec 12
  accs    : List Acceptance
  rejs    : List Rejection
  lost    : BitVec 64
  /-- R153: the slot in progress, how many second-chance slots are scheduled, and whether a collision was indicated. -/
  k       : Nat
  m       : Nat
  hint    : Bool
  confirms : Nat
  denied  : Bool
  deadline : Bool
  /-- R422: a steward restart fell into the round: its result is cleared. -/
  cleared  : Bool
  deriving DecidableEq, Repr

/-- The LF block. -/
structure Lf where
  unit      : UnitState
  base      : Nat
  baseNext  : Nat
  ride      : Bool
  /-- The origin of the grid in force. -/
  origin    : Word
  stopCause : Nat
  roundNo   : BitVec 16
  flags     : Word
  cfg       : Word
  pollCfg   : Word
  wakeId    : Word
  plan0     : Word
  plan1     : Word
  idleSince : Word
  /-- R125: the on-time, in µs, of sub-windows of 512 ticks, by sub-window number. -/
  duty      : List (Nat × Nat)
  counts    : Word
  coils     : Vector Coil 12
  hot       : BitVec 3
  round     : Option PloughRound
  /-- R118: a full round is to start, with its cause. -/
  want      : Option Nat
  /-- R104, R160: a poll or full round that waits for the start-up diagnosis. -/
  due       : Option Nat
  /-- R118: the tick at which the holdoff began. -/
  holdoff   : Option Word
  changes   : List LfChange
  /-- R106 to R108: the bits, after the wake burst, of the latest downlink frame sent, first sent first. -/
  frame     : List Bool
  deriving DecidableEq, Repr

/-! ## UHF receive tract (spec/05_uhf_receive_tract.md) -/

/-- R138: a channel plan: UHF_PLAN and the segment bases in Hz. -/
structure Plan where
  word : Word
  segs : List Nat
  deriving DecidableEq, Repr

/-- R155: an entry of the late-frame log. -/
structure LateFrame where
  a : Word
  id : Word
  deriving DecidableEq, Repr

/-- R164: the capture: its state is CAPT of UHF_STATUS. -/
structure Capt where
  state   : Nat
  kind    : Nat
  lane    : Nat
  trigger : Nat
  length  : Nat
  samples : Nat
  data    : Octets
  deriving DecidableEq, Repr

/-- R166, R167, R200, R201: a coexistence wire set. -/
structure Coex where
  cfg  : Word
  next : Option Word
  /-- Requester: REQ and PRI driven, and GNT as it is read. -/
  req  : Bool
  pri  : Bool
  gnt  : Bool
  /-- Grantor: REQ and PRI of the other radio, and whether the grant is given. -/
  reqIn : Bool
  priIn : Bool
  given : Bool
  /-- A grant was given inside collection, listening or a round. -/
  blanked : Bool
  deriving DecidableEq, Repr

/-- The UHF block. -/
structure Uhf where
  unit      : UnitState
  /-- R161: the unit is to start again at the next wake to RUN. -/
  again     : Bool
  plan      : Option Plan
  planNext  : Option Plan
  flags     : Word
  roundCfg  : Word
  calCfg    : Word
  calCount  : Nat
  failRun   : Nat
  calTemp   : Int
  calValid  : Bool
  calAt     : Word
  calDue    : Bool
  vigil     : Word
  vigilTemp : Int
  counts0   : Word
  counts1   : Word
  counts2   : Word
  late      : List LateFrame
  /-- R155: ROUND_NO of the latest full round that collected. -/
  collected : Option (BitVec 16)
  lateNext  : Nat
  lanes     : Vector Word 64
  capt      : Capt
  coex      : Vector Coex 2
  deriving DecidableEq, Repr

/-! ## UWB ranging tract (spec/06_uwb_ranging_tract.md) -/

/-- R178 to R186: a ranging session. -/
structure Session where
  isOpen   : Bool
  id       : Word
  role     : Nat
  method   : Nat
  channel  : Nat
  code     : Nat
  psr      : Nat
  rate     : Nat
  stsCfg   : Nat
  stsLen   : Nat
  stsSlot  : Nat
  macSlot  : Nat
  /-- R178: V; bits [31:0] are the STS counter. -/
  v        : BitVec 128
  pan      : Nat
  own      : Nat
  peer     : Nat
  slot     : Nat
  interval : Nat
  window   : Nat
  limit    : Nat
  horizon  : Nat
  qmin     : Nat
  angle    : Bool
  test     : Bool
  /-- R186: the round index. -/
  round    : Nat
  /-- R180: rounds in a row without a POLL. -/
  missed   : Nat
  /-- R180: the RMARKER the grid is anchored to. -/
  anchor   : Nat
  /-- R183: a host waits for the close. -/
  closing  : Bool
  deriving DecidableEq, Repr

/-- R193, R241: the newest record of a session: a ranging record, or CLOSED. -/
structure RangeRec where
  octets  : Octets
  closed  : Bool
  id      : Word
  reason  : Nat
  bound   : Nat
  stamp   : Word
  angle   : Int
  angleOk : Bool
  ss      : Bool
  within  : Bool
  test    : Bool
  /-- R26: it counts as a bound while its age is at most this many ticks. -/
  horizon : Nat
  deriving DecidableEq, Repr

/-- R189, R199: one timed arrival: its pair, the two timestamps after the antenna delay, quality, whether the first path lies in the STS,
its angle, and its CIRs in block form. -/
structure Timed where
  a      : Nat
  b      : Nat
  ta     : Nat
  tb     : Nat
  q      : Nat
  inside : Bool
  angle  : Int
  angleOk : Bool
  cirs   : List Octets
  deriving DecidableEq, Repr

/-- R18, R185: a ranging round. -/
structure RangeRound where
  session : Fin 8
  extra   : Bool
  /-- The tick of POLL's RMARKER. -/
  stamp   : Option Word
  began   : Word
  /-- R186: the round index. -/
  index   : Nat
  /-- R180: the grid point at which POLL is to leave; an extra round has none. -/
  grid    : Option Nat
  /-- R184: the report MAC key latched. -/
  macKey  : Octets
  stale   : Bool
  erased  : Bool
  ran     : Bool
  pollTx  : Option Nat
  pollRx  : Option Timed
  respRx  : Option Timed
  respTx  : Option Nat
  finalTx : Option Nat
  finalRx : Option Timed
  /-- R186: ROUND_TIME and REPLY_TIME of the REPORT. -/
  report  : Option (Nat × Nat)
  eps     : Int
  ss      : Bool
  loopOk  : Bool
  /-- R194: a POLL of this round was expected and not heard by a responder. -/
  noPoll  : Bool
  /-- The first cause that ends the round without a bound. -/
  fail    : Option Nat
  isOver    : Bool
  /-- R422: a steward restart fell into the round: its result is cleared. -/
  cleared : Bool
  blanked : Bool
  deriving DecidableEq, Repr

/-- The UWB block. -/
structure Uwb where
  radio     : Nat
  flags     : Word
  cfg       : Word
  cfgNext   : Option Word
  failed    : BitVec 8
  nextPair  : Nat
  counts0   : Word
  counts1   : Word
  disabled  : Bool
  calValid  : Bool
  calAt     : Word
  calTemp   : Int
  calDue    : Bool
  cal       : Vector Word 4
  calNext   : List (Nat × Word)
  duty      : List (Nat × Nat)
  sessions  : Vector Session 8
  recs      : Vector (Option RangeRec) 8
  /-- R205: the record UWB_RESn shows: the latest completed result of the session. -/
  shown     : Vector (Option RangeRec) 8
  round     : Option RangeRound
  /-- R199: the export buffer. -/
  cir       : Option (List Timed)
  deriving DecidableEq, Repr

/-! ## Harvest (spec/08_harvest.md) -/

/-- R247 to R273: one receiver. -/
structure Receiver where
  unit      : UnitState
  mac       : BitVec 48
  configured : Bool
  source    : Bool
  /-- R249: the store write of the latest change of the armed state. -/
  ticket    : Nat
  next      : Nat
  blockEnd  : Nat
  /-- R257: the first value of a block reserved in the background. -/
  nextBlock : Option Nat
  reserving : Bool
  level     : Nat
  reason    : Nat
  cap       : Nat
  /-- R262: the last cap sent, where there is one. -/
  lastCap   : Option Nat
  keygen    : Nat
  missed    : Nat
  /-- R263: t0 and c0 of a WINDDOWN in progress. -/
  t0        : Word
  c0        : Nat
  first     : Bool
  /-- R277: the level of the latest sheaf composed. -/
  told      : Nat
  /-- R275: the tick since which the level has been DENY. -/
  denySince : Word
  /-- R260: the counters and key generations of sheaves sent in the last 3 periods, with the period's number. -/
  sent      : List (Nat × Nat × Nat)
  reported  : Option Nat
  deriving DecidableEq, Repr

/-- R255: a composed sheaf, or why there is none. -/
inductive Sheaf where
  | none
  | held (payload : Octets)
  | emitted
  | sent
  | abandoned
  deriving DecidableEq, Repr

/-- R250: what a period sends to a receiver; `final` marks the last sheaf of a disarm (R248). -/
structure Release where
  level   : Nat
  cap     : Nat
  reason  : Nat
  t0      : Word
  c0      : Nat
  final   : Bool
  counter : Nat
  keygen  : Nat
  deriving DecidableEq, Repr

/-- R250: a release period. -/
structure Period where
  began  : Word
  late   : Bool
  sheaf  : Vector Sheaf 4
  /-- R293: the least receiver EMIT may still name. -/
  nextRx : Nat
  plan   : Vector (Option Release) 4
  number : Nat
  deriving DecidableEq, Repr

/-- R274: one lock driver: the drive that runs or waits, and its last drive. -/
structure Driver where
  running : Bool
  waiting : Bool
  byHost  : Bool
  /-- 0 lock, 1 release. -/
  dir     : Nat
  maxMs   : Nat
  ilim    : Nat
  began   : Word
  peak    : Nat
  now     : Nat
  /-- R269: the tick at which the last drive ended, and its direction. -/
  ended   : Option Word
  lastDir : Nat
  deriving DecidableEq, Repr

/-- The harvest block. -/
structure Hrv where
  rx        : Vector Receiver 4
  policy0   : Word
  policy1   : Word
  flags     : Word
  lock      : Bool
  /-- R266: LOCKB is to be driven to lock once R275 allows it. -/
  wantB     : Bool
  moving    : Bool
  reason    : Nat
  capNow    : Nat
  counts0   : Word
  counts1   : Word
  /-- The latest accepted SPEED, and the motion fact with its stamp (R260). -/
  speed     : Nat
  fact      : Option (Nat × Word)
  drivers   : Vector Driver 2
  lastResult : Nat
  period    : Option Period
  /-- R21: a cadence point passed while a period was in progress. -/
  lateDue   : Bool
  periods   : Nat
  lastAt    : Option Word
  /-- GET 0x12: the levels of the latest completed period. -/
  done      : Vector Nat 4
  deriving DecidableEq, Repr

/-! ## The whole machine -/

/-- The state of the device, with the queue of the commands that wait. -/
structure State where
  sys : Sys
  pwr : Pwr
  aon : Aon
  hst : Hst
  jrn : Jrn
  mem : Mem
  nvm : Nvm
  cph : Cph
  ntc : Ntc
  seq : SeqBlock
  tmr : Tmr
  crd : Crd
  lf  : Lf
  uhf : Uhf
  uwb : Uwb
  hrv : Hrv
  /-- The model's own: how many free values have been drawn. -/
  free : Nat
  /-- The commands that wait, first in, first out. -/
  pending : List Instr
  deriving DecidableEq, Repr


/-! ## The device after reset

Right after a cold start on a store that has never been written, once commands are accepted (R405). Assumption log 1 names every value the
spec does not give. -/

/-- A closed context that has never been used. Left open: DESIGN CHOICE, assumption log 1. -/
def Ctx.reset : Ctx :=
  { isOpen := false, port := .spiA, role := .observer, push := false, mac := 0, keySlot := 0, lastSeq := 0, evSeq := 0, mask := 0,
    events := [], lost := 0, claim := 0, renewed := 0, nonce := 0, nonceLive := false, roleTries := { fails := [], since := none },
    pwTries := { fails := [], since := none }, pwForce := 0, filter := [], filterLost := 0, kept := [], cmds := [], mark := 0,
    markWarned := false }

/-- A port with nothing to send. Left open: DESIGN CHOICE, assumption log 1. -/
def PortState.reset : PortState := { selected := false, mode3 := false, cur := none, out := [], err := 0 }

/-- R72: the host block. Left open: DESIGN CHOICE, assumption log 1. -/
def Hst.reset : Hst :=
  { deferred := [], ctx := Vector.replicate 8 Ctx.reset, ports := Vector.replicate 4 PortState.reset, claimLease := put 0 12 30,
    uartCfg := put 0 22 115200, baud := 115200, baudBy := none, spiCfg := 0, rrNext := 0 }

/-- R74, R77: block 1, with the START entry of kind 0 as number 1. Left open: DESIGN CHOICE, assumption log 1. -/
def Jrn.reset : Jrn :=
  { next := 2, blockEnd := 65537, nextBlock := none, reserving := false, exhausted := false, startSeq := 1, startKind := 0, head := 1,
    count := 1, nvHead := 1, nvCount := 1, dispatch := 0, held := [] }

/-- The five words of the START entry of a cold start with almanac number 1 at calendar 0 (R75). Left open: DESIGN CHOICE, assumption log 1. -/
def startWords : List Word := [1, 0, put 0 16 0xFFFF, flag 17 true ||| flag 18 true, 0]

/-- R429: every bank holds zero words, but for the START entry in the working ring. Left open: DESIGN CHOICE, assumption log 1. -/
def Mem.reset : Mem :=
  { cells := [(114688, encode47 1), (114690, encode47 (put 0 16 0xFFFF)), (114691, encode47 (flag 17 true ||| flag 18 true))]
    fill := 0, map := Vector.ofFn (fun i => i.val), retired := 0, storedRet := 0, storedMap := Vector.ofFn (fun i => i.val), tally := [],
    gleaning := false, gleanNext := 0, passes := 0, merge := [], checker := 0, flags := 0, cfg := put 0 17 3600, counts0 := 0, counts1 := 0,
    counts2 := 0, repairs := 0, lost := 0, cand := Vector.replicate 24 0, logCount := 0, logNext := 0, evTicks := [], suppressed := 0,
    critDiff := [], signs := Vector.replicate 8 0 }

/-- R466: the record that applies while the page is BLANK. -/
def blankReg : List Word :=
  [0, put 0 6 63 ||| put 6 7 100 ||| put 13 7 0 ||| put 20 7 100, 0, 0, 0, 0, 0, 0, 0, 0,
   put 0 1 1 ||| put 1 1 1 ||| put 2 9 413 ||| put 11 10 100]

/-- R457: a tally counter with some bits programmed. -/
def Tally.fresh (n : Nat) : Tally := { base := 0, gen := 0, bits := n, intent := none }

/-- R442, R449: a store whose pages are all BLANK, with the START entry in the write buffer; almanac block 1 and CTX_EPOCH 1 reserved.
Left open: DESIGN CHOICE, assumption log 1. -/
def Nvm.reset : Nvm :=
  { mounted := true
    work := { cells := startWords.mapIdx (fun i w => (65536 + i, some w)), written := [512] }
    sealed := { cells := [], written := [] }
    dirty := [512], oldest := some 0, commit := none, again := false, backlog := [], ticket := 1, sealedTo := 0, map := []
    pool := (List.range 416).map (1632 + ·)
    erasing := [], retired := [], seq := 0, shadows := []
    tallies := Vector.ofFn (fun i => Tally.fresh (if i = 0 ∨ i = 2 then 1 else 0))
    tallyOps := [], tallyNext := 0, flags := flag 7 true, cfg := put 0 11 1000, counts0 := 0, counts1 := 0, patrolNext := 0, patrolLast := 0
    patrolDue := 324000, patrolSum := { pages := 0, corrected := 0, refreshed := 0, retired := 0, lost := 0 }, powerDown := none
    pw := Vector.replicate 16 none, reg := blankReg, regWritten := false, regLf := blankReg.getD 1 0
    regUhf := List.replicate 8 0, regUwb := blankReg.getD 10 0 }

/-- R401, R415: PWR_WAKE_CFG where none is stored. -/
def wakeDefault : Word := put 0 11 0x5EF ||| put 13 2 1 ||| put 15 8 0xFE

/-- R414: the wake record of a cold start. Left open: DESIGN CHOICE, assumption log 1. -/
def WakeRec.cold : WakeRec :=
  { source := 0, timer := 0, left := 0, flags := 0, bankFail := 0, entryT := 0, exitUs := 0, stamp := 0, residency := BitVec.allOnes 40 }

/-- R415: RUN at profile RUN. Left open: DESIGN CHOICE, assumption log 1. -/
def Pwr.reset : Pwr :=
  { state := .run, start := none, entry := none, profile := 1, profNext := none, ramping := false, boost := false, vbkupOk := true,
    vsysOk := true, xoOk := true, xoFail := false, xo32 := false, flags := 0, wakeCfg := wakeDefault, wakeTmr := 0, rails := 0,
    res := Vector.replicate 4 0, wrap := Vector.replicate 4 0, wake := WakeRec.cold, visit := 0, forced := false, onBkup := false,
    entryT := 0, retain := 0, presentVisit := false }

/-- An input that has not been sampled. Left open: DESIGN CHOICE, assumption log 1. -/
def Debounce.reset : Debounce := { last := false, run := 0, level := none }

/-- R268: a tamper input that was never configured. Left open: DESIGN CHOICE, assumption log 1. -/
def Tamper.reset : Tamper := { enable := false, high := true, debounce := 10, input := Debounce.reset }

/-- The system block; the image slot is 0 and its version the one the device left production with. Left open: DESIGN CHOICE, assumption log 1. -/
def Sys.reset : Sys :=
  { faultBoot := false, gpioDir := 0, gpioOut := 0, gpioPull := 0, gpioExt := 0, vddio := true, debugLock := false,
    tamper := Vector.replicate 2 Tamper.reset, pos := Vector.replicate 2 Debounce.reset, sampled := none, later := [], latch := 0, fw := none,
    fwSlot := 0, fwVersion := Config.fwVersion.toNat, fwNext := none, restart := none }

/-- R371: the calendar is 0 and TIME_UNCERTAIN. Left open: DESIGN CHOICE, assumption log 1. -/
def Aon.reset : Aon :=
  { tick := 0, calendar := 0, calPhase := 0, trimAcc := 0, uncertain := true, lastAttest := 0, nonce := 0, nonceAt := none }

/-- A slot that has never been written. -/
def Slot.blank : Slot :=
  { usage := 0, size := 0, fchk := 0, cls := 0, persist := 0, st := .empty, gen := 0, key := [], kcv := 0 }

/-- R336: slot 0 at a context epoch: WRITTEN, with GENERATION 1. Its FCHK is DUPLICATE: the spec asks for a fault check and does not
say which. -/
def Slot.wrapping (epoch gen : Nat) : Slot :=
  { usage := 5, size := 1, fchk := 1, cls := 0, persist := 0, st := .written, gen := gen, key := slot0Key epoch, kcv := kcvOf (slot0Key epoch) }

/-- A cipher context that has never been used. -/
def CphCtx.reset : CphCtx :=
  { inUse := false, owner := 0, mode := 0, op := 0, width := 0, slot := 0, gen := 0, chain := [], part := [], count := 0, cgen := 0 }

/-- R344: the tract once its start-up tests have passed. Left open: DESIGN CHOICE, assumption log 1. -/
def Cph.reset : Cph :=
  { slots := (Vector.replicate 256 Slot.blank).set 0 (Slot.wrapping 1 1), pend := [], ctxs := Vector.replicate 64 CphCtx.reset, failed := 0,
    katModes := 0, katDone := true, faults := [], quarantine := none, drbg := .ready, entropyOk := true, restarts := 0, requests := 0,
    reseedAt := 0, flags := 0, counts0 := 0, counts1 := 0, counts2 := 0 }

/-- R358, R375: no master and no history. -/
def Ptp.reset : Ptp :=
  { master := none, announced := 0, newMaster := false, sync := none, syncSeq := 0, annSeq := 0, delaySeq := 0, delayReq := none,
    delayAt := none, pair := none, goodRun := 0, bigRun := 0, servo := 0 }

/-- A slot with nothing set. -/
def TrigSlot.blank : TrigSlot :=
  { armed := false, target := 0, pol := 0, sec := 0, ns := 0, period := 0, pulse := 0, nextNs := 0, late := false, fires := 0, missed := 0 }

/-- R252, R364: slot 15, the release-period trigger, at the cadence of 50 ms; its first point is one cadence after the clock's start. -/
def TrigSlot.cadence (ns periodNs : Nat) : TrigSlot :=
  { TrigSlot.blank with armed := true, target := 7, period := periodNs, nextNs := (ns + periodNs : Nat) }

/-- R376: NTC_NET_CFG where none is stored. -/
def netDefault : Word := flag 0 true ||| put 6 6 8 ||| put 12 8 32 ||| put 28 8 128

/-- R376: NTC_PTP_CFG where none is stored. -/
def ptpDefault : Word := put 21 8 128 ||| put 29 8 37

/-- R376: NTC_SERVO_CFG where none is stored. -/
def servoDefault : Word := flag 0 true ||| put 1 16 10 ||| put 17 12 200

/-- R375, R376: no link, the local clock at 0 and UNSET. Left open: DESIGN CHOICE, assumption log 1. -/
def Ntc.reset : Ntc :=
  { link := false, ns := 0, frac := 0, clock := .unset, coarse := false, stepCount := 0, ptp := Ptp.reset, offset := 0, freq := 0, slew := 0,
    latchSec := 0, flags := 0, netCfg := netDefault, ptpCfg := ptpDefault, servoCfg := servoDefault, asym := 0, calCfg := 0, capCfg := 0,
    counts0 := 0, counts1 := 0, trig := (Vector.replicate 16 TrigSlot.blank).set 15 (TrigSlot.cadence 0 50000000),
    pins := Vector.replicate 4 { level := false, pulse := none }, cap := Vector.replicate 2 [], capOver := Vector.replicate 2 false,
    restart := false, queue := [], onWire := none }

/-- R299, R307: the default program of a sequencer as an installed image. -/
def defaultImage (n : Fin 3) : Image :=
  let code := if n = 0 then ploughDefault else if n = 1 then rangingDefault else harvestDefault
  let entry1 := if n = 0 then 5 else 0
  { version := 0, signed := false, crc := crc32c (imageOctets (headWord0 n.val code.length 0) (headWord1 0 entry1) code),
    entry0 := 0, entry1 := entry1, code := code }

/-- A sequencer before its start: ON, its default program, nothing latched. Left open: DESIGN CHOICE, assumption log 1. -/
def Seq.reset (n : Fin 3) : Seq :=
  { unit := .on, source := 0, fallback := false, image := defaultImage n, next := none, ticket := none, regs := Vector.replicate 8 0,
    eq := false, lt := false, slt := false, pc := 0, stack := [], lines := 0, inRound := false, entered := 0, began := 0, stall := .none,
    ending := false, cause := 0, faultPc := 0, stopHalt := false, counts := 0, evt := 0, evtNext := none }

/-- R297, R304: every sequencer is ON with its default program. Left open: DESIGN CHOICE, assumption log 1. -/
def SeqBlock.reset : SeqBlock := { seqs := Vector.ofFn Seq.reset, signed := false, flags := 0, stage := none }

/-- R391: the values after a start other than a wake. -/
def Timer.reset : Timer := { count := 0, cmp := BitVec.allOnes 40, cfg := 0, run := false, phase := 0, late := false }

/-- R390: every start other than a wake from SLEEP or DEEP clears the timers. Left open: DESIGN CHOICE, assumption log 1. -/
def Tmr.reset : Tmr := { timers := Vector.replicate 32 Timer.reset, matched := 0, isOver := 0, late := 0 }

/-- R245: CRD_ZPOLn where none is stored: no class allowed. -/
def zpolDefault : Word := put 10 16 0xFFFF

/-- R244, R245: an empty roster, loaded; an exchange with the battery follows the first link (R235). Left open: DESIGN CHOICE, assumption log 1. -/
def Crd.reset : Crd :=
  { loaded := true, compacting := false, flags := 0, domain := 0, sealed := false, self := 0, cfg := put 0 6 8, fails := 0, level := 0,
    active := false, lockEnd := 0, nonce := 0, nonceLive := false, batCfg := flag 0 true ||| put 1 2 2, battery := none, batNumber := 0,
    batAuth := none, batFailed := false, batReason := 0, batRecord := [], batDefer := true, batAt := 0, tickets := [], serialHigh := 0,
    zones := [], mapCrc := 0, counts0 := 0, counts1 := 0, zpol := Vector.replicate 16 zpolDefault, index := [], fresh := [], latest := [],
    ctrLog := [], foldDay := 0, revoked := 0 }

/-- R133: LF_CHn_CFG after reset. -/
def coilDefault : Word := put 1 6 21 ||| put 7 7 64 ||| flag 14 true

/-- R104, R133: a coil of class UNKNOWN. -/
def Coil.reset : Coil :=
  { cfg := coilDefault, cls := 5, seen := 5, run := 0, clear := 0, phase := 0, ampl := 0, q := 0, trimNow := 64, diagAt := 0 }

/-- R120, R133: the polling unit is OFF. Left open: DESIGN CHOICE, assumption log 1. -/
def Lf.reset : Lf :=
  { unit := .off, base := 0, baseNext := 0, ride := false, origin := 0, stopCause := 0, roundNo := 0, flags := 0
    cfg := put 0 7 50 ||| put 7 8 21 ||| put 15 12 60 ||| put 27 6 4 ||| put 33 7 10
    pollCfg := put 0 16 1000 ||| put 16 16 250 ||| put 32 8 40
    wakeId := 0, plan0 := 0, plan1 := 0, idleSince := 0, duty := [], counts := 0, coils := Vector.replicate 12 Coil.reset, hot := 0,
    round := none, want := none, due := none, holdoff := none, changes := [], frame := [] }

/-- A capture that holds nothing. -/
def Capt.idle : Capt := { state := 0, kind := 0, lane := 0, trigger := 0, length := 0, samples := 0, data := [] }

/-- UWB_COEXn after reset (R205). -/
def Coex.reset : Coex :=
  { cfg := put 3 3 7 ||| put 6 10 250, next := none, req := false, pri := false, gnt := false, reqIn := false, priIn := false,
    given := false, blanked := false }

/-- R161, R168: the tract after a cold start, SYS_RESET or a firmware restart. Left open: DESIGN CHOICE, assumption log 1. -/
def Uhf.reset : Uhf :=
  { unit := .off, again := false, plan := none, planNext := none, flags := 0, roundCfg := put 0 5 10,
    calCfg := put 0 12 30 ||| put 12 6 10, calCount := 0, failRun := 0, calTemp := 0, calValid := false, calAt := 0, calDue := false,
    vigil := 0, vigilTemp := 0, counts0 := 0, counts1 := 0, counts2 := 0, late := [], collected := none, lateNext := 0,
    lanes := Vector.replicate 64 0, capt := Capt.idle, coex := Vector.replicate 2 Coex.reset }

/-- A closed session. -/
def Session.closed : Session :=
  { isOpen := false, id := 0, role := 0, method := 0, channel := 0, code := 0, psr := 0, rate := 0, stsCfg := 0, stsLen := 0, stsSlot := 0,
    macSlot := 0, v := 0, pan := 0, own := 0, peer := 0, slot := 0, interval := 0, window := 0, limit := 0, horizon := 0, qmin := 0,
    angle := false, test := false, round := 0, missed := 0, anchor := 0, closing := false }

/-- R203, R205: the tract after a cold start. Left open: DESIGN CHOICE, assumption log 1. -/
def Uwb.reset : Uwb :=
  { radio := 0, flags := 0, cfg := put 2 8 10 ||| put 10 12 30 ||| put 22 6 10 ||| flag 28 true, cfgNext := none, failed := 0, nextPair := 0,
    counts0 := 0, counts1 := 0, disabled := false, calValid := false, calAt := 0, calTemp := 0, calDue := false,
    cal := Vector.replicate 4 0, calNext := [], duty := [], sessions := Vector.replicate 8 Session.closed,
    recs := Vector.replicate 8 none, shown := Vector.replicate 8 none, round := none, cir := none }

/-- A receiver that was never configured. -/
def Receiver.reset : Receiver :=
  { unit := .off, mac := 0, configured := false, source := false, ticket := 0, next := 0, blockEnd := 0, nextBlock := none, reserving := false,
    level := 0, reason := 0, cap := 0, lastCap := none, keygen := 0, missed := 0, t0 := 0, c0 := 0, first := true, told := 0, denySince := 0,
    sent := [], reported := none }

/-- A driver that has never been driven. -/
def Driver.reset : Driver :=
  { running := false, waiting := false, byHost := false, dir := 0, maxMs := 0, ilim := 0, began := 0, peak := 0, now := 0, ended := none,
    lastDir := 0 }

/-- R279: the tract after a cold start. Left open: DESIGN CHOICE, assumption log 1. -/
def Hrv.reset : Hrv :=
  { rx := Vector.replicate 4 Receiver.reset
    policy0 := put 0 10 50 ||| flag 10 true ||| put 11 2 3 ||| put 13 6 12 ||| put 19 10 120
    policy1 := put 0 16 0xFFFF ||| put 16 16 450
    flags := 0, lock := false, wantB := false, moving := true, reason := 0, capNow := 0, counts0 := 0, counts1 := 0, speed := 0xFFFF,
    fact := none, drivers := Vector.replicate 2 Driver.reset, lastResult := 0, period := none, lateDue := false, periods := 0, lastAt := none,
    done := Vector.replicate 4 0 }

/-- The machine right after reset. Left open: DESIGN CHOICE, assumption log 1. -/
def State.reset : State :=
  { sys := Sys.reset, pwr := Pwr.reset, aon := Aon.reset, hst := Hst.reset, jrn := Jrn.reset, mem := Mem.reset, nvm := Nvm.reset,
    cph := { Cph.reset with requests := 1 }, ntc := Ntc.reset, seq := SeqBlock.reset, tmr := Tmr.reset, crd := Crd.reset, lf := { Lf.reset with roundNo := (Config.drbg 0).truncate 16 }, uhf := Uhf.reset,
    uwb := Uwb.reset, hrv := Hrv.reset, free := 1, pending := [] }

end Sys2Proof.Machine
end

