-- ==== Sys2Proof/Machine/Ops.lean ====
section
/-!
DEFINITION. The named operations every family of commands is written over: time, the store and its write buffer, working-memory
words and their code, tally counters, the almanac, events, the fault log, the completion of a command and its reply.
-/
namespace Sys2Proof.Machine

open Sys2Proof

/-! ## Time -/

/-- R26: the age of a tick stamp in always-on ticks, modulo the 40-bit wrap. -/
def State.age (s : State) (t : Word) : Nat := (s.aon.tick - t).toNat

/-- Always-on ticks in a number of seconds (R7). -/
def ticksOf (sec : Nat) : Nat := sec * 32768

/-- Always-on ticks that a number of milliseconds takes, rounded up. -/
def ticksMs (ms : Nat) : Nat := (ms * 32768 + 999) / 1000

/-! ## Contexts and ports -/

/-- Context `n`. -/
def State.ctx (s : State) (n : Fin 8) : Ctx := s.hst.ctx[n]

/-- `s` with context `n` replaced. -/
def State.setCtx (s : State) (n : Fin 8) (c : Ctx) : State :=
  { s with hst := { s.hst with ctx := s.hst.ctx.set n c } }

/-- `s` with context `n` changed by `f`. -/
def State.modCtx (s : State) (n : Fin 8) (f : Ctx → Ctx) : State := s.setCtx n (f (s.ctx n))

/-- R39: a port's code. -/
def portIx : Port → Fin 4
  | .spiA => 0
  | .spiB => 1
  | .uartC => 2
  | .net => 3

/-- The state of a port. -/
def State.port (s : State) (p : Port) : PortState := s.hst.ports[portIx p]

/-- `s` with a port's state changed by `f`. -/
def State.modPort (s : State) (p : Port) (f : PortState → PortState) : State :=
  { s with hst := { s.hst with ports := s.hst.ports.set (portIx p) (f (s.port p)) } }

/-- Adds one to a count of a port's error register: `lo` 0 for FRAME_ERR or CMAC_FAIL, 16 for TRUNC, COBS_ERR or SEQ_WINDOW (R72). -/
def State.portErr (s : State) (p : Port) (lo : Nat) : State :=
  s.modPort p (fun q => { q with err := bump q.err lo })

/-- R60: the commands dispatched and not complete. -/
def Cmd.inFlight (c : Cmd) : Bool := match c.phase with | .running _ => true | _ => false

/-- R60: a command not yet dispatched. -/
def Cmd.isWaiting (c : Cmd) : Bool := decide (c.phase = .waiting)

/-- R60, R72: the commands in flight in the whole device. -/
def State.flights (s : State) : Nat := (s.hst.ctx.toList.map (fun c => c.cmds.countP Cmd.inFlight)).sum

/-! ## Working-memory words (R416 to R420) -/

/-- R416, R433: the physical word address that serves a logical one. -/
def Mem.phys (m : Mem) (a : Nat) : Nat :=
  if a / 16384 < 16 then (m.map[a / 16384]?).getD (a / 16384) * 16384 + a % 16384 else a

/-- What an unlisted physical word holds: zero, or poison in a bank filled with poison (R429). Left open: DESIGN CHOICE, assumption log 6. -/
def Mem.fillAt (m : Mem) (pa : Nat) : BitVec 47 := if m.fill.getLsbD (pa / 16384) then poison47 else 0

/-- The stored bits at a logical address. Left open: DESIGN CHOICE, assumption log 6. -/
def Mem.stored (m : Mem) (a : Nat) : BitVec 47 := alGet (m.fillAt (m.phys a)) m.cells (m.phys a)

/-- Writes stored bits at a logical address. Left open: DESIGN CHOICE, assumption log 6. -/
def Mem.poke (m : Mem) (a : Nat) (b : BitVec 47) : Mem :=
  { m with cells := alPut (m.fillAt (m.phys a)) (m.phys a) b m.cells }

/-- R420: a whole-word write stores a valid word. -/
def Mem.write (m : Mem) (a : Nat) (w : Word) : Mem := m.poke a (encode47 w)

/-- Whole-word writes of words at consecutive addresses. -/
def Mem.writeRun (m : Mem) : Nat → List Word → Mem
  | _, [] => m
  | a, w :: ws => (m.write a w).writeRun (a + 1) ws

/-- The value a word would deliver, without the effects of a read; `none` for poison or an uncorrectable word. -/
def Mem.peek (m : Mem) (a : Nat) : Option Word :=
  match decode47 (m.stored a) with
  | .good w => some w
  | .corrected w => some w
  | .poison => none
  | .bad _ => none

/-- R424: a write of `n` critical words from word `w` writes all three copies of each as the valid code of its value. -/
def State.critWritten (s : State) (w n : Nat) : State :=
  { s with mem := { s.mem with critDiff := alCut (3 * w) (3 * n) s.mem.critDiff } }

/-- R416: the canonical form of the memory's list: addresses rise, none is beyond bank 23, and no entry equals what an unlisted word holds.
Left open: DESIGN CHOICE, assumption log 6. -/
def Mem.wf (m : Mem) : Bool :=
  keysRise m.cells && m.cells.all (fun kv => decide (kv.2 ≠ m.fillAt kv.1) && decide (kv.1 < 393216))

/-! ## The store and its write buffer (R442 to R453) -/

/-- R442: what an erased word reads as. -/
def erased : Word := BitVec.allOnes 40

/-- The word of a store content at a store address; `none` is poison (R448). -/
def Store.get (t : Store) (a : Nat) : Option Word := alGet (some erased) t.cells a

/-- R447: whether a logical page has been written. -/
def Store.has (t : Store) (page : Nat) : Bool := t.written.contains page

/-- Writes one word of a store content. -/
def Store.put (t : Store) (a : Nat) (w : Option Word) : Store :=
  { cells := alPut (some erased) a w t.cells, written := addNat (a / 128) t.written }

/-- Writes several words. -/
def Store.putAll (t : Store) (l : List (Nat × Option Word)) : Store := l.foldl (fun t kv => t.put kv.1 kv.2) t

/-- `t` with logical page `p` as `from_` has it (R446 step 4). -/
def Store.takePage (t from_ : Store) (p : Nat) : Store :=
  { cells := (alPart (p * 128) 128 from_.cells).foldl (fun l kv => alPut (some erased) kv.1 kv.2 l) (alCut (p * 128) 128 t.cells),
    written := if from_.has p then addNat p t.written else t.written.filter (· ≠ p) }

/-- `t` with logical page `p` BLANK. -/
def Store.blankPage (t : Store) (p : Nat) : Store :=
  { cells := alCut (p * 128) 128 t.cells, written := t.written.filter (· ≠ p) }

/-- The canonical form of a store content: addresses and written pages rise and lie in the store, and no entry is an erased word. -/
def Store.wf (t : Store) : Bool :=
  keysRise t.cells && t.cells.all (fun kv => decide (kv.2 ≠ some erased) && decide (kv.1 < 262144)) &&
  decide (t.written.Pairwise (· < ·)) && t.written.all (fun p => decide (p < 2048))

/-- R450, R451: the pages that occupy buffer entries: the dirty ones and those of a commit under way. -/
def Nvm.bufPages (n : Nvm) : List Nat :=
  match n.commit with
  | none => n.dirty
  | some c => n.dirty ++ c.pages.filter (fun p => !n.dirty.contains p)

/-- R450: the highest ticket whose write is in the buffer. -/
def Nvm.placedTo (n : Nvm) : Nat := match n.backlog with | [] => n.ticket | b :: _ => b.ticket - 1

/-- R451: a commit starts and takes the contents of each dirty page; while one runs, the next starts at its end. -/
def Nvm.startCommit (n : Nvm) : Nvm :=
  match n.commit with
  | some _ => { n with again := true }
  | none =>
    if n.dirty.isEmpty then n
    else { n with commit := some { pages := n.dirty, image := n.work, upTo := n.placedTo }, dirty := [], oldest := none, again := false }

/-- The pages a set of words needs in the buffer beside those it holds. Left open: DESIGN CHOICE, assumption log 11. -/
def Nvm.newPages (n : Nvm) (l : List (Nat × Option Word)) : List Nat :=
  (l.map (fun kv => kv.1 / 128)).eraseDups.filter (fun p => !n.bufPages.contains p)

/-- R450: puts words into the buffer without asking for room. Left open: DESIGN CHOICE, assumption log 11. -/
def Nvm.fillBuffer (n : Nvm) (now : Word) (l : List (Nat × Option Word)) : Nvm :=
  let ps := (l.map (fun kv => kv.1 / 128)).eraseDups
  { n with
    work := n.work.putAll l
    dirty := n.dirty ++ ps.filter (fun p => !n.dirty.contains p)
    oldest := match n.oldest with | some t => some t | none => some now }

/-- R450, R451: writes words through the write buffer. A write that needs a ninth page starts a commit and waits for it; the pages of one
roster command (R210) go in together, however many, once the buffer is empty.
The write's ticket is the new `ticket`. -/
def Nvm.bufWrite (n : Nvm) (now : Word) (l : List (Nat × Option Word)) : Nvm :=
  let n := { n with ticket := n.ticket + 1 }
  if n.backlog.isEmpty && (n.bufPages.isEmpty || n.bufPages.length + (n.newPages l).length ≤ 8) then n.fillBuffer now l
  else Nvm.startCommit { n with backlog := n.backlog ++ [{ ticket := n.ticket, cells := l }] }

/-- Writes good words at consecutive store addresses through the write buffer. Left open: DESIGN CHOICE, assumption log 11. -/
def State.storeWords (s : State) (a : Nat) (ws : List Word) : State :=
  { s with nvm := s.nvm.bufWrite s.aon.tick (ws.mapIdx (fun i w => (a + i, some w))) }

/-- R376, R415 and the other registers marked Stored: the store address that keeps a register's value. The layout of the parameter
pages is the model's (the spec gives none): register r is word r of the region. Left open: DESIGN CHOICE, assumption log 9. -/
def paramAddr (r : Nat) : Nat := 114688 + r

/-- Stores one word of a register that is kept in the parameter pages. Left open: DESIGN CHOICE, assumption log 9. -/
def State.storeReg (s : State) (r : Nat) (w : Word) : State := s.storeWords (paramAddr r) [w]

/-- The stored value of a register, or its default where none is stored or the word is lost. Left open: DESIGN CHOICE, assumption log 9. -/
def Nvm.storedReg (n : Nvm) (r : Nat) (d : Word) : Word :=
  match n.work.get (paramAddr r) with
  | some w => if w = erased then d else w
  | none => d

/-! ## Tally counters (R456 to R460) -/

/-- R457: the value of a counter. -/
def Tally.value (t : Tally) : Nat := t.base + t.bits

/-- Counter `c`'s value. -/
def Nvm.tally (n : Nvm) (c : Fin 32) : Nat := n.tallies[c].value

/-- R458: one increment, or a carry when all 512 bits are programmed; `jump` further bits read as programmed (R459). -/
def Tally.step (t : Tally) (jump : Nat) : Tally :=
  if t.bits < 512 then { t with bits := min 512 (t.bits + 1 + jump) }
  else { base := t.base + 513, gen := (t.gen + 1) % 65536, bits := 0, intent := none }

/-- R458: whether an increment would pass 0xFF_FFFF_FFFF, with the increments already waiting. -/
def Nvm.tallyFull (n : Nvm) (c : Fin 32) : Bool :=
  decide (2 ^ 40 - 1 ≤ n.tally c + n.tallyOps.countP (fun o => o.counter = c))

/-- R458: an increment gets under way: a carry programs its INTENT first. -/
def Tally.opened (t : Tally) : Tally := if t.bits < 512 then t else { t with intent := some (t.base + 513) }

/-- Starts an increment, behind those under way; its number is the old `tallyNext`. -/
def State.startTally (s : State) (c : Fin 32) (u : TallyUse) : State :=
  { s with nvm := { s.nvm with
      tallies := if s.nvm.tallyOps.isEmpty then s.nvm.tallies.set c s.nvm.tallies[c].opened else s.nvm.tallies
      tallyOps := s.nvm.tallyOps ++ [{ counter := c, use := u, number := s.nvm.tallyNext }]
      tallyNext := s.nvm.tallyNext + 1 } }

/-! ## Events (R67 to R70) -/

/-- R69: queues one event to a context; a full queue drops it and counts it. The event sequence number counts every event. -/
def Ctx.queueEvent (c : Ctx) (code : Nat) (stamp : Word) (data : Octets) : Ctx :=
  if c.events.length < 32 then
    { c with events := c.events ++ [{ code := code, seq := c.evSeq, stamp := stamp, data := data }], evSeq := c.evSeq + 1 }
  else { c with lost := satSucc c.lost 255, evSeq := c.evSeq + 1 }

/-- R51: the parameters of the packet of a context's event: stamp, lost count and data. -/
def Ctx.eventParams (c : Ctx) (e : Event) : Octets := wordOctets e.stamp ++ o8 c.lost ++ [0, 0] ++ e.data

/-- R67: whether a context takes an event of a code. EV_DEFERRED_DONE is sent to its own context only. -/
def Ctx.takes (c : Ctx) (code : Nat) : Bool := c.isOpen && c.mask.getLsbD code

/-- R67: queues an event to every open context whose mask enables it. -/
def State.queueAll (s : State) (code : Nat) (data : Octets) : State :=
  if s.sys.faultBoot then s
  else
    let f : Ctx → Ctx := fun c => if c.takes code then c.queueEvent code s.aon.calendar data else c
    { s with hst := { s.hst with ctx := s.hst.ctx.map f } }

/-! ## The almanac (R73 to R85) -/

/-- R75: the five words of an entry. -/
def Entry.words (e : Entry) : List Word :=
  [e.seq, e.stamp,
   put 0 16 e.opcode.toNat ||| put 16 16 e.hostSeq.toNat ||| put 32 3 e.ctx.toNat ||| put 35 3 e.role.toNat ||| put 38 2 e.port.toNat,
   put 0 16 e.status.toNat ||| flag 16 e.pending ||| flag 17 e.security ||| flag 18 e.internal ||| flag 19 e.deferred
     ||| flag 20 e.retry ||| flag 21 e.discarded ||| put 24 16 e.dispatch.toNat,
   put 0 32 e.crc.toNat]

/-- An entry with number 0: no entry. -/
def Entry.none : Entry :=
  { seq := 0, stamp := 0, opcode := 0, hostSeq := 0, ctx := 0, role := 0, port := 0, status := 0, pending := false,
    security := false, internal := false, deferred := false, retry := false, discarded := false, dispatch := 0, crc := 0 }

/-- R80, R416: the logical address of a slot of the working ring. -/
def ringAddr (slot : Nat) : Nat := 7 * 16384 + 5 * slot

/-- R443: the store address of a slot of the non-volatile ring. -/
def nvRingAddr (slot : Nat) : Nat := 512 * 128 + 5 * slot

/-- The slot of the working ring that holds its i-th oldest entry. -/
def Jrn.slotOf (j : Jrn) (i : Nat) : Nat := (j.head + 2048 - j.count + i) % 2048

/-- The number of the i-th oldest entry of the working ring, where its word is good. -/
def State.ringSeq (s : State) (i : Nat) : Option Word := s.mem.peek (ringAddr (s.jrn.slotOf i))

/-- The oldest number in the working ring; 0 when it is empty (R92). -/
def State.oldestWm (s : State) : Word := if s.jrn.count = 0 then 0 else (s.ringSeq 0).getD 0

/-- R92: the newest number; 0 when the ring is empty. -/
def State.newest (s : State) : Word := if s.jrn.count = 0 then 0 else BitVec.ofNat 40 (s.jrn.next - 1)

/-- R85: how many further entries may be written before the marked entry is overwritten; `none` when it is overwritten. -/
def State.markRoom (s : State) (m : Word) : Option Nat :=
  let seqs := (List.range s.jrn.count).map (fun i => (s.ringSeq i).getD 0)
  if m < s.oldestWm then none
  else some (2048 - s.jrn.count + seqs.countP (fun q => decide (q ≤ m)))

/-- R85: the event data of EV_JOURNAL_WRAP. -/
def State.wrapData (s : State) (m : Word) (kind : Nat) : Octets :=
  wordOctets m ++ wordOctets s.oldestWm ++ wordOctets s.newest ++ o8 kind

/-- R85: the mark of one context is judged. -/
def State.checkMark (s : State) (n : Fin 8) : State :=
  let c := s.ctx n
  if c.mark = 0 then s
  else match s.markRoom c.mark with
    | none => (s.modCtx n (fun c => { c with mark := 0, markWarned := false })).queueAll 11 (s.wrapData c.mark 1)
    | some k =>
      if k ≤ 256 && !c.markWarned then
        (s.modCtx n (fun c => { c with markWarned := true })).queueAll 11 (s.wrapData c.mark 0)
      else s

/-- The eight contexts. -/
def allCtx : List (Fin 8) := [0, 1, 2, 3, 4, 5, 6, 7]

/-- R85: every mark is judged after an entry is written. -/
def State.checkMarks (s : State) : State := allCtx.foldl (fun s n => s.checkMark n) s

/-- R80: copies an entry to the non-volatile ring through the write buffer, at slot `k`. -/
def State.nvPut (s : State) (k : Nat) (e : Entry) : State := s.storeWords (nvRingAddr k) e.words

/-- R80: takes the next slot of the non-volatile ring for an entry. -/
def State.nvCopy (s : State) (e : Entry) : State :=
  let s := s.nvPut s.jrn.nvHead e
  { s with jrn := { s.jrn with nvHead := (s.jrn.nvHead + 1) % 8192, nvCount := satSucc s.jrn.nvCount 8192 } }

/-- R80: writes an entry, whose number is already set, into the next slot of the working ring, and judges the marks. -/
def State.ringPut (s : State) (e : Entry) : State :=
  let s := { s with
    mem := s.mem.writeRun (ringAddr s.jrn.head) e.words
    jrn := { s.jrn with head := (s.jrn.head + 1) % 2048, count := satSucc s.jrn.count 2048 } }
  s.checkMarks

/-- R77: fewer than 4,096 numbers remain and no reservation is under way or in hand: reserve the next block, unless R548 forbids it. -/
def State.reserve (s : State) : State :=
  if s.jrn.blockEnd - s.jrn.next < 4096 && !s.jrn.reserving && s.jrn.nextBlock.isNone
      && !s.nvm.tallyFull 0 && s.nvm.tally 0 + 1 < 2 ^ 24 then
    { s.startTally 0 .block with jrn := { s.jrn with reserving := true } }
  else s

/-- R74: writes an INTERNAL entry with the next number. -/
def State.putInternal (s : State) (opcode hostSeq : BitVec 16) (crc : BitVec 32) (stamp : Word) : State :=
  let e : Entry :=
    { Entry.none with
      seq := BitVec.ofNat 40 s.jrn.next, stamp := stamp, opcode := opcode, hostSeq := hostSeq, crc := crc,
      internal := true, security := true }
  let s := { s with jrn := { s.jrn with next := s.jrn.next + 1 } }
  ((s.ringPut e).nvCopy e).reserve

/-- R77, R548: makes a number available where the current block is used up: moves to the reserved block, writing a BLOCK_JUMP entry
where it is not the one after, or finds the almanac exhausted. -/
def State.openBlock (s : State) : State :=
  if s.jrn.next < s.jrn.blockEnd then s
  else match s.jrn.nextBlock with
    | some b =>
      let old := (s.jrn.blockEnd - 1) / 65536
      let new := (b - 1) / 65536 + 1
      let s := { s with jrn := { s.jrn with next := b, blockEnd := b + 65536, nextBlock := none } }
      if new = old + 1 then s
      else s.putInternal 0xFFFE (BitVec.ofNat 16 (min (new - old - 1) 0xFFFF)) (crc32c []) s.aon.calendar
    | none =>
      if s.jrn.reserving then s
      else if s.nvm.tallyFull 0 || 2 ^ 24 ≤ s.nvm.tally 0 + 1 then { s with jrn := { s.jrn with exhausted := true } }
      else s.reserve

/-- R77: whether a number can be taken now. -/
def Jrn.ready (j : Jrn) : Bool := decide (j.next < j.blockEnd)

/-- R74: an INTERNAL entry: nothing in the fault boot state or once the almanac is exhausted; held while no number is available. -/
def State.internal (s : State) (opcode hostSeq : BitVec 16) (crc : BitVec 32) : State :=
  if s.sys.faultBoot then s
  else
    let s := s.openBlock
    if s.jrn.exhausted then s
    else if s.jrn.ready then s.putInternal opcode hostSeq crc s.aon.calendar
    else { s with jrn := { s.jrn with held := s.jrn.held ++ [.internal opcode hostSeq crc s.aon.calendar] } }

/-- R74: the events that also make an INTERNAL entry. -/
def journaledEvent (code : Nat) : Bool := [3, 4, 5, 6, 7].contains code

/-- Raises an event: an INTERNAL entry where R74 asks for one, whether or not any context has the event enabled, and the queues. -/
def State.raise (s : State) (code : Nat) (data : Octets) : State :=
  let s := if journaledEvent code then s.internal (BitVec.ofNat 16 code) 0 (crc32c data) else s
  s.queueAll code data

/-! ## The fault log (R437, R438) -/

/-- R438: the kinds that raise EV_MEM_FAULT. -/
def faultRaises (kind : Nat) : Bool := (2 ≤ kind && kind ≤ 6) || (8 ≤ kind && kind ≤ 13)

/-- R438: EV_MEM_FAULT, at most 16 in a second of always-on ticks; the rest are counted. -/
def State.raiseFault (s : State) (kind source addr syn : Nat) : State :=
  let recent := s.mem.evTicks.filter (fun t => decide (s.age t < 32768))
  if recent.length < 16 then
    let data := o8 kind ++ o8 source ++ leOf 5 addr ++ o8 syn ++ o8 s.mem.suppressed ++ [0, 0, 0]
    let s := { s with mem := { s.mem with evTicks := recent ++ [s.aon.tick], suppressed := 0 } }
    s.raise 6 data
  else { s with mem := { s.mem with evTicks := recent, suppressed := satSucc s.mem.suppressed 255, flags := raiseFlag s.mem.flags 9 } }

/-- R437: writes a fault-log entry through the write buffer, and raises its event where R438 asks for one. -/
def State.logFault (s : State) (kind source addr syn : Nat) : State :=
  let w0 := put 0 19 addr ||| put 19 4 kind ||| put 23 3 source ||| put 26 7 syn
  let s := s.storeWords (832 * 128 + 2 * s.mem.logNext) [w0, s.aon.calendar]
  let s := { s with mem := { s.mem with logNext := (s.mem.logNext + 1) % 4096, logCount := satSucc s.mem.logCount 4096 } }
  if faultRaises kind then s.raiseFault kind source addr syn else s

/-! ## Reading working memory (R420, R421, R432) -/

/-- R432: the entry of the correction tally to give up when it is full: the lowest count that is not a candidate, the oldest among
equals; the oldest candidate where all are. The list runs from the oldest entry. -/
def tallyVictim (l : List TallyEnt) : Nat :=
  let soft := l.filter (fun e => !e.hard)
  match soft with
  | [] => (l.head?.map (·.addr)).getD 0
  | e :: es => (es.foldl (fun b x => if x.count < b.count then x else b) e).addr

/-- R432: the tally with room for one more address. -/
def tallyRoom (l : List TallyEnt) : List TallyEnt :=
  if l.length < 32 then l else l.eraseP (fun e => e.addr = tallyVictim l)

/-- R432: a CORRECTED outcome at an address is counted; `demand` says it was not a read of the gleaner or of MEM_SCRUB. -/
def State.countCorrection (s : State) (src a : Nat) (w : Word) (demand : Bool) : State :=
  let old := (s.mem.tally.find? (fun e => e.addr = a)).getD { addr := a, count := 0, stamp := none, hard := false }
  let within := match old.stamp with
    | some t => decide (s.age t < 2831155200)
    | none => false
  let back := !demand || decide (3 ≤ old.count + 1)
  let hardNew := within && !old.hard
  let e := { old with count := old.count + 1, stamp := if back then some s.aon.tick else old.stamp, hard := old.hard || within }
  let rest := s.mem.tally.filter (fun e => e.addr ≠ a)
  let tally := if s.mem.tally.any (fun x => x.addr = a) then s.mem.tally.map (fun x => if x.addr = a then e else x)
               else tallyRoom rest ++ [e]
  let m := if back then s.mem.write a w else s.mem
  let s := { s with mem := { m with
      tally := tally
      flags := raiseFlag m.flags 0
      counts0 := bump m.counts0 (if demand then 0 else 16) } }
  let s := if back then s.logFault 1 src a 0 else s
  if hardNew then
    let bank := a / 16384
    let s := { s with mem := { s.mem with
        flags := raiseFlag s.mem.flags 2
        cand := s.mem.cand.mapIdx (fun i k => if i = bank then satSucc k 7 else k) } }
    s.logFault 3 src a 0
  else s

/-- R420: an uncorrectable word is rewritten as poison, counted, logged and reported. -/
def State.poisonWord (s : State) (kind src a syn : Nat) : State :=
  let s := { s with mem := { (s.mem.poke a poison47) with
      flags := raiseFlag s.mem.flags 1, counts1 := bump s.mem.counts1 0 } }
  s.logFault kind src a syn

/-- R420: a read of one working-memory word by a consumer: `src` is SOURCE of R437, `demand` false for the gleaner and MEM_SCRUB.
The value is `none` where the consumer receives POISONED. -/
def State.readWord (s : State) (src a : Nat) (demand : Bool := true) : State × Option Word :=
  match decode47 (s.mem.stored a) with
  | .good w => (s, some w)
  | .corrected w => (s.countCorrection src a w demand, some w)
  | .bad y => (s.poisonWord 2 src a y, none)
  | .poison => ({ s with mem := { s.mem with counts1 := bump s.mem.counts1 16 } }, none)

/-- Reads `n` words from an address, in order. -/
def State.readWords (s : State) (src : Nat) : Nat → Nat → State × List (Option Word)
  | _, 0 => (s, [])
  | a, n + 1 =>
    let (s, w) := s.readWord src a
    let (s, ws) := s.readWords src (a + 1) n
    (s, w :: ws)

/-! ## Free values -/

/-- Takes the next draw number. Left open: DESIGN CHOICE, assumption log 2. -/
def State.draw (s : State) : State := { s with free := s.free + 1 }

/-! ## Key slots in use (R311, R319, R328) -/

/-- Key slot `n`. -/
def State.slot (s : State) (n : Nat) : Slot :=
  (s.cph.slots[n]?).getD Slot.blank

/-- R316: whether the cipher tract is in quarantine. -/
def State.quarantined (s : State) : Bool := s.cph.quarantine.isSome

/-- What latching a slot gives an internal user (R311, R328). -/
inductive Latch where
  | key (k : Octets)
  | empty | erased | quarantine | fault
  deriving DecidableEq, Repr

/-- R184, R218: a slot is rewritten, or erased, while a round that latched it runs: the round notes it. -/
def State.noteKey (s : State) (n : Nat) (erasure : Bool) : State :=
  let lf : Option PloughRound := s.lf.round.map (fun r =>
    if n = 8 then { r with stale := r.stale || !erasure, erased := r.erased || erasure } else r)
  let uwb : Option RangeRound := s.uwb.round.map (fun r =>
    let x := s.uwb.sessions[r.session]
    if x.stsSlot = n || x.macSlot = n then { r with stale := r.stale || !erasure, erased := r.erased || erasure } else r)
  { s with lf := { s.lf with round := lf }, uwb := { s.uwb with round := uwb } }

/-- R344: some engine passed its known-answer tests. -/
def State.enginesUp (s : State) : Bool := decide (s.cph.failed ≠ BitVec.allOnes 16)

/-- R311: an operation latches its key: the slot's state, quarantine, and the check value are judged. Left open: DEDUCED, assumption log 39. -/
def State.latch (s : State) (n : Nat) : Latch :=
  let k := s.slot n
  match k.st with
  | .empty => .empty
  | .erased => .erased
  | .lost => .erased
  | .written =>
    if s.quarantined then .quarantine
    else if !s.enginesUp || kcvOf k.key ≠ k.kcv then .fault
    else .key k.key

/-- R316: one fault is counted and stamped; the fourth within 32,768 ticks of the first of the last four starts quarantine.
Left open: DEDUCED, assumption log 39. -/
def State.cipherFault (s : State) : State :=
  let recent := s.cph.faults ++ [s.aon.tick]
  let recent := recent.drop (recent.length - 4)
  let s := { s with cph := { s.cph with flags := raiseFlag s.cph.flags 0, counts0 := bump s.cph.counts0 0, faults := recent } }
  if recent.length = 4 && decide (s.age (recent.headD 0) < 32768) then
    let c : Cph :=
      { s.cph with
        faults := [], quarantine := some s.aon.tick, flags := raiseFlag s.cph.flags 1, counts0 := bump s.cph.counts0 16 }
    { s with cph := c }
  else s

/-- The state after an operation that latched a slot: a failed check value is a fault (R311). -/
def State.afterLatch (s : State) (n : Nat) : State :=
  match s.latch n with
  | .fault => s.cipherFault
  | _ => s

/-- The status that a failed latch gives a host command (R315, R317, R328). -/
def Latch.status : Latch → Status
  | .key _ => .ok
  | .empty => .keyEmpty
  | .erased => .keyErased
  | .quarantine => .cipherQuarantine
  | .fault => .faultDetected

/-! ## Random numbers (R340 to R343) -/

/-- Why no number can be drawn: the DRBG is not ready or failed its known-answer test, or the tract is in quarantine (R317, R343, R344).
Left open: DESIGN CHOICE, assumption log 13. -/
def State.drbgBlocked (s : State) : Option Status :=
  match s.cph.drbg with
  | .error => some .selfTestFail
  | .none => some .selfTestFail
  | _ =>
    if s.cph.katModes.getLsbD 3 then some .selfTestFail
    else if s.quarantined then some .cipherQuarantine
    else none

/-- The next 64 bits the DRBG would give. -/
def State.random (s : State) : BitVec 64 := Config.drbg s.free

/-- R341: a generate request: the draw is used up and the request counted; 65,536 requests without a completed reseed put the DRBG in ERROR. -/
def State.useRandom (s : State) : State :=
  let k := s.cph.requests + 1
  { s with free := s.free + 1, cph := { s.cph with
      requests := min k 65536
      drbg := if 65536 ≤ k then .error else s.cph.drbg } }

/-! ## Replies (R49 to R53, R546) -/

/-- R49: the 12 header octets of a packet. -/
def headerOctets (verType ctx seq code flags len : Nat) : Octets :=
  o8 verType ++ o8 ctx ++ o16 seq ++ o16 code ++ o8 flags ++ o16 len ++ [0, 0, 0]

/-- R45, R344, R546: whether a CMAC can be computed under a slot: it is WRITTEN with usage MAC, and the mode passed its known-answer test.
Left open: DESIGN CHOICE, assumption log 13. -/
def State.canSign (s : State) (key : Nat) : Bool :=
  decide ((s.slot key).st = .written) && decide ((s.slot key).usage = 3) && !s.cph.katModes.getLsbD 0

/-- The octets of a packet with its trailer, on a port: CRC-32C after the parameters, and on the network port the CMAC before it. -/
def State.packetOctets (s : State) (port : Port) (key : Nat) (p : Packet) (more : Bool) : Octets :=
  let vt := match p.kind with | .reply => 0x11 | .event => 0x12
  let fl := (if more then 2 else 0) + (if p.trunc then 4 else 0)
  let body := headerOctets vt (p.ctx.val + 8 * p.high.toNat) p.seq.toNat p.code.toNat fl p.params.length ++ p.params
  match port with
  | .net =>
    let mac := leOf 8 (cmac64 (s.slot key).key body).toNat
    body ++ mac ++ leOf 4 (crc32c (body ++ mac)).toNat
  | _ => 0xA7 :: (body ++ leOf 4 (crc32c body).toNat)

/-- R49: MORE of a reply that is protected now: another reply of the context is ready, or an event of it waits to be sent. -/
def Ctx.hasMore (c : Ctx) : Bool := 1 < c.cmds.countP (fun x => x.phase = .done) || (c.push && !c.events.isEmpty)

/-- Puts a reply at its port: on SPI and UART-C in the port's queue; on the network port as a frame, protected under `key` (R45, R351). -/
def State.sendReply (s : State) (port : Port) (dst : BitVec 48) (key : Nat) (p : Packet) : State :=
  match port with
  | .net =>
    { s with ntc := { s.ntc with queue := s.ntc.queue ++
        [{ kind := .reply p.ctx p.seq p.frees, dst := dst, ether := 0x88B5, payload := s.packetOctets .net key p (s.ctx p.ctx).hasMore }] } }
  | q => s.modPort q (fun t => { t with out := t.out ++ [p] })

/-- R50: a reply's parameters. -/
def replyParams (st : Nat) (jseq : Word) (data : Octets) : Octets := o16 st ++ wordOctets jseq ++ data

/-- The position of a pending command of a context by its host sequence. -/
def Ctx.cmd? (c : Ctx) (seq : BitVec 16) : Option Cmd := c.cmds.find? (fun x => x.seq = seq)

/-- Changes the pending command with a host sequence. -/
def Ctx.modCmd (c : Ctx) (seq : BitVec 16) (f : Cmd → Cmd) : Ctx :=
  { c with cmds := c.cmds.map (fun x => if x.seq = seq then f x else x) }

/-- R76: rewrites word 3 of an entry in the working ring, where the entry still stands there. -/
def State.ringUpdate (s : State) (slot : Nat) (e : Entry) : State :=
  if s.mem.peek (ringAddr slot) = some e.seq then
    { s with mem := s.mem.write (ringAddr slot + 3) (e.words.getD 3 0) }
  else s

/-- R80: whether a slot of the non-volatile ring holds an entry as it stands. -/
def State.nvHolds (s : State) (k : Nat) (e : Entry) : Bool :=
  decide ((List.range 5).map (fun i => s.nvm.work.get (nvRingAddr k + i)) = e.words.map some)

/-- R80, R82: the security copy of a command's entry: a new slot of the non-volatile ring, or the slot its entry already has. -/
def State.secure (s : State) (n : Fin 8) (c : Cmd) (e : Entry) : State :=
  match c.nvAt with
  | some k => if s.nvHolds k e then s else s.nvPut k e
  | none =>
    let k := s.jrn.nvHead
    (s.nvCopy e).modCtx n (fun x => x.modCmd c.seq (fun y => { y with nvAt := some k }))

/-- R76, R81: the entry of a completed command. -/
def Entry.complete (e : Entry) (st : Status) (discarded : Bool) : Entry :=
  { e with status := BitVec.ofNat 16 st.code, pending := false, deferred := decide (st = .okDeferred),
           security := e.security || decide (st = .authFail), discarded := e.discarded || discarded }

/-- R76: the almanac side of a completion. -/
def State.journalDone (s : State) (n : Fin 8) (c : Cmd) (st : Status) (discarded : Bool) : State :=
  if c.entry.seq = 0 then s
  else
    let e := c.entry.complete st discarded
    let s := s.ringUpdate c.slot e
    if e.security then s.secure n c e else s

/-- R86: the filter's status of a command. -/
def Ctx.noteStatus (c : Ctx) (seq : BitVec 16) (st : Status) : Ctx :=
  { c with filter := c.filter.map (fun x => if x.seq = seq then { x with status := BitVec.ofNat 16 st.code } else x) }

/-- A dispatched command completes: its entry, its place in the duplicate filter, and its reply, which waits its turn (R62, R76). -/
def State.finish (s : State) (n : Fin 8) (seq : BitVec 16) (st : Status) (data : Octets) : State :=
  match (s.ctx n).cmd? seq with
  | none => s
  | some c =>
    let s := s.journalDone n c st c.dropped
    s.modCtx n (fun x =>
      (x.noteStatus seq st).modCmd seq (fun y => { y with phase := .done, status := st, data := data, entry := y.entry.complete st y.dropped }))

/-- R44: the UART rate that a command set takes effect once its reply has gone. -/
def Hst.rateAfter (h : Hst) (n : Fin 8) (seq : BitVec 16) : Hst :=
  if h.baudBy = some (n, seq) then { h with baud := fld h.uartCfg 0 22, baudBy := none } else h

/-- R60: a command stops being pending. -/
def State.unpend (s : State) (n : Fin 8) (seq : BitVec 16) : State :=
  State.modCtx { s with hst := s.hst.rateAfter n seq } n (fun x => { x with cmds := x.cmds.filter (fun y => y.seq ≠ seq) })

/-- R58, R59, R546: a completed command's reply is discarded: REPLY_DISCARDED, and the command stops being pending. -/
def State.discardReply (s : State) (n : Fin 8) (c : Cmd) : State :=
  (s.journalDone n c c.status true).unpend n c.seq

/-- The reply packet of a completed command. -/
def Cmd.packet (n : Fin 8) (c : Cmd) : Packet :=
  { kind := .reply, ctx := n, high := 0, seq := c.seq, code := BitVec.ofNat 16 c.op.code, trunc := false,
    params := replyParams c.status.code c.entry.seq c.data, frees := true }

/-- R62: the first command of a context whose reply is not at the port yet, if it is complete. -/
def Ctx.ready? (c : Ctx) : Option Cmd :=
  match c.cmds.find? (fun x => decide (x.phase ≠ .sent)) with
  | some x => if x.phase = .done then some x else none
  | none => none

/-- R53: a command whose reply has gone to its port; its result is among the 4 most recent replies. -/
def Ctx.markSent (x : Ctx) (c : Cmd) : Ctx :=
  let x := x.modCmd c.seq (fun y => { y with phase := .sent })
  let k : Kept := { seq := c.seq, status := c.status, data := c.data }
  { x with kept := (x.kept ++ [k]).drop (x.kept.length - 3) }

/-- R53, R62, R546: hands the replies of a context to its port in order of acceptance; `fuel` bounds how many. -/
def State.release (s : State) (n : Fin 8) : Nat → State
  | 0 => s
  | fuel + 1 =>
    match (s.ctx n).ready? with
    | none => s
    | some c =>
      if c.dropped then (s.unpend n c.seq).release n fuel
      else match c.port with
        | .net =>
          if s.quarantined then s
          else if s.canSign c.key.toNat then
            let s := s.sendReply .net c.dst c.key.toNat (c.packet n)
            (s.modCtx n (fun x => x.markSent c)).release n fuel
          else (s.discardReply n c).release n fuel
        | q =>
          let s := s.sendReply q c.dst c.key.toNat (c.packet n)
          (s.modCtx n (fun x => x.markSent c)).release n fuel

/-- Every context hands over the replies that are ready. Left open: DESIGN CHOICE, assumption log 4. -/
def State.releaseAll (s : State) : State := allCtx.foldl (fun s n => s.release n (s.ctx n).cmds.length) s

/-- Completes every command in flight that a test names, with the status and result the function gives. -/
def State.finishWhere (s : State) (t : Cmd → Bool) (r : Cmd → Status × Octets) : State :=
  allCtx.foldl (fun s n =>
    ((s.ctx n).cmds.filter (fun c => c.inFlight && t c)).foldl (fun s c => s.finish n c.seq (r c).1 (r c).2) s) s

/-- The wait of a command in flight. -/
def Cmd.wait? (c : Cmd) : Option Wait := match c.phase with | .running w => some w | _ => none

/-- Completes every command in flight with a given wait. -/
def State.finishWait (s : State) (w : Wait) (st : Status) (data : Octets) : State :=
  s.finishWhere (fun c => decide (c.wait? = some w)) (fun _ => (st, data))

end Sys2Proof.Machine
end

