-- ==== Sys2Proof/Machine/Nvm.lean ====
section
/-!
DEFINITION. The non-volatile store: the end of a commit, erases, the patrol, passwords, the regulatory record, and the bodies of the
NVM_ commands (spec/15_nvm.md, R496).
-/
namespace Sys2Proof.Machine

open Sys2Proof

/-- What the body of a command comes to: a reply now, or a wait. -/
inductive Done where
  | reply (st : Status) (data : Octets)
  | await (w : Wait)
  deriving DecidableEq, Repr

/-- A reply of OK with result data. -/
def okData (s : State) (d : Octets) : State × Done := (s, .reply .ok d)

/-- A reply of OK without result data. -/
def okDone (s : State) : State × Done := (s, .reply .ok [])

/-- A status without result data, with nothing else changed. -/
def refuse (s : State) (st : Status) : State × Done := (s, .reply st [])

/-- R451: waits for the seal of every write so far, and then replies OK with `d`. The commit is started by the arbiter, after the
command's security entry has joined the same buffer (R82). -/
def sealThen (s : State) (d : Octets) : State × Done := (s, .await (.seal s.nvm.ticket .ok d))

/-! ## Pages, pool and retirement (R444, R446, R464) -/

/-- R443: the physical page of a logical page. -/
def Nvm.physOf (n : Nvm) (p : Nat) : Nat := ((n.map.find? (fun kv => kv.1 = p)).map (·.2)).getD p

/-- The logical page a physical page holds, if any. -/
def Nvm.logicalOf (n : Nvm) (ph : Nat) : Option Nat :=
  match n.map.find? (fun kv => kv.2 = ph) with
  | some kv => some kv.1
  | none => if ph < 1632 && (n.map.find? (fun kv => kv.1 = ph)).isNone then some ph else none

/-- R444, R468: the pages of the spare pool, erased or waiting for their erase. -/
def Nvm.poolFree (n : Nvm) : Nat := n.pool.length + n.erasing.length

/-- R465: the event data of EV_NVM_PATROL, from its offset 8. -/
def State.patrolData (s : State) (kind page : Nat) (g : PatrolSum) : Octets :=
  o8 kind ++ [0] ++ o16 g.pages ++ leOf 3 g.corrected ++ o16 g.refreshed ++ o16 g.retired ++ o16 g.lost
    ++ o16 s.nvm.poolFree ++ o16 page

/-- R464: the pool has shrunk: POOL_LOW and its event at 64 free pages, WORN at 16. -/
def State.poolCheck (s : State) (before : Nat) : State :=
  let f := s.nvm.poolFree
  let s := if 64 < before && f ≤ 64 then
      let s := { s with nvm := { s.nvm with flags := raiseFlag s.nvm.flags 3 } }
      s.raise 10 (s.patrolData 3 0 s.nvm.patrolSum)
    else s
  if f ≤ 16 then { s with nvm := { s.nvm with flags := raiseFlag s.nvm.flags 4 } } else s

/-- R464: the store address of the word of the retired-page list that names a physical page (layout: the model's).
Left open: DESIGN CHOICE, assumption log 9. -/
def retiredAddr (ph : Nat) : Nat := 926 * 128 + ph / 40

/-- R464: a physical page is retired: it joins the list in the parameter pages, and its event names the logical page. -/
def State.retirePage (s : State) (ph logical : Nat) : State :=
  let s := { s with nvm := { s.nvm with
      retired := addNat ph s.nvm.retired
      flags := raiseFlag s.nvm.flags 2
      patrolSum := { s.nvm.patrolSum with retired := s.nvm.patrolSum.retired + 1 } } }
  let old := match s.nvm.work.get (retiredAddr ph) with | some w => if w = erased then 0 else w | none => 0
  let s := s.storeWords (retiredAddr ph) [raiseFlag old (ph % 40)]
  s.raise 10 (s.patrolData 1 logical s.nvm.patrolSum)

/-- R446: takes a pool page for a logical page after `fails` failed programs, each retiring its page; `none` when the write cannot be
placed: three attempts have failed, or the pool has no page. -/
def State.takePool (s : State) (p fails : Nat) : State × Option Nat :=
  let before := s.nvm.poolFree
  let bad := s.nvm.pool.take (min fails 3)
  let rest := s.nvm.pool.drop (min fails 3)
  let s := bad.foldl (fun s ph => s.retirePage ph p) { s with nvm := { s.nvm with pool := rest } }
  if 3 ≤ fails then (s.poolCheck before, none)
  else match s.nvm.pool with
    | [] => (s.poolCheck before, none)
    | ph :: r => (State.poolCheck { s with nvm := { s.nvm with pool := r } } before, some ph)

/-- R446: a logical page moves to a physical page, and its old one is released for erasure. -/
def Nvm.remap (n : Nvm) (p ph : Nat) : Nvm :=
  { n with map := n.map.filter (fun kv => kv.1 ≠ p) ++ [(p, ph)], erasing := n.erasing ++ [n.physOf p], seq := n.seq + 1 }

/-- R446, R453: one page of a commit is programmed, sealed and verified; its failure leaves it dirty, and is logged.
Left open: DESIGN CHOICE, assumption log 11. -/
def State.sealPage (s : State) (image : Store) (p fails : Nat) : State × Bool :=
  match s.takePool p fails with
  | (s, some ph) =>
    ({ s with nvm := { s.nvm.remap p ph with sealed := s.nvm.sealed.takePage image p } }, true)
  | (s, none) =>
    let s := { s with nvm := { s.nvm with
        dirty := if s.nvm.dirty.contains p then s.nvm.dirty else s.nvm.dirty ++ [p]
        flags := raiseFlag s.nvm.flags 0 } }
    (s.logFault 13 3 (p * 128) 0, false)

/-- R452: the pages of a commit in the order they are sealed: those of the almanac region last. -/
def sealOrder (ps : List Nat) : List Nat :=
  ps.filter (fun p => !(512 ≤ p && p ≤ 831)) ++ ps.filter (fun p => 512 ≤ p && p ≤ 831)

/-- Seals the pages of a commit; answers whether every one was placed. -/
def State.sealPages (s : State) (image : Store) : List Nat → List Nat → State × Bool
  | [], _ => (s, true)
  | p :: ps, fails =>
    let (s, ok) := s.sealPage image p (fails.headD 0)
    let (s, ok') := s.sealPages image ps (fails.drop 1)
    (s, ok && ok')

/-- R450: writes that waited for room go into the buffer, in order, as far as they fit. -/
def Nvm.drainBacklog (n : Nvm) (now : Word) : Nat → Nvm
  | 0 => n
  | fuel + 1 =>
    match n.backlog with
    | [] => n
    | b :: r =>
      if n.bufPages.isEmpty || n.bufPages.length + (n.newPages b.cells).length ≤ 8 then
        Nvm.drainBacklog ({ n with backlog := r }.fillBuffer now b.cells) now fuel
      else n

/-- R324: key slots whose records are sealed take their new value. -/
def State.applyKeys (s : State) (upTo : Nat) : State :=
  let due := s.cph.pend.filter (fun k => decide (k.ticket ≤ upTo))
  let slots := due.foldl (fun v k => v.setIfInBounds k.slot k.val) s.cph.slots
  let s := due.foldl (fun s k => (if 1 ≤ k.slot && k.slot ≤ 14 then s.critWritten (k.slot + 19) 1 else s).noteKey k.slot false) s
  { s with cph := { s.cph with slots := slots, pend := s.cph.pend.filter (fun k => !decide (k.ticket ≤ upTo)) } }

/-- R324, R453: a commit that failed leaves its key slots as they were. -/
def State.dropKeys (s : State) (upTo : Nat) : State :=
  { s with cph := { s.cph with pend := s.cph.pend.filter (fun k => !decide (k.ticket ≤ upTo)) } }

/-- R451, R453: the commands that waited for the seals up to a ticket reply; NVM_WORN where a page could not be placed. -/
def State.sealReplies (s : State) (upTo : Nat) (ok : Bool) : State :=
  let due (c : Cmd) : Bool := match c.wait? with
    | some (.seal t _ _) => decide (t ≤ upTo)
    | some (.commit t _) => decide (t ≤ upTo)
    | some (.ramp t) => decide (t ≤ upTo) && !s.pwr.ramping
    | _ => false
  let ans (c : Cmd) : Status × Octets :=
    if !ok then (.nvmWorn, [])
    else match c.wait? with
      | some (.seal _ st d) => (st, d)
      | some (.commit _ n) => (.ok, o8 n)
      | _ => (.ok, [])
  s.finishWhere due ans

/-- R450: commands whose unsynchronised write has found room reply OK. -/
def State.bufferReplies (s : State) : State :=
  s.finishWhere (fun c => match c.wait? with | some (.buffered t) => decide (t ≤ s.nvm.placedTo) | _ => false) (fun _ => (.ok, []))

/-- R446, R451 to R453: the commit under way ends; `fails` gives, for each page in sealing order, how many programs failed their verify. -/
def State.commitDone (s : State) (fails : List Nat) : State :=
  match s.nvm.commit with
  | none => s
  | some c =>
    let (s, ok) := s.sealPages c.image (sealOrder c.pages) fails
    let s := { s with nvm := { s.nvm with
        commit := none
        sealedTo := if ok then c.upTo else s.nvm.sealedTo
        counts1 := bump s.nvm.counts1 0 } }
    let s := if ok then s.applyKeys c.upTo else s.dropKeys c.upTo
    let n := s.nvm.drainBacklog s.aon.tick s.nvm.backlog.length
    let n := if n.again || !n.backlog.isEmpty then { n with again := false }.startCommit else n
    let s := { s with nvm := n }
    (s.sealReplies c.upTo ok).bufferReplies

/-- R444, R464: the background erase of the first released page ends; a page that fails its erase verify is retired. -/
def State.eraseDone (s : State) (ok : Bool) : State :=
  match s.nvm.erasing with
  | [] => s
  | ph :: r =>
    let s := { s with nvm := { s.nvm with erasing := r } }
    if ok then { s with nvm := { s.nvm with pool := s.nvm.pool ++ [ph] } }
    else (s.retirePage ph 0).poolCheck (s.nvm.poolFree + 1)

/-- R451: COMMIT_MS after the oldest uncommitted write a commit starts; in SLEEP the store is unpowered. -/
def State.commitTimeout (s : State) : State :=
  match s.nvm.oldest with
  | none => s
  | some t =>
    if ticksMs (fld s.nvm.cfg 0 11) ≤ s.age t && (s.pwr.state = .run || s.pwr.state = .idle) then
      { s with nvm := s.nvm.startCommit }
    else s

/-! ## The patrol (R448, R463, R465) -/

/-- R448: a lost word of a sealed page: poison in its place, counted and logged. -/
def State.loseWord (s : State) (a : Nat) : State :=
  let s := { s with nvm := { s.nvm with
      work := s.nvm.work.put a none, sealed := s.nvm.sealed.put a none
      flags := raiseFlag s.nvm.flags 1, counts1 := bump s.nvm.counts1 16
      patrolSum := { s.nvm.patrolSum with lost := s.nvm.patrolSum.lost + 1 } } }
  let s := s.logFault 13 3 a 0
  s.raise 10 (s.patrolData 2 (a / 128) s.nvm.patrolSum)

/-- R463: a page is rewritten under R446 with its present content; its old physical page is released, or retired. -/
def State.refreshPage (s : State) (p : Nat) (retire : Bool) : State :=
  let old := s.nvm.physOf p
  match s.takePool p 0 with
  | (s, some ph) =>
    let n := s.nvm.remap p ph
    let s := { s with nvm := { n with
        erasing := if retire then n.erasing.dropLast else n.erasing
        counts0 := bump n.counts0 16
        patrolSum := { n.patrolSum with refreshed := n.patrolSum.refreshed + 1 } } }
    if retire then s.retirePage old p else s
  | (s, none) => s

/-- Words corrected on a read are counted. -/
def State.noteCorrected (s : State) (k : Nat) : State :=
  { s with nvm := { s.nvm with
      counts0 := bumpBy s.nvm.counts0 0 16 k
      patrolSum := { s.nvm.patrolSum with corrected := s.nvm.patrolSum.corrected + k } } }

/-- R463: whether a logical page belongs to a tally counter. -/
def isTallyPage (p : Nat) : Bool := 1056 ≤ p && p ≤ 1119

/-- R463: a weak tally page is refreshed by a carry with the value unchanged. -/
def State.tallyRefresh (s : State) (p : Nat) : State :=
  let c := (p - 1056) / 2
  let up (t : Tally) : Tally := { base := t.value, gen := (t.gen + 1) % 65536, bits := 0, intent := none }
  let n : Nvm := { s.nvm with
      tallies := s.nvm.tallies.mapIdx (fun i t => if i = c then up t else t)
      counts0 := bump s.nvm.counts0 16
      patrolSum := { s.nvm.patrolSum with refreshed := s.nvm.patrolSum.refreshed + 1 } }
  { s with nvm := n }

/-- R463: one physical page is margin-read and handled; a retired page and a page in the buffer are passed over.
Left open: DESIGN CHOICE, assumption log 11. -/
def State.patrolPage (s : State) (ph : Nat) (h : PageHealth) : State :=
  if s.nvm.retired.contains ph then s
  else
    let s := { s with nvm := { s.nvm with patrolSum := { s.nvm.patrolSum with pages := s.nvm.patrolSum.pages + 1 } } }
    match s.nvm.logicalOf ph with
    | none => s
    | some p =>
      if s.nvm.bufPages.contains p then s
      else match h with
        | .good => s
        | .weak k => if isTallyPage p then (s.noteCorrected k).tallyRefresh p else (s.noteCorrected k).refreshPage p false
        | .failing k => (s.noteCorrected k).refreshPage p true
        | .lost offs => (offs.foldl (fun s o => s.loseWord (p * 128 + o.val)) s).refreshPage p true

/-- A patrol pass starts its figures afresh. -/
def State.patrolFresh (s : State) : State :=
  { s with nvm := { s.nvm with patrolSum := { pages := 0, corrected := 0, refreshed := 0, retired := 0, lost := 0 } } }

/-- R463: the time between two pages, 1,265.625 s in calendar units of 1/256 s. -/
def patrolStep : Nat := 324000

/-- R463, R465: the next page falls due, in RUN and IDLE: it is read, and the last page ends the pass. -/
def State.patrolDueStep (s : State) (h : PageHealth) : State :=
  if s.aon.calendar.toNat < s.nvm.patrolDue || !(s.pwr.state = .run || s.pwr.state = .idle) then s
  else
    let s := s.patrolPage s.nvm.patrolNext h
    let last := s.nvm.patrolNext = 2047
    let s := { s with nvm := { s.nvm with
        patrolNext := if last then 0 else s.nvm.patrolNext + 1
        patrolDue := s.nvm.patrolDue + patrolStep } }
    let s := s.storeReg 0x0E05 (put 0 11 s.nvm.patrolNext)
    if last then
      let s := { s with nvm := { s.nvm with patrolLast := s.aon.calendar } }
      let s := s.storeReg 0x0E06 s.aon.calendar
      (s.raise 10 (s.patrolData 0 0 s.nvm.patrolSum)).patrolFresh
    else s

/-- NVM_PATROL (R465): a full pass at once; the summary is the event data from offset 8, and the background position stays.
Left open: DESIGN CHOICE, assumption log 11. -/
def nvmPatrol (s : State) (_ : Fin 8) (c : Cmd) : State × Done :=
  let found := match c.obs with | .patrol l => l | _ => []
  let kept := s.nvm.patrolSum
  let s := (List.range 2048).foldl
    (fun s ph => s.patrolPage ph (((found.find? (fun x => x.1 = ph)).map (·.2)).getD .good)) s.patrolFresh
  let d := s.patrolData 0 0 s.nvm.patrolSum
  let s := s.raise 10 d
  okData { s with nvm := { s.nvm with patrolSum := kept } } d

/-! ## Back-offs (R56, R462) -/

/-- Whether a back-off of 60 s is in force. -/
def Backoff.active (b : Backoff) (now : Word) : Bool :=
  match b.since with
  | none => false
  | some t => decide ((now - t).toNat < ticksOf 60)

/-- One AUTH_FAIL more: the fourth within 60 s starts a back-off. -/
def Backoff.fail (b : Backoff) (now : Word) : Backoff :=
  let f := b.fails.filter (fun t => decide ((now - t).toNat < ticksOf 60)) ++ [now]
  if 4 ≤ f.length then { fails := [], since := some now } else { b with fails := f }

/-- A back-off whose 60 s have passed ends. -/
def Backoff.expire (b : Backoff) (now : Word) : Backoff :=
  if b.active now then b else { b with since := none }

/-! ## Reading and writing (R443, R447, R450, R495) -/

/-- R443: the region of a logical page: 0 roster, 1 almanac, 2 fault log, 3 parameters, 4 regulatory, 5 shadow ring, 6 keys,
7 tally counters, 8 + k user region k, 16 the spare pool. -/
def regionOf (page : Nat) : Nat :=
  if page < 512 then 0 else if page < 832 then 1 else if page < 896 then 2 else if page < 952 then 3
  else if page < 960 then 4 else if page < 1024 then 5 else if page < 1056 then 6 else if page < 1120 then 7
  else if page < 1632 then 8 + (page - 1120) / 64 else 16

/-- R443, R461: why a range may not be read or written: `none` where it may. -/
def State.nvmRefusal (s : State) (ctx : Ctx) (a n : Nat) (write : Bool) : Option Status :=
  if n = 0 || 128 < n || 262144 < a + n then some .badParam
  else
    let r := regionOf (a / 128)
    if r ≠ regionOf ((a + n - 1) / 128) then some .badParam
    else if 8 ≤ r && r < 16 then
      let i := 2 * (r - 8) + (if write then 1 else 0)
      if ((s.nvm.pw[i]?).getD none).isSome && !ctx.pwForce.getLsbD i then some .passwordRequired else none
    else if write then some .notPermitted
    else if r = 0 || r = 1 || r = 2 || r = 4 then none
    else some .notPermitted

/-- Octets of a bit mask, bit i for element i. -/
def maskOctets (l : List Bool) : Octets :=
  leOf ((l.length + 7) / 8) (l.foldr (fun b n => b2n b + 2 * n) 0)

/-- R495: the result data of a POISONED read. -/
def poisonData (ws : List (Option Word)) : Octets :=
  o8 ws.length ++ maskOctets (ws.map Option.isNone) ++ (ws.map (fun w => wordOctets (w.getD 0))).flatten

/-- NVM_READ (R443, R447, R495, R496). -/
def nvmRead (s : State) (n : Fin 8) (c : Cmd) : State × Done :=
  let a := p24 c.p 0
  let k := p8 c.p 3
  match s.nvmRefusal (s.ctx n) a k false with
  | some st => refuse s st
  | none =>
    let ws := (span a k).map s.nvm.work.get
    if ws.any Option.isNone then (s, .reply .poisoned (poisonData ws))
    else
      let d := (ws.map (fun w => wordOctets (w.getD 0))).flatten
      if (span (a / 128) ((a + k - 1) / 128 - a / 128 + 1)).all (fun p => !s.nvm.work.has p) then (s, .reply .blank d)
      else okData s d

/-- NVM_WRITE (R450, R451, R464): NVM_WORN once the pool has fallen to 16; with SYNC the reply follows the seal. -/
def nvmWrite (s : State) (n : Fin 8) (c : Cmd) : State × Done :=
  let a := p24 c.p 0
  let f := p8 c.p 3
  let k := p8 c.p 4
  if 1 < f then refuse s .badParam
  else match s.nvmRefusal (s.ctx n) a k true with
    | some st => refuse s st
    | none =>
      if s.nvm.poolFree ≤ 16 then refuse s .nvmWorn
      else
        let s := s.storeWords a (wordsOf (c.p.drop 5) k)
        if f = 1 then sealThen s []
        else if s.nvm.placedTo < s.nvm.ticket then (s, .await (.buffered s.nvm.ticket))
        else okDone s

/-- NVM_COMMIT (R451): replies with the number of pages once they are sealed; with nothing to commit, at once with 0. -/
def nvmCommit (s : State) (_ : Fin 8) (_ : Cmd) : State × Done :=
  if s.nvm.bufPages.isEmpty then okData s [0]
  else (s, .await (.commit s.nvm.ticket s.nvm.bufPages.length))

/-! ## Passwords (R461, R462) -/

/-- R461: what is kept of a password: the leftmost 64 bits of AES-CMAC over it under the device-unique key. Left open: DESIGN CHOICE, assumption log 9. -/
def passwordTag (pw : Octets) : BitVec 64 := cmac64 deviceKeyOctets pw

/-- The store address of the two words that keep password `i` (layout: the model's). Left open: DESIGN CHOICE, assumption log 9. -/
def pwAddr (i : Nat) : Nat := 927 * 128 + 2 * i

/-- Sets or removes password `i`, in working state and in the parameter pages, and takes it out of force for every context. -/
def State.putPassword (s : State) (i : Nat) (v : Option (BitVec 64)) : State :=
  let ws := match v with
    | none => [erased, erased]
    | some t => [BitVec.ofNat 40 t.toNat, BitVec.ofNat 40 (t.toNat / 2 ^ 40)]
  let s := s.storeWords (pwAddr i) ws
  { s with
    nvm := { s.nvm with pw := s.nvm.pw.setIfInBounds i v }
    hst := { s.hst with ctx := s.hst.ctx.map (fun c => { c with pwForce := c.pwForce &&& ~~~(BitVec.ofNat 16 (2 ^ i)) }) } }

/-- R462: a mismatch: AUTH_FAIL, counted towards the context's back-off. -/
def passwordFail (s : State) (n : Fin 8) : State × Done :=
  let b := (s.ctx n).pwTries.fail s.aon.tick
  let s := s.modCtx n (fun c => { c with pwTries := b })
  let s := if b.since = some s.aon.tick then { s with nvm := { s.nvm with flags := raiseFlag s.nvm.flags 8 } } else s
  (s, .reply .authFail [])

/-- R462: erases all 64 pages of a user region to BLANK, in the buffer and in the store. -/
def State.blankRegion (s : State) (r : Nat) : State :=
  let ps := span (1120 + 64 * r) 64
  let n : Nvm := { s.nvm with
      work := ps.foldl Store.blankPage s.nvm.work
      sealed := ps.foldl Store.blankPage s.nvm.sealed
      dirty := s.nvm.dirty.filter (fun p => !ps.contains p)
      commit := s.nvm.commit.map (fun c => { c with pages := c.pages.filter (fun p => !ps.contains p) }) }
  { s with nvm := n }

/-- NVM_PASSWORD (R461, R462). Left open: DESIGN CHOICE, assumption log 18. -/
def nvmPassword (s : State) (n : Fin 8) (c : Cmd) : State × Done :=
  let op := p8 c.p 0
  let r := p8 c.p 1
  let kind := p8 c.p 2
  let i := 2 * r + kind
  let cur := (s.nvm.pw[i]?).getD none
  let given := passwordTag (pRun c.p 3 8)
  if 4 < op || 7 < r || 1 < kind then refuse s .badParam
  else if (s.ctx n).pwTries.active s.aon.tick then refuse s .busy
  else match op with
    | 0 =>
      if cur.isNone || cur = some given then
        okDone (s.modCtx n (fun x => { x with pwForce := x.pwForce ||| BitVec.ofNat 16 (2 ^ i) }))
      else passwordFail s n
    | 1 =>
      if cur.isNone || cur = some given then sealThen (s.putPassword i (some (passwordTag (pRun c.p 11 8)))) []
      else passwordFail s n
    | 2 =>
      if cur.isNone || cur = some given then sealThen (s.putPassword i none) [] else passwordFail s n
    | 3 => okDone (s.modCtx n (fun x => { x with pwForce := x.pwForce &&& ~~~(BitVec.ofNat 16 (3 * 4 ^ r)) }))
    | _ =>
      if c.role ≠ .fleet then refuse s .notPermitted
      else sealThen (((s.blankRegion r).putPassword (2 * r) none).putPassword (2 * r + 1) none) []

/-! ## Tally commands (R456, R460) -/

/-- NVM_TALLY_INCREMENT (R458, R460): counters 16 to 31 only. Left open: DESIGN CHOICE, assumption log 18. -/
def nvmTallyIncrement (s : State) (_ : Fin 8) (c : Cmd) : State × Done :=
  let k := p8 c.p 0
  if h : k < 32 then
    if k < 16 then refuse s .notPermitted
    else if s.nvm.tallyFull ⟨k, h⟩ then refuse s .nonceExhausted
    else (s.startTally ⟨k, h⟩ .user, .await (.tally s.nvm.tallyNext))
  else refuse s .notPermitted

/-- NVM_TALLY_READ (R460). -/
def nvmTallyRead (s : State) (_ : Fin 8) (c : Cmd) : State × Done :=
  let k := p8 c.p 0
  if h : k < 32 then okData s (wordOctets (BitVec.ofNat 40 (s.nvm.tally ⟨k, h⟩))) else refuse s .badParam

/-! ## The regulatory page (R466, R467) -/

/-- The bits of word `i` of the record that have a meaning. -/
def regMask (i : Nat) : Word :=
  if i = 0 then ones 0 17 else if i = 1 then ones 0 27 else if i ≤ 9 then ones 0 35 else ones 0 21

/-- R467: whether a record uses no reserved encoding and keeps every limit. -/
def regGood (r : List Word) : Bool :=
  let w (i : Nat) : Word := r.getD i 0
  (List.range 11).all (fun i => decide (w i &&& ~~~(regMask i) = 0)) &&
  decide (fld (w 1) 6 7 ≤ 100) && decide (fld (w 1) 13 7 ≤ 100) && decide (fld (w 1) 20 7 ≤ 100) &&
  decide (fld (w 1) 13 7 ≤ fld (w 1) 20 7) &&
  (List.range 8).all (fun k => !bit (w (2 + k)) 34 || decide (fld (w (2 + k)) 0 17 < fld (w (2 + k)) 17 17)) &&
  decide (fld (w 10) 11 10 ≤ 1000) && decide (413 ≤ fld (w 10) 2 9)

/-- R467: whether a record is at least as strict as another in every field. -/
def regStricter (new old : List Word) : Bool :=
  let n (i : Nat) : Word := new.getD i 0
  let o (i : Nat) : Word := old.getD i 0
  decide (fld (n 0) 0 16 = fld (o 0) 0 16) &&
  decide (fld (n 1) 0 6 ≤ fld (o 1) 0 6) && decide (fld (n 1) 6 7 ≤ fld (o 1) 6 7) &&
  decide (fld (o 1) 13 7 ≤ fld (n 1) 13 7) && decide (fld (n 1) 20 7 ≤ fld (o 1) 20 7) &&
  (List.range 8).all (fun k => !bit (n (2 + k)) 34 ||
    (List.range 8).any (fun j => bit (o (2 + j)) 34 &&
      decide (fld (o (2 + j)) 0 17 ≤ fld (n (2 + k)) 0 17) && decide (fld (n (2 + k)) 17 17 ≤ fld (o (2 + j)) 17 17))) &&
  (!bit (n 10) 0 || bit (o 10) 0) && (!bit (n 10) 1 || bit (o 10) 1) &&
  decide (fld (o 10) 2 9 ≤ fld (n 10) 2 9) && decide (fld (n 10) 11 10 ≤ fld (o 10) 11 10)

/-- R466: whether the record is locked. -/
def Nvm.regLocked (n : Nvm) : Bool := bit (n.reg.getD 0 0) 16

/-- R466: puts a record in force and writes it into each of the 8 pages. Each of the 8 pages holds words 0 to 127, those past 10 zero. -/
def State.putReg (s : State) (r : List Word) : State :=
  let page := r ++ List.replicate 117 0
  let cells := ((List.range 8).map (fun k => page.mapIdx (fun i w => ((952 + k) * 128 + i, some w)))).flatten
  { s with nvm := { (s.nvm.bufWrite s.aon.tick cells) with reg := r, regWritten := true } }

/-- NVM_REGULATORY_LOCK (R467): WRITE and LOCK. Left open: DESIGN CHOICE, assumption log 18. -/
def nvmRegulatoryLock (s : State) (_ : Fin 8) (c : Cmd) : State × Done :=
  match p8 c.p 0 with
  | 0 =>
    let r0 := wordsOf (c.p.drop 1) 11
    let r := (setFld (r0.getD 0 0) 16 1 (b2n s.nvm.regLocked)) :: r0.drop 1
    if !regGood r then refuse s .badParam
    else if s.nvm.regLocked && !regStricter r s.nvm.reg then refuse s .regulatoryLimit
    else sealThen (s.putReg r) []
  | 1 =>
    if !s.nvm.regWritten || fld (s.nvm.reg.getD 0 0) 0 16 = 0 then refuse s .wrongState
    else sealThen (s.putReg (raiseFlag (s.nvm.reg.getD 0 0) 16 :: s.nvm.reg.drop 1)) []
  | _ => refuse s .badParam

/-! ## NVM_ registers (R468) -/

/-- R468: reads a register of the store block, by its offset in the page. -/
def nvmReg (s : State) (o : Nat) : Option Word :=
  let n := s.nvm
  match o with
  | 0x00 => some (flag 0 n.mounted ||| put 1 4 n.bufPages.length ||| flag 5 n.commit.isSome ||| put 7 9 n.poolFree
              ||| put 16 5 (min n.pool.length 31) ||| put 21 9 n.retired.length)
  | 0x01 => some n.flags
  | 0x02 => some n.cfg
  | 0x03 => some (put 0 29 n.seq)
  | 0x04 => some (put 0 29 (((n.shadows.find? (·.complete)).map (·.gen)).getD 0) ||| put 29 3 (n.shadows.countP (·.complete)))
  | 0x05 => some (put 0 11 n.patrolNext)
  | 0x06 => some n.patrolLast
  | 0x08 => some n.counts0
  | 0x09 => some n.counts1
  | 0x0A => some (put 0 16 (n.pw.toList.foldr (fun p k => b2n p.isSome + 2 * k) 0))
  | 0x0B => some (put 0 16 (fld (n.reg.getD 0 0) 0 16) ||| flag 16 n.regLocked ||| flag 17 n.regWritten)
  | _ => none

/-- NVM_STATUS (R468, R475): every NVM_ register at one point. -/
def nvmStatus (s : State) (_ : Fin 8) (_ : Cmd) : State × Done :=
  okData s (([0, 1, 2, 3, 4, 5, 6, 8, 9, 10, 11].map (fun o => wordOctets ((nvmReg s o).getD 0))).flatten)

end Sys2Proof.Machine
end

