-- ==== Sys2Proof/Machine/Wake.lean ====
section
/-!
DEFINITION. What several tracts share: the latching of wake sources and the wake record (R400 to R414), the sequencers' event lines
(R288), and the course of an enableable unit (R63, R64).
-/
namespace Sys2Proof.Machine

open Sys2Proof

/-! ## Wake sources and the wake record -/

/-- R414: the code of a power state left; RUN has none. -/
def PState.left : PState → Nat
  | .run => 0 | .idle => 1 | .sleep => 2 | .deep => 3 | .off => 4

/-- R401: whether the source of bit `b` wakes from a state. -/
def wakesFrom (b : Nat) : PState → Bool
  | .run => false
  | .idle => decide (b ≤ 4)
  | .sleep => decide (b ≤ 8)
  | .deep => decide (b ≤ 4) || (6 ≤ b && b ≤ 8) || b = 10
  | .off => b = 0

/-- R401, R415: whether source `b` is enabled; VSYS_RETURN always is. -/
def Pwr.enabled (p : Pwr) (b : Nat) : Bool := b = 10 || bit p.wakeCfg b

/-- R414: SOURCE of the wake source of bit `b`. -/
def wakeSource (b : Nat) : Nat := if b = 10 then 10 else b + 1

/-- R414: the record as the event data of EV_WAKE, from its offset 8. Left open: DESIGN CHOICE, assumption log 34. -/
def WakeRec.octets (w : WakeRec) : Octets :=
  o8 w.source ++ o8 w.timer ++ o8 w.left ++ o8 w.flags ++ o8 w.bankFail.toNat ++ [0] ++ leOf 3 (min w.entryT 0xFFFFFF)
    ++ o16 (min w.exitUs 0xFFFF) ++ wordOctets w.residency ++ wordOctets w.stamp

/-- R414: writes the wake record; the event follows unless the visit is silent (R404). -/
def State.wakeDone (s : State) (w : WakeRec) (silent : Bool) : State :=
  let s := { s with pwr := { s.pwr with wake := { w with stamp := s.aon.calendar } } }
  if silent then s else s.queueAll 1 s.pwr.wake.octets

/-- R396, R405: IDLE is left for RUN, which takes 2 µs. `src` is SOURCE of R414. -/
def State.leaveIdle (s : State) (src timer : Nat) : State :=
  let w : WakeRec :=
    { source := src, timer := timer, left := 1, flags := 2 * b2n s.pwr.forced, bankFail := 0, entryT := 0, exitUs := 2, stamp := 0,
      residency := s.aon.tick - s.pwr.visit }
  State.wakeDone { s with pwr := { s.pwr with state := .run, visit := s.aon.tick } } w false

/-- R405: a return to work begins. -/
def State.beginStart (s : State) (kind : StartKind) (src timer : Nat) (latched : Bool) : State :=
  let x : Start :=
    { kind := kind, left := s.pwr.state, phase := .vcore, source := src, timer := timer, latched := latched,
      began := s.aon.tick, tries := 0, saveFail := false, commitFail := false, bankFail := 0 }
  { s with pwr := { s.pwr with start := some x } }

/-- R400 to R402, R411: a wake source fires: it is latched during an entry, ends IDLE, or begins the return from SLEEP, DEEP or OFF.
While VSYS is away only its return wakes the device from DEEP, and OFF cannot be left. Left open: DESIGN CHOICE, assumption log 34. -/
def State.wake (s : State) (b timer : Nat) : State :=
  if !s.pwr.enabled b then s
  else match s.pwr.entry with
    | some e =>
      if wakesFrom b e.target && e.latched.isNone then
        { s with pwr := { s.pwr with entry := some { e with latched := some (wakeSource b, timer) } } }
      else s
    | none =>
      if s.pwr.start.isSome || !wakesFrom b s.pwr.state then s
      else match s.pwr.state with
        | .idle => s.leaveIdle (wakeSource b) timer
        | .sleep => s.beginStart .sleep (wakeSource b) timer false
        | .deep => if s.pwr.vsysOk || b = 10 then s.beginStart .deep (wakeSource b) timer false else s
        | .off => if s.pwr.vsysOk then s.beginStart .cold (wakeSource b) timer false else s
        | .run => s

/-- R399: new work may start: no entry has got past its claims. -/
def Pwr.admits (p : Pwr) : Bool := match p.entry with | some e => e.phase = .claims | none => true

/-- R398: FLOOR, the highest claim held. -/
def State.floor (s : State) : Nat := (s.hst.ctx.toList.map (fun c => if c.isOpen then c.claim else 0)).foldl max 0

/-- R397: SLEEP and DEEP need a wake source enabled other than VSYS_RETURN. -/
def Pwr.canWake (p : Pwr) : Bool := fld p.wakeCfg 0 9 ≠ 0

/-! ## Event lines (R288, R289) -/

/-- Sequencer `n`. -/
def State.sq (s : State) (n : Fin 3) : Seq := s.seq.seqs[n]

/-- `s` with sequencer `n` changed by `f`. -/
def State.modSeq (s : State) (n : Fin 3) (f : Seq → Seq) : State :=
  { s with seq := { s.seq with seqs := s.seq.seqs.set n (f (s.sq n)) } }

/-- R286 to R288: register `r` takes a value. -/
def Seq.setReg (q : Seq) (r : Fin 8) (v : Word) : Seq := { q with regs := q.regs.set r v }

/-- The lowest line latched in a mask. -/
def lowestLine (b : BitVec 16) : Option Nat := (List.range 16).find? (fun i => b.getLsbD i)

/-- R288: a line is latched. A program that waits for it takes the lowest line of its mask, which is cleared, and goes on. -/
def Seq.latchLine (q : Seq) (i : Nat) : Seq :=
  let q := { q with lines := q.lines ||| BitVec.ofNat 16 (1 <<< i) }
  match q.stall with
  | .event mask ra =>
    match lowestLine (q.lines &&& mask) with
    | some k =>
      let q := { q with lines := q.lines &&& ~~~(BitVec.ofNat 16 (1 <<< k)), stall := .none, pc := q.pc + 1 }
      q.setReg ra (BitVec.ofNat 40 k)
    | none => q
  | _ => q

/-- R288, R307: the lines of one kind that a source feeds: field k of SEQn_EVT, `len` bits wide from `lo`, names it. -/
def Seq.feed (q : Seq) (lo len base src : Nat) : Seq :=
  if bit q.evt 36 then
    (List.range 4).foldl (fun q k => if fld q.evt (lo + len * k) len = src then q.latchLine (base + k) else q) q
  else q

/-- R288, R384: lines 4 to 7 of each sequencer that names a timer. -/
def State.timerLines (s : State) (t : Nat) : State :=
  { s with seq := { s.seq with seqs := s.seq.seqs.map (fun q => q.feed 0 5 4 t) } }

/-- R288, R366: lines 8 to 11 of each sequencer that names a trigger slot. -/
def State.trigLines (s : State) (slot : Nat) : State :=
  { s with seq := { s.seq with seqs := s.seq.seqs.map (fun q => q.feed 20 4 8 slot) } }

/-! ## Enableable units (R63, R64) -/

/-- Commands in flight wait for something else, where `f` says so; those whose seal has already come reply. -/
def State.rewait (s : State) (f : Cmd → Option Wait) : State :=
  let g : Cmd → Cmd := fun c => match c.inFlight, f c with
    | true, some w => { c with phase := .running w }
    | _, _ => c
  let h : Ctx → Ctx := fun x => { x with cmds := x.cmds.map g }
  let s := { s with hst := { s.hst with ctx := s.hst.ctx.map h } }
  s.sealReplies s.nvm.sealedTo true

/-- R63: the code of a unit's state. -/
def UnitState.code : UnitState → Nat
  | .off => 0 | .starting => 1 | .on => 2 | .stopping => 3 | .restartPending => 4 | .stopPending => 5

/-- R64: EV_DEFERRED_DONE goes to the context of the command, masked or not. -/
def State.deferredDone (s : State) (d : Deferred) (st : Status) : State :=
  s.modCtx d.ctx (fun c =>
    if c.isOpen then c.queueEvent 12 s.aon.calendar (wordOctets d.jseq ++ o16 d.op.toNat ++ o16 st.code) else c)

/-- R64: every deferred outcome that wanted this state of a unit is reported with a status. -/
def State.reportDeferred (s : State) (u : UnitId) (on : Bool) (st : Status) : State :=
  let due := s.hst.deferred.filter (fun d => decide (d.unit = u) && decide (d.on = on))
  let s := { s with hst := { s.hst with deferred := s.hst.deferred.filter (fun d => !(decide (d.unit = u) && decide (d.on = on))) } }
  due.foldl (fun s d => s.deferredDone d st) s

/-- R63, R64: a command is answered OK_DEFERRED. -/
def State.defer (s : State) (n : Fin 8) (c : Cmd) (u : UnitId) (on : Bool) : State × Done :=
  ({ s with hst := { s.hst with deferred := s.hst.deferred ++
      [{ ctx := n, jseq := c.entry.seq, op := BitVec.ofNat 16 c.op.code, unit := u, on := on }] } }, .reply .okDeferred [])

/-- R63: an enable or a disable meets a unit: its new state, and how the command is answered; the transition it cancels is reported
as WRONG_STATE (R64). -/
def State.unitCommand (s : State) (n : Fin 8) (c : Cmd) (u : UnitId) (st : UnitState) (on : Bool) : UnitState × (State × Done) :=
  match on, st with
  | true, .off => (.starting, (s, .await (.unit u true)))
  | true, .starting => (.starting, (s, .await (.unit u true)))
  | true, .on => (.on, okDone s)
  | true, .stopping => (.restartPending, s.defer n c u true)
  | true, .restartPending => (.restartPending, s.defer n c u true)
  | true, .stopPending => (.starting, (s.reportDeferred u false .wrongState, .await (.unit u true)))
  | false, .off => (.off, okDone s)
  | false, .starting => (.stopPending, s.defer n c u false)
  | false, .on => (.stopping, (s, .await (.unit u false)))
  | false, .stopping => (.stopping, (s, .await (.unit u false)))
  | false, .restartPending => (.stopping, (s.reportDeferred u true .wrongState, .await (.unit u false)))
  | false, .stopPending => (.stopPending, s.defer n c u false)

/-- R63, R64: a unit has reached ON or OFF: the replies and reports that waited for it. -/
def State.unitReached (s : State) (u : UnitId) (on : Bool) : State :=
  (s.finishWait (.unit u on) .ok []).reportDeferred u on .ok

end Sys2Proof.Machine
end

