-- ==== Sys2Proof/Machine/Network.lean ====
section
/-!
DEFINITION. The network port, the local clock, IEEE 1588, captures and the calendar (spec/11_network_time.md, R492). Trigger slots
stand in Triggers.lean.
-/
namespace Sys2Proof.Machine

open Sys2Proof

/-! ## The local clock (R353 to R355, R360) -/

/-- One nanosecond in the units of the clock's remainder. -/
def nsUnit : Int := 64000000000

/-- R353, R359, R360: the total rate is limited to 500 ppm: 500,000 ppb. -/
def rateLimit : Int := 500000

/-- R360: the rate, in ppb, at which an offset slews: what is left below 500 ppm, towards the offset. -/
def Ntc.slewRate (n : Ntc) : Int :=
  if 0 < n.slew then rateLimit - n.freq else if n.slew < 0 then -(rateLimit + n.freq) else 0

/-- R376: NTC_RATE: the total rate in force. -/
def Ntc.rate (n : Ntc) : Int := n.freq + n.slewRate

/-- R360: what one always-on tick slews at most, in clock units; a tick is 1953125 / 64 ns. -/
def Ntc.slewStep (n : Ntc) : Int := 1953125 * n.slewRate

/-- The clock moves by a number of its units. Left open: DESIGN CHOICE, assumption log 14. -/
def Ntc.advance (n : Ntc) (d : Int) : Ntc :=
  let t : Int := (n.ns : Int) * nsUnit + (n.frac : Int) + d
  { n with ns := (t / nsUnit).toNat, frac := (t % nsUnit).toNat }

/-- R353: one always-on tick of local time: with the rate while the oscillator runs, else at the nominal rate and COARSE.
Left open: DESIGN CHOICE, assumption log 14. -/
def Ntc.tick (n : Ntc) (fine : Bool) : Ntc :=
  if fine then
    let d := n.slewStep
    let part := if n.slew.natAbs ≤ d.natAbs then n.slew else d
    { n.advance (1953125 * (1000000000 + n.freq) + part) with slew := n.slew - part }
  else { n.advance (1953125 * 1000000000) with coarse := true }

/-- R353: SEC. -/
def Ntc.sec (n : Ntc) : Nat := n.ns / 1000000000 % 2 ^ 48

/-- R353: NS. -/
def Ntc.sub (n : Ntc) : Nat := n.ns % 1000000000

/-- SEC and NS as the octets of a reply or event. -/
def Ntc.octets (n : Ntc) : Octets := leOf 6 n.sec ++ o32 n.sub

/-- R354: the code of CLOCK_STATE. -/
def ClockState.code : ClockState → Nat
  | .unset => 0 | .free => 1 | .locked => 2

/-- `s` with the network block changed. -/
def State.modNtc (s : State) (f : Ntc → Ntc) : State := { s with ntc := f s.ntc }

/-- R360: a slew that one tick completes is complete (SLEW_COMPLETE). -/
def State.slewComplete (s : State) : State :=
  if s.ntc.slew ≠ 0 && s.ntc.slew.natAbs ≤ s.ntc.slewStep.natAbs then
    s.modNtc (fun n => { n.advance n.slew with slew := 0 })
  else s

/-- R363: EV_TIME_STEP. -/
def State.timeStep (s : State) (kind : Nat) (v : Int) : State :=
  s.raise 7 (o8 kind ++ [0, 0, 0] ++ oS64 v ++ s.ntc.octets)

/-! ## Configuration (R348, R356, R358, R364, R370, R376) -/

/-- R376: the configuration registers by WHICH of NTC_CONFIG: their offset in the page. -/
def ntcOffset : Nat → Nat
  | 0 => 2 | 1 => 3 | 2 => 4 | 3 => 5 | 4 => 0x11 | _ => 0x12

/-- R13, R14, R348, R376: a value sets a reserved bit or holds a reserved encoding. -/
def ntcBad (which : Nat) (v : Word) : Bool :=
  match which with
  | 0 =>
    let cnt := fld v 6 6
    fld v 37 3 ≠ 0 || cnt < 2 || 32 < cnt || fld v 12 8 = 0 || cnt ≤ fld v 1 5
  | 1 =>
    let sync := signed 4 (fld v 9 4)
    let ann := signed 4 (fld v 13 4)
    let del := signed 4 (fld v 17 4)
    fld v 37 3 ≠ 0 || fld v 0 2 = 3 || sync < -4 || 1 < sync || ann < -3 || 3 < ann || del < -4 || 5 < del
  | 2 => fld v 29 11 ≠ 0 || fld v 1 16 = 0 || fld v 17 12 < 50
  | 3 => fld v 32 8 ≠ 0
  | 4 =>
    let t := signed 11 (fld v 0 11)
    fld v 11 29 ≠ 0 || t < -1000 || 1000 < t
  | _ => fld v 4 36 ≠ 0

/-- R357: the master is given up; sequence numbers and the servo's rate stay. -/
def Ptp.lose (p : Ptp) : Ptp :=
  { p with master := none, newMaster := false, sync := none, delayReq := none, delayAt := none, pair := none, goodRun := 0, bigRun := 0 }

/-- R376: a configuration register takes a value. A change of ROLE or DOMAIN gives the master up; a change of NTC_NET_CFG restarts
the PHY after any frame in progress (R349). Left open: DESIGN CHOICE, assumption log 14. -/
def Ntc.setCfg (n : Ntc) (which : Nat) (v : Word) : Ntc :=
  match which with
  | 0 => if v = n.netCfg then n
         else if n.onWire.isSome then { n with netCfg := v, restart := true } else { n with netCfg := v, link := false }
  | 1 =>
    if fld v 0 9 = fld n.ptpCfg 0 9 then { n with ptpCfg := v }
    else { n with ptpCfg := v, ptp := n.ptp.lose, clock := if n.clock = .locked then .free else n.clock }
  | 2 => { n with servoCfg := v }
  | 3 => { n with asym := v }
  | 4 => { n with calCfg := v }
  | _ => { n with capCfg := v }

/-- R376, R475: NTC_CONFIG and a SYS_REG_WRITE of the same register. -/
def State.ntcWrite (s : State) (which : Nat) (v : Word) : State × Done :=
  if ntcBad which v then refuse s .badParam
  else sealThen ((s.modNtc (fun n => n.setCfg which v)).storeReg (0x0B00 + ntcOffset which) v) []

/-- NTC_CONFIG (R376). -/
def ntcConfig (s : State) (_ : Fin 8) (c : Cmd) : State × Done :=
  if 5 < p8 c.p 0 then refuse s .badParam else s.ntcWrite (p8 c.p 0) (pW c.p 1)

/-- NTC_READ (R355). -/
def ntcRead (s : State) (_ : Fin 8) (_ : Cmd) : State × Done :=
  okData s (s.ntc.octets ++ o8 (s.ntc.clock.code + 4 * b2n s.ntc.coarse) ++ wordOctets s.aon.calendar ++ wordOctets s.aon.tick)

/-- NTC_ADJUST (R360). -/
def ntcAdjust (s : State) (_ : Fin 8) (c : Cmd) : State × Done :=
  let f := p8 c.p 0
  let ppb := pS c.p 1 4
  let off := pS c.p 5 8
  if 3 < f || (pBit c.p 0 0 && (ppb < -rateLimit || rateLimit < ppb)) || (pBit c.p 0 1 && 2 ^ 39 < off.natAbs) then refuse s .badParam
  else if pBit c.p 0 0 && bit s.ntc.servoCfg 0 then refuse s .wrongState
  else okDone (s.modNtc (fun n => { n with
    freq := if pBit c.p 0 0 then ppb else n.freq
    slew := if pBit c.p 0 1 then off * nsUnit else n.slew }))

/-! ## Frames (R348 to R352) -/

/-- R352: the PHY is on: in RUN, and in IDLE unless IDLE_PHY_OFF with no receiver armed; it needs the oscillator. -/
def State.phyOn (s : State) (armed : Bool) : Bool :=
  s.pwr.xoOk && (s.pwr.state = .run || (s.pwr.state = .idle && (!bit s.ntc.netCfg 36 || armed)))

/-- R351: the priority class of a waiting frame. -/
def TxKind.class : TxKind → Nat
  | .sheaf _ => 1
  | .sync => 2
  | .delayReq => 2
  | .ptp => 3
  | .battery => 4
  | .reply _ _ _ => 5
  | .event _ => 5

/-- R351: the waiting frame of highest priority, the oldest of its class. -/
def bestFrame : List TxFrame → Option TxFrame
  | [] => none
  | f :: fs => match bestFrame fs with
    | none => some f
    | some g => if f.kind.class ≤ g.kind.class then some f else some g

/-- Queues a frame. -/
def State.queueFrame (s : State) (f : TxFrame) : State := s.modNtc (fun n => { n with queue := n.queue ++ [f] })

/-- R45, R51, R68, R546: the next event of a PUSH context on the network port, as a frame. -/
def State.pushFrame (s : State) (n : Fin 8) : Option TxFrame :=
  let c := s.ctx n
  if c.isOpen && c.push && c.port = .net && !s.quarantined && s.canSign c.keySlot.toNat then
    match c.events with
    | [] => none
    | e :: _ =>
      let p : Packet :=
        { kind := .event, ctx := n, high := 0, seq := e.seq, code := BitVec.ofNat 16 e.code, trunc := decide (0 < c.lost),
          params := c.eventParams e, frees := false }
      some { kind := .event n, dst := c.mac, ether := 0x88B5, payload := s.packetOctets .net c.keySlot.toNat p (1 < c.events.length) }
  else none

/-- R350: whether the port hears a frame at all: it is addressed to the device, to the broadcast address or to a multicast address. -/
def heard (dst : BitVec 48) : Bool := dst = Config.mac || dst.getLsbD 0

/-- R350: the filter and the checks of a received frame: `none` when it is ignored or dropped and counted. -/
def State.acceptFrame (s : State) (f : Frame) : State × Bool :=
  if !heard f.dst || !s.ntc.link then (s, false)
  else if !f.fcsOk then (s.modNtc (fun n => { n with counts0 := bump n.counts0 0 }), false)
  else if f.tagged || 1518 < f.length || f.queueFull || !(f.ether = 0x88B5 || f.ether = 0x88F7) then
    (s.modNtc (fun n => { n with counts0 := bump n.counts0 16, flags := raiseFlag n.flags 5 }), false)
  else (s, true)

/-- R48, R350: a frame that is not for the device is dropped and counted in RX_DROPPED. -/
def State.rxDropped (s : State) : State := s.modNtc (fun n => { n with counts0 := bump n.counts0 16, flags := raiseFlag n.flags 5 })

/-! ## IEEE 1588 (R356 to R359). The octets of the messages follow IEEE 1588-2019 (PRESUMED, assumption log 20). -/

/-- A number in `n` octets, most significant first. -/
def beOct (n v : Nat) : Octets := (leOf n v).reverse

/-- R356: the device's port identity: the MAC address with 0xFF, 0xFE after octet 2, and port number 1. Left open: PRESUMED, assumption log 20. -/
def ownPort : BitVec 80 :=
  let m := leOf 6 Config.mac.toNat
  BitVec.ofNat 80 (natOf (m.take 3 ++ [0xFF, 0xFE] ++ m.drop 3 ++ [0, 1]))

/-- A PTP timestamp: 48 bits of seconds and 32 of nanoseconds. Left open: PRESUMED, assumption log 20. -/
def ptpTime (t : Int) : Octets := beOct 6 (t.toNat / 1000000000) ++ beOct 4 (t.toNat % 1000000000)

/-- R356: a PTP message of a type, with its flags, correction in ns, sequence number, control, log interval and body.
Left open: PRESUMED, assumption log 20. -/
def ptpMessage (n : Ntc) (type flags : Nat) (corr : Int) (seq : BitVec 16) (control log : Nat) (body : Octets) : Octets :=
  o8 type ++ o8 0x12 ++ beOct 2 (34 + body.length) ++ o8 (fld n.ptpCfg 2 7) ++ [0] ++ beOct 2 flags
    ++ beOct 8 (twos 64 (corr * 65536)) ++ [0, 0, 0, 0] ++ leOf 10 ownPort.toNat ++ beOct 2 seq.toNat ++ o8 control ++ o8 log ++ body

/-- R356: a PTP frame. Left open: PRESUMED, assumption log 20. -/
def ptpFrame (kind : TxKind) (payload : Octets) : TxFrame := { kind := kind, dst := 0x191B01, ether := 0x88F7, payload := payload }

/-- R357: Announce. Left open: DESIGN CHOICE and PRESUMED, assumption log 14, 20. -/
def Ntc.announce (n : Ntc) : Octets :=
  ptpMessage n 0xB 0x0008 0 n.ptp.annSeq 5 (twos 8 (signed 4 (fld n.ptpCfg 13 4)))
    (ptpTime n.ns ++ beOct 2 (fld n.ptpCfg 29 8) ++ [0] ++ o8 (fld n.ptpCfg 21 8) ++ o8 248 ++ [0xFE, 0xFF, 0xFF, 128]
      ++ (leOf 10 ownPort.toNat).take 8 ++ [0, 0, 0xA0])

/-- R357: Sync. Left open: PRESUMED, assumption log 20. -/
def Ntc.syncMsg (n : Ntc) : Octets :=
  ptpMessage n 0 0x0200 0 n.ptp.syncSeq 0 (twos 8 (signed 4 (fld n.ptpCfg 9 4))) (ptpTime 0)

/-- R357: Follow_Up of a Sync that left at `t1`. Left open: PRESUMED, assumption log 20. -/
def Ntc.followUp (n : Ntc) (seq : BitVec 16) (t1 : Int) : Octets :=
  ptpMessage n 8 0 0 seq 2 (twos 8 (signed 4 (fld n.ptpCfg 9 4))) (ptpTime t1)

/-- R357: Delay_Req. Left open: PRESUMED, assumption log 20. -/
def Ntc.delayReqMsg (n : Ntc) : Octets := ptpMessage n 1 0 0 n.ptp.delaySeq 1 0x7F (ptpTime 0)

/-- R357: Delay_Resp to a request received at `t4`. Left open: PRESUMED, assumption log 20. -/
def Ntc.delayResp (n : Ntc) (m : PtpMsg) (t4 : Int) : Octets :=
  ptpMessage n 9 0 m.corr m.seqId 3 (twos 8 (signed 4 (fld n.ptpCfg 17 4))) (ptpTime t4 ++ leOf 10 m.src.toNat)

/-- R356: ROLE. -/
def Ntc.role (n : Ntc) : Nat := fld n.ptpCfg 0 2

/-- Always-on ticks in 2^e seconds, for e from -4 to 5 (R357). -/
def ticksPow (e : Int) : Nat := 32768 * 32 / 2 ^ (5 - e).toNat

/-- R356: a message is of the device's domain and the port has link. -/
def Ntc.hears (n : Ntc) (m : PtpMsg) : Bool := n.link && m.domain = fld n.ptpCfg 2 7

/-- R356, R376: a PTP message is ignored. -/
def Ntc.ignorePtp (n : Ntc) : Ntc := { n with counts1 := bump n.counts1 16 }

/-- R357: Announce is heard: a follower takes its first master, or keeps the one it holds. -/
def Ntc.hearAnnounce (n : Ntc) (m : PtpMsg) (now : Word) : Ntc :=
  if n.hears m && n.role = 1 then
    match n.ptp.master with
    | none => { n with ptp := { n.ptp with master := some m.src, announced := now, newMaster := true } }
    | some x => if x = m.src then { n with ptp := { n.ptp with announced := now } } else n.ignorePtp
  else n.ignorePtp

/-- R356, R358: a two-step Sync of the master held waits for its Follow_Up. -/
def Ntc.hearSync (n : Ntc) (m : PtpMsg) (t2 : Int) : Ntc :=
  if n.hears m && n.role = 1 && n.ptp.master = some m.src && m.twoStep then
    { n with ptp := { n.ptp with sync := some { seqId := m.seqId, t2 := t2, corr := m.corr } } }
  else n.ignorePtp

/-- R358: the offset of a Sync with its Follow_Up, against the most recent complete pair of t4 - t3 and its correction.
Left open: DESIGN CHOICE, assumption log 14. -/
def Ntc.offsetOf (n : Ntc) (y : SyncWait) (m : PtpMsg) (pair : Int × Int) : Int :=
  let c := y.corr + m.corr
  let mean := ((y.t2 - m.time) + pair.1 - (c + pair.2)) / 2
  (y.t2 - m.time) - mean - signed 32 (fld n.asym 0 32) - c

/-- A rate held within the limit. -/
def clampRate (r : Int) : Int := max (-rateLimit) (min rateLimit r)

/-- R358, R359: the step threshold in ns, and LOCK_NS. -/
def Ntc.threshold (n : Ntc) : Nat := fld n.servoCfg 1 16 * 1000

/-- R358: the servo uses an offset. Left open: DESIGN CHOICE, assumption log 14. -/
def Ntc.servoUse (n : Ntc) (off : Int) : Ntc :=
  let run := if off.natAbs ≤ fld n.servoCfg 17 12 then min (n.ptp.goodRun + 1) 4 else 0
  let n := if bit n.servoCfg 0 then
      { n with freq := clampRate (Config.servoRate n.ptp.servo off), ptp := { n.ptp with servo := Config.servoNext n.ptp.servo off } }
    else n
  { n with
    ptp := { n.ptp with goodRun := run, bigRun := 0 }
    clock := if run = 4 then .locked else .free
    coarse := n.coarse && run ≠ 4 }

/-- R358, R359: the follower takes an offset. Left open: DESIGN CHOICE, assumption log 14. -/
def State.takeOffset (s : State) (off : Int) : State :=
  let fresh := s.ntc.ptp.newMaster
  let s := s.modNtc (fun n => { n with offset := off, ptp := { n.ptp with newMaster := false } })
  let s := if fresh then s.timeStep 3 off else s
  if s.ntc.threshold < off.natAbs then
    let k := min (s.ntc.ptp.bigRun + 1) 3
    let s := s.modNtc (fun n => { n with
      ptp := { n.ptp with bigRun := k, goodRun := 0 }
      clock := if n.clock = .locked then .free else n.clock
      slew := if 2 ≤ k && bit n.servoCfg 0 then -off * nsUnit else n.slew })
    if k = 2 then (s.modNtc (fun n => { n with flags := raiseFlag n.flags 0 })).timeStep 2 off else s
  else s.modNtc (fun n => n.servoUse off)

/-- R357: a Delay_Req after a Sync, no more often than every 2^LOG_DELAY s. -/
def State.askDelay (s : State) : State :=
  let due := match s.ntc.ptp.delayAt with
    | some t => decide (ticksPow (signed 4 (fld s.ntc.ptpCfg 17 4)) ≤ s.age t)
    | none => true
  if due then
    let s := s.queueFrame (ptpFrame .delayReq s.ntc.delayReqMsg)
    s.modNtc (fun n => { n with ptp := { n.ptp with delayAt := some s.aon.tick } })
  else s

/-- R358, R359: a Follow_Up completes a Sync; the follower computes the offset and may ask for the delay. -/
def State.hearFollowUp (s : State) (m : PtpMsg) : State :=
  match s.ntc.ptp.sync with
  | some y =>
    if s.ntc.hears m && s.ntc.role = 1 && s.ntc.ptp.master = some m.src && y.seqId = m.seqId then
      let s := s.modNtc (fun n => { n with ptp := { n.ptp with sync := none }, counts1 := bump n.counts1 0 })
      let s := match s.ntc.ptp.pair with
        | some p => s.takeOffset (s.ntc.offsetOf y m p)
        | none => s
      s.askDelay
    else s.modNtc Ntc.ignorePtp
  | none => s.modNtc Ntc.ignorePtp

/-- R357: the master answers every Delay_Req of its domain. -/
def State.hearDelayReq (s : State) (m : PtpMsg) (t4 : Int) : State :=
  if s.ntc.hears m && s.ntc.role = 2 then s.queueFrame (ptpFrame .ptp (s.ntc.delayResp m t4)) else s.modNtc Ntc.ignorePtp

/-- R358: a Delay_Resp from the master held completes a pair t3, t4. -/
def Ntc.hearDelayResp (n : Ntc) (m : PtpMsg) : Ntc :=
  match n.ptp.delayReq with
  | some (seq, t3) =>
    if n.hears m && n.role = 1 && n.ptp.master = some m.src && m.req = ownPort && m.seqId = seq then
      { n with ptp := { n.ptp with pair := some (m.time - t3, m.corr), delayReq := none } }
    else n.ignorePtp
  | none => n.ignorePtp

/-- R357: the master's Sync interval expires. -/
def State.sendSync (s : State) : State :=
  if s.ntc.link && s.ntc.role = 2 then s.queueFrame (ptpFrame .sync s.ntc.syncMsg) else s

/-- R357: the master's announce interval expires. -/
def State.sendAnnounce (s : State) : State :=
  if s.ntc.link && s.ntc.role = 2 then
    (s.queueFrame (ptpFrame .ptp s.ntc.announce)).modNtc (fun n => { n with ptp := { n.ptp with annSeq := n.ptp.annSeq + 1 } })
  else s

/-- R357: three announce intervals pass without an Announce of the master held. Left open: DESIGN CHOICE, assumption log 14. -/
def State.announceTimeout (s : State) : State :=
  if s.ntc.ptp.master.isSome && 3 * ticksPow (signed 4 (fld s.ntc.ptpCfg 13 4)) ≤ s.age s.ntc.ptp.announced then
    s.modNtc (fun n => { n with ptp := n.ptp.lose, clock := .free, flags := raiseFlag n.flags 1 })
  else s

/-- R357, R358: what the departure of a PTP event message at `t` brings: a Follow_Up, or t3. -/
def State.ptpSent (s : State) (kind : TxKind) (t : Int) : State :=
  match kind with
  | .sync =>
    (s.queueFrame (ptpFrame .ptp (s.ntc.followUp s.ntc.ptp.syncSeq t))).modNtc (fun n => { n with ptp := { n.ptp with syncSeq := n.ptp.syncSeq + 1 } })
  | .delayReq =>
    s.modNtc (fun n => { n with ptp := { n.ptp with delayReq := some (n.ptp.delaySeq, t), delaySeq := n.ptp.delaySeq + 1 } })
  | _ => s

/-! ## Captures (R368) -/

/-- R368: an edge on CAP0 or CAP1. -/
def State.captureEdge (s : State) (input : Fin 2) (rising : Bool) : State :=
  let sel := fld s.ntc.capCfg (2 * input.val) 2
  if s.pwr.state = .off || !(sel = 3 || sel = (if rising then 1 else 2)) then s
  else if (s.ntc.cap[input]).length < 4 then
    let e : Capture :=
      { ns := s.ntc.ns, rising := rising, coarse := decide (s.pwr.state = .sleep) || decide (s.pwr.state = .deep), step := s.ntc.stepCount }
    s.modNtc (fun n => { n with cap := n.cap.set input (n.cap[input] ++ [e]) })
  else s.modNtc (fun n => { n with capOver := n.capOver.set input true, flags := raiseFlag n.flags 3 })

/-- R368, R492: one entry in the reply of NTC_CAPTURE_READ. -/
def Capture.octets (e : Capture) : Octets :=
  leOf 6 (e.ns / 1000000000) ++ o32 (e.ns % 1000000000) ++ o8 (b2n e.rising + 2 * b2n e.coarse + 4 * e.step)

/-- One input's part of the reply of NTC_CAPTURE_READ. -/
def Ntc.captureOctets (n : Ntc) (i : Fin 2) : Octets :=
  o8 (n.cap[i]).length ++ o8 (b2n n.capOver[i]) ++ ((n.cap[i]).map Capture.octets).flatten

/-- An input's queue and its overflow indication are read and removed. -/
def Ntc.captureTake (n : Ntc) (i : Fin 2) : Ntc := { n with cap := n.cap.set i [], capOver := n.capOver.set i false }

/-- NTC_CAPTURE_READ (R368). Left open: DESIGN CHOICE, assumption log 14. -/
def ntcCaptureRead (s : State) (_ : Fin 8) (c : Cmd) : State × Done :=
  if 3 < p8 c.p 0 then refuse s .badParam
  else
    let a := pBit c.p 0 0
    let b := pBit c.p 0 1
    let d := (if a then s.ntc.captureOctets 0 else []) ++ (if b then s.ntc.captureOctets 1 else [])
    okData (s.modNtc (fun n => let n := if a then n.captureTake 0 else n
                               if b then n.captureTake 1 else n)) d

/-! ## The calendar (R370 to R372) -/

/-- R370: whether `acc` makes a fraction step one tick longer or shorter: the ticks this step takes, and what remains. The trim is in
tenths of a millionth, so that 10,000,000 make one tick; the spec states no sign. -/
def fractionStep (acc : Int) : Nat × Int :=
  if 10000000 ≤ acc then (if Config.trimShortens then 127 else 129, acc - 10000000)
  else if acc ≤ -10000000 then (if Config.trimShortens then 129 else 127, acc + 10000000)
  else (128, acc)

/-- R370: one always-on tick of the calendar. `calPhase` counts down to the end of the fraction step. -/
def Aon.calTick (a : Aon) (trim : Int) : Aon :=
  if 1 < a.calPhase then { a with calPhase := a.calPhase - 1 }
  else
    let (k, r) := fractionStep (a.trimAcc + trim * 128)
    { a with calendar := if a.calendar = BitVec.allOnes 40 then a.calendar else a.calendar + 1, calPhase := k, trimAcc := r }

/-- R372: a live attestation nonce's remaining life in seconds; 300 s from its draw, counted in ticks. -/
def State.nonceLife (s : State) : Option Nat :=
  match s.aon.nonceAt with
  | some t => if s.age t < ticksOf 300 then some ((ticksOf 300 - s.age t + 32767) / 32768) else none
  | none => none

/-- NTC_CALENDAR_READ (R372). -/
def ntcCalendarRead (s : State) (_ : Fin 8) (_ : Cmd) : State × Done :=
  let reply (s : State) (live : Option Nat) : State × Done :=
    okData s (wordOctets s.aon.calendar ++ o8 (b2n s.aon.uncertain + 2 * b2n live.isSome) ++ wordOctets s.aon.lastAttest
      ++ leOf 8 (if live.isSome then s.aon.nonce.toNat else 0) ++ o16 (live.getD 0))
  if s.cph.drbg = .error then reply s none
  else match s.nonceLife with
    | some l => reply s (some l)
    | none =>
      if s.drbgBlocked.isSome then reply s none
      else
        let v := s.random
        let s := s.useRandom
        reply { s with aon := { s.aon with nonce := v, nonceAt := some s.aon.tick } } (some 300)

/-- R372: the nonce's life ends. -/
def State.nonceExpiry (s : State) : State :=
  if s.aon.nonceAt.isSome && s.nonceLife.isNone then { s with aon := { s.aon with nonceAt := none } } else s

/-! ## NTC_ registers (R376) -/

/-- NTC_TRIGn. -/
def TrigSlot.word (t : TrigSlot) : Word :=
  flag 0 t.armed ||| put 1 4 t.target ||| flag 5 (t.period ≠ 0) ||| flag 6 t.late ||| put 7 16 t.fires ||| put 23 16 t.missed

/-- NTC_STATUS. -/
def State.ntcStatus (s : State) : Word :=
  flag 0 s.ntc.link ||| flag 1 (s.ntc.link && bit s.ntc.netCfg 0) ||| put 2 2 s.ntc.clock.code ||| flag 4 s.ntc.coarse
    ||| flag 5 s.ntc.ptp.master.isSome ||| flag 6 (s.ntc.slew ≠ 0) ||| flag 7 s.aon.uncertain ||| put 8 4 s.ntc.stepCount
    ||| put 12 4 s.ntc.cap[0].length ||| put 16 4 s.ntc.cap[1].length

/-- The NTC_ registers, by offset in page 0x0B00; `snap` is the seconds of the read's own point in a SYS_SNAPSHOT (R477). -/
def ntcReg (s : State) (r : Nat) (snap : Bool) : Option Word :=
  let n := s.ntc
  let sec := if snap then n.sec else n.latchSec
  match r with
  | 0 => some s.ntcStatus
  | 1 => some n.flags
  | 2 => some n.netCfg
  | 3 => some n.ptpCfg
  | 4 => some n.servoCfg
  | 5 => some n.asym
  | 6 => some (put 0 30 n.sub)
  | 7 => some (put 0 40 sec)
  | 8 => some (put 0 8 (sec / 2 ^ 40))
  | 9 => some (put 0 40 (twos 40 n.offset))
  | 10 => some (put 0 32 (twos 32 n.rate))
  | 11 => some n.counts0
  | 12 => some n.counts1
  | 0x10 => some s.aon.calendar
  | 0x11 => some n.calCfg
  | 0x12 => some n.capCfg
  | _ => if 0x20 ≤ r && r < 0x30 then some (n.trig[Fin.ofNat 16 r]).word else none

end Sys2Proof.Machine
end

