-- ==== Sys2Proof/Machine/Cipher.lean ====
section
/-!
DEFINITION. The cipher tract: key slots, contexts, the modes of CPH_RUN, the DRBG, and the bodies of the CPH_ commands
(spec/10_cipher_tract.md, R490, R491).
-/
namespace Sys2Proof.Machine

open Sys2Proof

/-! ## Slots (R318 to R326) -/

/-- R318: the STATE code. -/
def SlotState.code : SlotState → Nat
  | .empty => 0 | .written => 1 | .erased => 2 | .lost => 3

/-- R318: the tag word of a slot. -/
def Slot.tag (k : Slot) : Word :=
  put 0 3 k.usage ||| put 3 1 k.size ||| put 4 2 k.fchk ||| put 6 1 k.cls ||| put 7 1 k.persist ||| put 8 2 k.st.code ||| put 10 16 k.gen

/-- R323, R324: the generation after one more write: modulo 65,536, with 0 skipped. -/
def nextGen (g : Nat) : Nat := if (g + 1) % 65536 = 0 then 1 else (g + 1) % 65536

/-- R324: the slot as the writes already accepted will leave it. -/
def State.slotAhead (s : State) (n : Nat) : Slot :=
  ((s.cph.pend.filter (fun k => k.slot = n)).getLast?.map (·.val)).getD (s.slot n)

/-- Replaces a slot at once. -/
def State.putSlot (s : State) (n : Nat) (k : Slot) : State :=
  let s := if 1 ≤ n && n ≤ 14 then s.critWritten (n + 19) 1 else s
  { s with cph := { s.cph with slots := s.cph.slots.setIfInBounds n k } }

/-- R423: a slot with the fields of a tag word. -/
def Slot.withTag (k : Slot) (t : Word) : Slot :=
  { k with
    usage := fld t 0 3, size := fld t 3 1, fchk := fld t 4 2, cls := fld t 6 1, persist := fld t 7 1
    st := match fld t 8 2 with | 0 => .empty | 1 => .written | 2 => .erased | _ => .lost
    gen := fld t 10 16 }

/-- R443: the store address of a slot's record. -/
def keyAddr (n : Nat) : Nat := (1024 + n / 8) * 128 + 16 * (n % 8)

/-- R324, R326, R327: the 16 words of a slot's record: its tag, its check value, and for a PERSIST key the key, padded to 32 octets and
wrapped under the device-unique key (layout: the model's; the region cannot be read). Left open: DESIGN CHOICE, assumption log 9. -/
def Slot.record (k : Slot) : List Word :=
  let body := if k.persist = 1 && k.st = .written then
      wordsOf (kwWrap deviceKeyOctets (k.key ++ List.replicate (32 - k.key.length) 0)) 8
    else List.replicate 8 0
  [k.tag, BitVec.ofNat 40 k.kcv] ++ body ++ List.replicate 6 0

/-- R321: the usage a reserved slot must have; `none` for slots free for use. -/
def reservedUsage (n : Nat) : Option Nat :=
  if 1 ≤ n ∧ n ≤ 6 then some 3 else if n = 7 then some 5 else if n = 8 then some 4 else if n = 9 then some 3
  else if 10 ≤ n ∧ n ≤ 13 then some 6 else if n = 14 then some 3 else none

/-- R318, R322: whether the CLASS of a slot forbids a role to rewrite or erase it. -/
def Slot.forbids (k : Slot) (r : Role) : Bool :=
  decide (k.st ≠ .empty) && decide (k.cls = 0) && decide (r = .service)

/-- R313, R320 to R322: whether the attributes of a write or derivation are refused with BAD_PARAM. Left open: DESIGN CHOICE, assumption log 13. -/
def badAttributes (slot usage size fchk cls persist flags : Nat) : Bool :=
  slot = 15 || usage = 0 || 6 < usage || 1 < size || 2 < fchk || 1 < cls || 1 < persist || 1 < flags ||
  (match reservedUsage slot with | some u => decide (usage ≠ u) | none => decide (usage = 6)) ||
  (10 ≤ slot && slot ≤ 13 && size ≠ 0) ||
  (4 ≤ usage && fchk = 0)

/-- R321: reserved slots 1 to 14 always have CLASS FLEET and PERSIST 1. -/
def isReservedSlot (n : Nat) : Bool := 1 ≤ n && n ≤ 14

/-- R324: a key is written: its record goes to the store, the slot changes when the record is sealed, and the reply follows. -/
def State.writeKey (s : State) (slot usage size fchk cls persist : Nat) (key : Octets) : State × Done :=
  let k : Slot :=
    { usage := usage, size := size, fchk := fchk
      cls := if isReservedSlot slot then 0 else cls
      persist := if isReservedSlot slot then 1 else persist
      st := .written, gen := nextGen (s.slotAhead slot).gen, key := key, kcv := kcvOf key }
  let s := s.storeWords (keyAddr slot) k.record
  let p : KeyPend := { slot := slot, ticket := s.nvm.ticket, val := k }
  let s := { s with cph := { s.cph with pend := s.cph.pend ++ [p] } }
  sealThen s (o16 k.gen ++ leOf 3 k.kcv)

/-- The status a key that cannot be used gives, from its slot's state (R549). -/
def SlotState.refusal : SlotState → Status
  | .empty => .keyEmpty
  | _ => .keyErased

/-- R322: the refusals that CPH_KEY_WRITE and CPH_KEY_DERIVE share for the slot they write. Left open: DESIGN CHOICE, assumption log 13. -/
def State.keyRefusal (s : State) (c : Cmd) (slot usage size fchk cls persist flags expect : Nat) : Option Status :=
  if (s.slotAhead slot).forbids c.role then some .notPermitted
  else if slot = 0 then some .notPermitted
  else if badAttributes slot usage size fchk cls persist flags then some .badParam
  else if flags = 1 && expect ≠ (s.slot slot).gen then some .badParam
  else if s.quarantined then some .cipherQuarantine
  else none

/-- R323: the attribute block of a wrapped key. -/
def attrBlock (slot usage size fchk cls persist : Nat) : Octets :=
  [BitVec.ofNat 8 slot, BitVec.ofNat 8 usage, BitVec.ofNat 8 size, BitVec.ofNat 8 fchk, BitVec.ofNat 8 cls, BitVec.ofNat 8 persist, 0, 0]

/-- CPH_KEY_WRITE (R322 to R324). Left open: DESIGN CHOICE, assumption log 13. -/
def cphKeyWrite (s : State) (_ : Fin 8) (c : Cmd) : State × Done :=
  let slot := p8 c.p 0
  let form := p8 c.p 1
  let usage := p8 c.p 2
  let size := p8 c.p 3
  let fchk := p8 c.p 4
  let cls := p8 c.p 5
  let persist := p8 c.p 6
  let flags := p8 c.p 7
  let mat := c.p.drop 10
  if form = 0 && !(c.port = .spiA || c.port = .spiB) then refuse s .notPermitted
  else match s.keyRefusal c slot usage size fchk cls persist flags (p16 c.p 8) with
    | some st => refuse s st
    | none =>
      if 1 < form then refuse s .badParam
      else if form = 0 then s.writeKey slot usage size fchk cls persist mat
      else if s.cph.katModes.getLsbD 2 then refuse s .selfTestFail
      else match s.latch 7 with
        | .key kek =>
          match kwUnwrap kek mat with
          | none => refuse s .authFail
          | some m =>
            if m.take 8 = attrBlock slot usage size fchk cls persist then s.writeKey slot usage size fchk cls persist (m.drop 8)
            else refuse s .badParam
        | l => refuse (s.afterLatch 7) l.status

/-- R325: one block of the SP 800-108 counter-mode derivation. -/
def kdfBlock (key label context : Octets) (i l : Nat) : Octets :=
  cmac key ([BitVec.ofNat 8 i] ++ label ++ [0] ++ context ++ octs (beOf 2 l))

/-- R325: the derived key of 128 or 256 bits. Left open: PRESUMED, assumption log 12. -/
def kdf (key label context : Octets) (size : Nat) : Octets :=
  if size = 0 then kdfBlock key label context 1 128
  else kdfBlock key label context 1 256 ++ kdfBlock key label context 2 256

/-- CPH_KEY_DERIVE (R322, R324, R325). -/
def cphKeyDerive (s : State) (_ : Fin 8) (c : Cmd) : State × Done :=
  let src := p8 c.p 0
  let slot := p8 c.p 1
  let usage := p8 c.p 2
  let size := p8 c.p 3
  let fchk := p8 c.p 4
  let cls := p8 c.p 5
  let persist := p8 c.p 6
  let flags := p8 c.p 7
  let ll := p8 c.p 10
  let cl := p8 c.p 11
  match s.keyRefusal c slot usage size fchk cls persist flags (p16 c.p 8) with
  | some st => refuse s st
  | none =>
    if ll = 0 || 32 < ll || 32 < cl then refuse s .badParam
    else if s.cph.katModes.getLsbD 0 then refuse s .selfTestFail
    else match s.latch src with
      | .key k =>
        if (s.slot src).usage ≠ 4 then refuse s .badParam
        else s.writeKey slot usage size fchk cls persist (kdf k (pRun c.p 12 ll) (pRun c.p (12 + ll) cl) size)
      | l => refuse (s.afterLatch src) l.status

/-- R326: a slot is erased at once; writes of it that have not sealed are gone. -/
def State.eraseSlot (s : State) (n : Nat) : State :=
  let k : Slot := { (s.slotAhead n) with st := .erased, gen := nextGen (s.slotAhead n).gen, key := [], kcv := 0 }
  let s := { s with cph := { s.cph with pend := s.cph.pend.filter (fun x => x.slot ≠ n) } }
  ((s.putSlot n k).noteKey n true).storeWords (keyAddr n) k.record

/-- R336: a free context. -/
def CphCtx.freed (x : CphCtx) : CphCtx :=
  { x with inUse := false, chain := [], part := [], count := 0 }

/-- R335: every context is freed. -/
def State.freeContexts (s : State) : State :=
  { s with cph := { s.cph with ctxs := s.cph.ctxs.map CphCtx.freed } }

/-- R327: the records of eight slots, those of one page. -/
def pageRecords (slots : Vector Slot 256) (g : Nat) : List Word :=
  ((List.range 8).map (fun i => ((slots[8 * g + i]?).getD Slot.blank).record)).flatten

/-- R327: erase-all: slots 1 to 255 become EMPTY with their generation incremented, the contexts go, and CTX_EPOCH advances. -/
def State.eraseAll (s : State) : State :=
  let clear (i : Nat) (k : Slot) : Slot := if i = 0 then k else { Slot.blank with gen := nextGen k.gen }
  let slots := s.cph.slots.mapIdx clear
  let s := { (s.critWritten 20 14) with cph := { s.cph with slots := slots, pend := [] } }
  let s := (List.range 32).foldl (fun s g => s.storeWords ((1024 + g) * 128) (pageRecords slots g)) s
  ((span 1 255).foldl (fun s n => s.noteKey n true) s.freeContexts).startTally 2 .ctxEpoch

/-- CPH_KEY_ERASE (R326, R327). -/
def cphKeyErase (s : State) (_ : Fin 8) (c : Cmd) : State × Done :=
  let slot := p8 c.p 0
  let flags := p8 c.p 1
  if 1 < flags then refuse s .badParam
  else if flags = 1 then
    if c.role ≠ .fleet then refuse s .notPermitted else sealThen s.eraseAll [0, 0]
  else if slot = 0 || slot = 15 then refuse s .badParam
  else if (s.slotAhead slot).forbids c.role then refuse s .notPermitted
  else
    let s := s.eraseSlot slot
    sealThen s (o16 (s.slot slot).gen)

/-- R336: CTX_EPOCH. -/
def State.ctxEpoch (s : State) : Nat := s.nvm.tally 2

/-- R336: slot 0 is recomputed from CTX_EPOCH. -/
def State.renewSlot0 (s : State) : State := s.putSlot 0 (Slot.wrapping s.ctxEpoch (nextGen (s.slot 0).gen))

/-- CPH_KEY_INFO (R318, R329). -/
def cphKeyInfo (s : State) (_ : Fin 8) (c : Cmd) : State × Done :=
  let first := p8 c.p 0
  let n := p8 c.p 1
  if n = 0 || 32 < n || 256 < first + n then refuse s .badParam
  else okData s (((span first n).map (fun i => wordOctets (s.slot i).tag ++ wordOctets (BitVec.ofNat 40 (s.slot i).kcv))).flatten)

/-! ## The modes (SP 800-38A, R330 to R332) -/

/-- CBC encryption: output and the next chaining value. -/
def cbcEnc (ks : List (List Nat)) : List Nat → List (List Nat) → List Nat × List Nat
  | iv, [] => ([], iv)
  | iv, b :: bs =>
    let y := aesEncN ks (xorN iv b)
    let (o, v) := cbcEnc ks y bs
    (y ++ o, v)

/-- CBC decryption. -/
def cbcDec (ks : List (List Nat)) : List Nat → List (List Nat) → List Nat × List Nat
  | iv, [] => ([], iv)
  | iv, b :: bs =>
    let (o, v) := cbcDec ks b bs
    (xorN iv (aesDecN ks b) ++ o, v)

/-- CFB-128, either direction; a short last block ends the stream. -/
def cfbRun (ks : List (List Nat)) (enc : Bool) : List Nat → List (List Nat) → List Nat × List Nat
  | iv, [] => ([], iv)
  | iv, b :: bs =>
    let y := xorN b (aesEncN ks iv)
    let (o, v) := cfbRun ks enc (if enc then y else b) bs
    (y ++ o, v)

/-- OFB. -/
def ofbRun (ks : List (List Nat)) : List Nat → List (List Nat) → List Nat × List Nat
  | iv, [] => ([], iv)
  | iv, b :: bs =>
    let k := aesEncN ks iv
    let (o, v) := ofbRun ks k bs
    (xorN b k ++ o, v)

/-- R332: the counter block `i` blocks after a starting block, its rightmost `w` bits counting. -/
def ctrBlock (w : Nat) (start : List Nat) (i : Nat) : List Nat :=
  let v := beNum start
  beOf 16 (v / 2 ^ w * 2 ^ w + (v % 2 ^ w + i) % 2 ^ w)

/-- R330: the counter width of a WIDTH code. -/
def widthBits : Nat → Nat
  | 0 => 32
  | 1 => 64
  | _ => 128

/-- R332: whether `b` further blocks would pass the last counter value, after `used` blocks. -/
def ctrExhausted (w : Nat) (start : List Nat) (used b : Nat) : Bool :=
  decide (2 ^ w < beNum start % 2 ^ w + used + b)

/-! ## CPH_RUN (R330 to R335, R491) -/

/-- The parameters of CPH_RUN, laid out under R491. -/
structure RunArgs where
  ctx   : Nat
  slot  : Nat
  mode  : Nat
  op    : Nat
  init  : Bool
  final : Bool
  drbg  : Bool
  flags : Nat
  width : Nat
  tagLen : Nat
  ivLen : Nat
  aadLen : Nat
  iv    : Octets
  aad   : Octets
  data  : Octets
  deriving DecidableEq, Repr

/-- R491: reads the parameters; a single-shot operation implies INIT and FINAL. -/
def runArgs (p : Octets) : RunArgs :=
  let single := p8 p 0 = 0xFF
  let drbg := pBit p 4 2
  let ivl := if drbg then 0 else p8 p 7
  { ctx := p8 p 0, slot := p8 p 1, mode := p8 p 2, op := p8 p 3,
    init := pBit p 4 0 || single, final := pBit p 4 1 || single, drbg := drbg, flags := p8 p 4,
    width := p8 p 5, tagLen := p8 p 6, ivLen := p8 p 7, aadLen := p16 p 8,
    iv := pRun p 12 ivl, aad := pRun p (12 + ivl) (p16 p 8), data := pRun p (12 + ivl + p16 p 8) (p16 p 10) }

/-- R330: whether MODE and OP go together. -/
def modeOpOk (mode op : Nat) : Bool :=
  (mode ≤ 3 && op ≤ 1) || (mode = 4 && (op = 2 || op = 3)) || (mode = 5 && (op = 4 || op = 5))

/-- R320: the usage that an OP needs. -/
def usageOf (op : Nat) : Nat := if op = 0 ∨ op = 4 then 1 else if op = 1 ∨ op = 5 then 2 else 3

/-- R320, R330, R333, R491: the parameters that return BAD_PARAM, apart from the slot's usage. Left open: DESIGN CHOICE, assumption log 13. -/
def RunArgs.bad (a : RunArgs) : Bool :=
  (63 < a.ctx && a.ctx ≠ 0xFF) || 7 < a.flags || !modeOpOk a.mode a.op || (a.mode = 3 && 2 < a.width) ||
  (a.drbg && (!a.init || !(a.mode = 5 || (a.mode = 3 && a.width < 2)))) ||
  (a.mode = 5 && !(a.init && a.final)) || (a.mode ≠ 5 && a.aadLen ≠ 0)

/-- R330, R491: the lengths that return BAD_LENGTH. Left open: DESIGN CHOICE, assumption log 13. -/
def RunArgs.badLength (a : RunArgs) : Bool :=
  960 < a.aad.length + a.data.length ||
  (a.mode ≤ 3 && !(a.ivLen = 0 || a.ivLen = 16)) ||
  (a.mode ≤ 3 && a.init && !a.drbg && a.ivLen ≠ 16) ||
  (a.mode = 4 && a.ivLen ≠ 0) ||
  (a.mode = 0 && a.data.length % 16 ≠ 0) ||
  (1 ≤ a.mode && a.mode ≤ 3 && !a.final && a.data.length % 16 ≠ 0) ||
  (a.mode = 4 && (a.tagLen < 8 || 16 < a.tagLen)) ||
  (a.mode = 4 && a.op = 3 && a.final && a.data.length < a.tagLen) ||
  (a.mode = 5 && (a.ivLen < 7 || 13 < a.ivLen || a.tagLen < 4 || 16 < a.tagLen || a.tagLen % 2 ≠ 0)) ||
  (a.mode = 5 && a.op = 5 && a.data.length < a.tagLen)

/-- `n` octets of DRBG output, in one generate request. -/
def State.randomOctets (s : State) (n : Nat) : Octets :=
  (((List.range ((n + 7) / 8)).map (fun i => leOf 8 (Config.drbg (s.free + i)).toNat)).flatten).take n

/-- R341: the draws of one generate request of `n` octets are used up. -/
def State.useRandomN (s : State) (n : Nat) : State :=
  let t := s.useRandom
  { t with free := s.free + (n + 7) / 8 }

/-- What one chunk comes to: a failure that keeps the context, or the output and the context's next chaining value, partial block and count. -/
inductive Chunk where
  | fail (st : Status)
  | out (o : Octets) (chain part : Octets) (count : Nat)
  deriving DecidableEq, Repr

/-- CMAC over a chunk: what has been chained so far, and the octets held back for the last block. -/
def cmacChunk (ks : List (List Nat)) (chain part m : List Nat) : List Nat × List Nat :=
  let all := part ++ m
  let n := cmacBody all.length
  (cbcMac ks chain (chunks 16 all.length (all.take n)), all.drop n)

/-- R330 to R332: the work of one chunk under a key, from a chaining value, a partial block and a count. -/
def runChunk (key : Octets) (a : RunArgs) (chain part : Octets) (count : Nat) : Chunk :=
  let ks := aesKeys (nums key)
  let d := nums a.data
  let blks := chunks 16 d.length d
  let c := nums chain
  match a.mode with
  | 0 =>
    let (o, v) := if a.op = 0 then cbcEnc ks c blks else cbcDec ks c blks
    .out (octs o) (octs v) [] (count + d.length)
  | 1 =>
    let (o, v) := cfbRun ks (a.op = 0) c blks
    .out (octs o) (octs v) [] (count + d.length)
  | 2 =>
    let (o, v) := ofbRun ks c blks
    .out (octs o) (octs v) [] (count + d.length)
  | 3 =>
    let w := widthBits a.width
    if ctrExhausted w c count blks.length then .fail .nonceExhausted
    else .out (octs (ctrXor ks (ctrBlock w c) count blks)) chain [] (count + blks.length)
  | 4 =>
    let m := if a.op = 3 && a.final then d.take (d.length - a.tagLen) else d
    let (v, held) := cmacChunk ks c (nums part) m
    if a.final then
      let tag := (aesEncN ks (xorN v (cmacLast ks held))).take a.tagLen
      if a.op = 2 then .out (octs tag) [] [] (count + m.length)
      else if tag = d.drop (d.length - a.tagLen) then .out [] [] [] (count + m.length)
      else .fail .authFail
    else .out [] (octs v) (octs held) (count + m.length)
  | _ =>
    if a.op = 4 then .out (ccmSeal key a.iv a.aad a.data a.tagLen) [] [] 0
    else
      let n := a.data.length - a.tagLen
      match ccmOpen key a.iv a.aad (a.data.take n) (a.data.drop n) with
      | some m => .out m [] [] 0
      | none => .fail .authFail

/-- R491: the result data. -/
def runData (iv out : Octets) : Octets := o8 iv.length ++ o16 out.length ++ iv ++ out

/-- A context by number. -/
def State.cctx (s : State) (i : Nat) : CphCtx :=
  (s.cph.ctxs[i]?).getD { inUse := false, owner := 0, mode := 0, op := 0, width := 0, slot := 0, gen := 0, chain := [], part := [], count := 0, cgen := 0 }

/-- Replaces a context. -/
def State.putCctx (s : State) (i : Nat) (x : CphCtx) : State :=
  { s with cph := { s.cph with ctxs := s.cph.ctxs.setIfInBounds i x } }

/-- R333: the drawn starting value: the nonce of CCM, or the bits to the left of the counter with the counter 0. -/
def State.drawnIv (s : State) (a : RunArgs) : Octets :=
  if a.mode = 5 then s.randomOctets a.ivLen
  else
    let n := 16 - widthBits a.width / 8
    s.randomOctets n ++ List.replicate (16 - n) 0

/-- R335: an operation reported KEY_STALE: flag and count. -/
def State.noteStale (s : State) : State :=
  { s with cph := { s.cph with flags := raiseFlag s.cph.flags 7, counts1 := bump s.cph.counts1 0 } }

/-- The chunk runs under a latched key, and its context, if it has one, advances, is freed by FINAL, or keeps its state.
Left open: DESIGN CHOICE, assumption log 13. -/
def State.runWith (s : State) (n : Fin 8) (obs : Obs) (a : RunArgs) (key iv : Octets) (x : CphCtx) : State × Done :=
  let a := { a with iv := iv }
  let start := if a.init then (iv, ([] : Octets), 0) else (x.chain, x.part, x.count)
  let start := if a.init && a.mode = 4 then (octs zeroBlock, [], 0) else start
  match runChunk key a start.1 start.2.1 start.2.2 with
  | .fail .nonceExhausted => refuse { s with cph := { s.cph with flags := raiseFlag s.cph.flags 6 } } .nonceExhausted
  | .fail st => refuse s st
  | .out o chain part count =>
    if obs = .glitch && (s.slot a.slot).fchk ≠ 0 then refuse s.cipherFault .faultDetected
    else
      let s := if a.drbg then s.useRandomN (if a.mode = 5 then a.ivLen else 16 - widthBits a.width / 8) else s
      let drawn := if a.drbg then (if a.mode = 5 then iv else iv.take (16 - widthBits a.width / 8)) else []
      let y : CphCtx :=
        { x with inUse := true, owner := n, mode := a.mode, op := a.op, width := a.width, slot := a.slot,
                 gen := (s.slot a.slot).gen, chain := chain, part := part, count := count }
      let s := if a.ctx = 0xFF then s
        else if a.final then s.putCctx a.ctx x.freed
        else s.putCctx a.ctx y
      okData s (runData drawn o)

/-- CPH_RUN (R320, R328, R330 to R335, R343, R344, R491). -/
def cphRun (s : State) (n : Fin 8) (c : Cmd) : State × Done :=
  let a := runArgs c.p
  let x := s.cctx a.ctx
  let k := s.slot a.slot
  if a.bad then refuse s .badParam
  else if a.ctx ≠ 0xFF && x.inUse && x.owner ≠ n then refuse s .notPermitted
  else if a.ctx ≠ 0xFF && !a.init && !x.inUse then refuse s .wrongState
  else if !a.init && (x.mode ≠ a.mode || x.op ≠ a.op || x.slot ≠ a.slot || (a.mode = 3 && x.width ≠ a.width)) then refuse s .badParam
  else if !a.init && k.gen ≠ x.gen then
    let s := s.putCctx a.ctx x.freed
    if k.st = .written then refuse s.noteStale .keyStale else refuse s .keyErased
  else if a.badLength then refuse s .badLength
  else if (a.mode = 4 && s.cph.katModes.getLsbD 0) || (a.mode = 5 && s.cph.katModes.getLsbD 1) then refuse s .selfTestFail
  else match s.latch a.slot with
    | .key key =>
      if k.usage ≠ usageOf a.op then refuse s .badParam
      else if a.drbg then
        match s.drbgBlocked with
        | some st => refuse s st
        | none => s.runWith n c.obs a key (s.drawnIv a) x
      else s.runWith n c.obs a key a.iv x
    | l => refuse (s.afterLatch a.slot) l.status

/-! ## Saving and restoring contexts (R337 to R339) -/

/-- R338: the clear header of a wrapped context. -/
def wrapHeader (i gen epoch : Nat) : Octets := o8 i ++ [1] ++ o16 gen ++ leOf 3 epoch ++ [0]

/-- R338: the 56 octets of state in a wrapped context (layout: the model's). Left open: DESIGN CHOICE, assumption log 13. -/
def CphCtx.wrapState (x : CphCtx) : Octets :=
  let b := o8 x.mode ++ o8 x.op ++ o8 x.width ++ o8 x.slot ++ o16 x.gen ++ leOf 5 x.count ++ o8 x.part.length
    ++ x.chain ++ List.replicate (16 - x.chain.length) 0 ++ x.part ++ List.replicate (16 - x.part.length) 0
  b ++ List.replicate (56 - b.length) 0

/-- The state that 56 octets restore; an empty chaining value is not distinguished from a zero one. -/
def CphCtx.unwrapState (o : Octets) (owner : Fin 8) (cgen : Nat) : CphCtx :=
  { inUse := true, owner := owner, mode := p8 o 0, op := p8 o 1, width := p8 o 2, slot := p8 o 3, gen := p16 o 4,
    count := pN o 6 5, part := pRun o 28 (p8 o 11), chain := pRun o 12 16, cgen := cgen }

/-- CPH_CTX_SAVE (R337, R338): COPY and EXPORT. Left open: DESIGN CHOICE, assumption log 13. -/
def cphCtxSave (s : State) (n : Fin 8) (c : Cmd) : State × Done :=
  let mode := p8 c.p 0
  let i := p8 c.p 1
  let d := p8 c.p 2
  let x := s.cctx i
  if 1 < mode || 63 < i then refuse s .badParam
  else if !x.inUse || x.owner ≠ n then refuse s .notPermitted
  else if mode = 0 then
    if 63 < d || !(x.mode = 4 || x.op = 1) then refuse s .badParam
    else if (s.cctx d).inUse then refuse s .busy
    else okDone (s.putCctx d { x with cgen := (s.cctx d).cgen })
  else if 0xFFFF ≤ x.cgen then refuse s .nonceExhausted
  else match s.latch 0 with
    | .key kek =>
      let g := x.cgen + 1
      let h := wrapHeader i g s.ctxEpoch
      okData (s.putCctx i { x.freed with cgen := g }) (h ++ kwWrap kek (h ++ x.wrapState))
    | l => refuse (s.afterLatch 0) l.status

/-- CPH_CTX_RESTORE (R339): its checks in order. Left open: DESIGN CHOICE, assumption log 13. -/
def cphCtxRestore (s : State) (n : Fin 8) (c : Cmd) : State × Done :=
  let i := p8 c.p 0
  let gen := p16 c.p 2
  let x := s.cctx i
  if p8 c.p 1 ≠ 1 || 63 < i || p8 c.p 7 ≠ 0 then refuse s .badParam
  else if p24 c.p 4 ≠ s.ctxEpoch then refuse s .contextStale
  else if gen ≠ x.cgen then refuse s .contextStale
  else if x.inUse then refuse s .busy
  else match s.latch 0 with
    | .key kek =>
      match kwUnwrap kek (c.p.drop 8) with
      | none => refuse s .authFail
      | some m =>
        if m.take 8 ≠ c.p.take 8 then refuse s .authFail
        else
          let y := CphCtx.unwrapState (m.drop 8) n ((x.cgen + 1) % 65536)
          let k := s.slot y.slot
          if k.st = .written && k.gen = y.gen then okData (s.putCctx i y) (o8 i ++ o16 y.cgen)
          else if k.st = .written then refuse s.noteStale .keyStale
          else refuse s .keyErased
    | l => refuse (s.afterLatch 0) l.status

/-! ## Random numbers (R340 to R343) -/

/-- R341: a reseed has completed. Left open: DESIGN CHOICE, assumption log 13. -/
def State.reseeded (s : State) : State :=
  { s with cph := { s.cph with requests := 0, reseedAt := s.aon.tick, restarts := 0, drbg := .ready } }

/-- CPH_RANDOM (R341). -/
def cphRandom (s : State) (_ : Fin 8) (c : Cmd) : State × Done :=
  let n := p16 c.p 0
  let f := p8 c.p 2
  if n = 0 || 1000 < n || 1 < f then refuse s .badParam
  else if s.cph.katModes.getLsbD 3 then refuse s .selfTestFail
  else match s.drbgBlocked with
    | some st => refuse s st
    | none =>
      let s := if f = 1 then s.reseeded else s
      okData (s.useRandomN n) (s.randomOctets n)

/-- R341: the request count or the age of the last reseed is reached, and a background reseed starts. -/
def State.reseedDue (s : State) : State :=
  if s.cph.drbg = .ready && (32768 ≤ s.cph.requests || ticksOf 600 ≤ s.age s.cph.reseedAt) then
    { s with cph := { s.cph with drbg := .reseeding } }
  else s

/-- R343: a health test fails (`apt` the adaptive proportion test); the third failed restart in a row puts the DRBG in ERROR. -/
def State.entropyFails (s : State) (apt : Bool) : State :=
  let k := s.cph.restarts + 1
  let s := { s with cph := { s.cph with counts2 := bump s.cph.counts2 (if apt then 16 else 0), restarts := k } }
  if 3 ≤ k then
    { s with cph := { s.cph with drbg := .error, entropyOk := false, flags := raiseFlag s.cph.flags 2, restarts := 0 } }
  else s

/-- R342, R343: a reseed ends, or its health tests fail. -/
def State.reseedDone (s : State) (ok apt : Bool) : State :=
  if s.cph.drbg = .reseeding then (if ok then s.reseeded else s.entropyFails apt) else s

/-- R316: the 32,768 ticks of quarantine have passed. -/
def State.quarantineEnd (s : State) : State :=
  match s.cph.quarantine with
  | some t => if 32768 ≤ s.age t then { s with cph := { s.cph with quarantine := none, faults := [] } } else s
  | none => s

/-! ## CPH_ registers (R347) -/

/-- R314: working engines stand in at least two strips. -/
def Cph.dupAvailable (c : Cph) : Bool :=
  2 ≤ ((List.range 4).filter (fun k => (List.range 4).any (fun j => !c.failed.getLsbD (4 * k + j)))).length

/-- A map register of 40 places: which of the slots from `lo` are WRITTEN, `n` of them. -/
def slotMap (s : State) (lo n : Nat) : Word :=
  (List.range n).foldl (fun w i => w ||| flag i (decide ((s.slot (lo + i)).st = .written))) 0

/-- The contexts in use from `lo`, `n` of them. -/
def ctxMap (s : State) (lo n : Nat) : Word :=
  (List.range n).foldl (fun w i => w ||| flag i (s.cctx (lo + i)).inUse) 0

/-- The code of CPH_STATUS.DRBG. -/
def DrbgState.code : DrbgState → Nat
  | .none => 0 | .ready => 1 | .reseeding => 2 | .error => 3

/-- R347: reads a register of the cipher block, by its offset in the page. -/
def cphReg (s : State) (o : Nat) : Option Word :=
  let c := s.cph
  match o with
  | 0x00 => some (flag 0 c.quarantine.isSome ||| put 1 2 c.drbg.code ||| flag 3 c.entropyOk ||| flag 4 c.katDone
              ||| put 5 3 c.faults.length ||| put 8 7 (c.ctxs.toList.countP (·.inUse))
              ||| put 15 9 (c.slots.toList.countP (fun k => decide (k.st = .written))) ||| flag 24 c.dupAvailable)
  | 0x01 => some c.flags
  | 0x02 => some (put 0 16 c.failed.toNat)
  | 0x03 => some (put 0 17 c.requests ||| put 17 20 (min (s.age c.reseedAt / 32768) (2 ^ 20 - 1)))
  | 0x04 => some (put 0 24 s.ctxEpoch)
  | 0x05 => some (ctxMap s 0 40)
  | 0x06 => some (ctxMap s 40 24)
  | 0x08 => some c.counts0
  | 0x09 => some c.counts1
  | 0x0A => some c.counts2
  | 0x10 => some (slotMap s 0 40)
  | 0x11 => some (slotMap s 40 40)
  | 0x12 => some (slotMap s 80 40)
  | 0x13 => some (slotMap s 120 40)
  | 0x14 => some (slotMap s 160 40)
  | 0x15 => some (slotMap s 200 40)
  | 0x16 => some (slotMap s 240 16)
  | _ => none

end Sys2Proof.Machine
end

