-- ==== Sys2Proof/Machine/Memory.lean ====
section
/-!
DEFINITION. Working memory: the merge buffer, the gleaner, scrubbing, retirement and the bodies of the MEM_ commands
(spec/14_memory_integrity.md, R494, R495). The critical words are in Sys2Proof/Machine/Critical.lean.
-/
namespace Sys2Proof.Machine

open Sys2Proof

/-! ## The merge buffer (R426, R427) -/

/-- The word that merging an entry's octets into a value gives. -/
def mergeInto (w : Word) (octs : List (Option Octet)) : Word :=
  wordOf ((List.range 5).map (fun i => ((octs.getD i none)).getD ((wordOctets w).getD i 0)))

/-- R426: whether an entry holds all five octets. -/
def MergeEnt.whole (e : MergeEnt) : Bool := e.octs.all Option.isSome && decide (e.octs.length = 5)

/-- R426: a read-modify-write of one entry; poison in the bank makes the result poison, and is counted. Answers whether it met poison. -/
def State.evict (s : State) (e : MergeEnt) : State × Bool :=
  if e.whole then ({ s with mem := s.mem.write e.addr (mergeInto 0 e.octs) }, false)
  else
    let s := { s with mem := { s.mem with counts2 := bump s.mem.counts2 0 } }
    let poisoned (s : State) : State × Bool :=
      ({ s with mem := { s.mem with counts2 := bump s.mem.counts2 16, flags := raiseFlag s.mem.flags 3 } }, true)
    match decode47 (s.mem.stored e.addr) with
    | .good w => ({ s with mem := s.mem.write e.addr (mergeInto w e.octs) }, false)
    | .corrected w =>
      let s := s.countCorrection 5 e.addr w true
      ({ s with mem := s.mem.write e.addr (mergeInto w e.octs) }, false)
    | .bad y => poisoned (s.poisonWord 6 5 e.addr y)
    | .poison => poisoned { s with mem := { s.mem with counts1 := bump s.mem.counts1 16 } }

/-- R426: evicts the entry of an address before a read or a whole-word write of it. -/
def State.flushAt (s : State) (a : Nat) : State :=
  match s.mem.merge.find? (fun e => e.addr = a) with
  | none => s
  | some e => (State.evict { s with mem := { s.mem with merge := s.mem.merge.filter (fun x => x.addr ≠ a) } } e).1

/-- R426: evicts the oldest entry. -/
def State.evictOldest (s : State) : State :=
  match s.mem.merge with
  | [] => s
  | e :: r => (State.evict { s with mem := { s.mem with merge := r } } e).1

/-- R426: one octet store at octet `j` of word `a`: into its entry, or a new one, which evicts the oldest of four. -/
def State.storeOctet (s : State) (a j : Nat) (v : Octet) : State :=
  let s := if s.mem.merge.any (fun e => e.addr = a) || s.mem.merge.length < 4 then s else s.evictOldest
  let old := (s.mem.merge.find? (fun e => e.addr = a)).getD { addr := a, octs := List.replicate 5 none }
  let e : MergeEnt := { old with octs := old.octs.set j (some v) }
  let rest := s.mem.merge.filter (fun x => x.addr ≠ a)
  if e.whole then { s with mem := ({ s.mem with merge := rest }).write a (mergeInto 0 e.octs) }
  else { s with mem := { s.mem with merge := rest ++ [e] } }

/-! ## Access to banks (R417, R433) -/

/-- Whether a physical bank of 16 to 23 serves as a replacement. Left open: DESIGN CHOICE, assumption log 6. -/
def Mem.isSpare (m : Mem) (b : Nat) : Bool := decide (16 ≤ b) && m.map.toList.contains b

/-- R417, R494: why a host may not reach `n` words at an address; `none` where it may. Left open: DESIGN CHOICE, assumption log 6. -/
def State.memRefusal (s : State) (a n : Nat) (write : Bool) : Option Status :=
  let b := a / 16384
  if 23 < b || (a + n - 1) / 16384 ≠ b then some .badParam
  else if b = 0 || (write && b < 16) then some .notPermitted
  else if 16 ≤ b && (s.mem.retired.getLsbD b || s.mem.isSpare b) then some .wrongState
  else none

/-- R416: whether the layout of a word belongs to the firmware, so that the spec gives a host no value for it.
Left open: DESIGN CHOICE, assumption log 6. -/
def firmwareWordAt (a : Nat) : Bool :=
  let b := a / 16384
  let o := a % 16384
  b = 1 || (b = 6 && o < 0x3000) || (b = 7 && 0x2800 ≤ o) || (8 ≤ b && b ≤ 15)

/-- MEM_READ reads one word: the merge buffer first, then the word with its checks; a firmware word is a free value. -/
def State.hostReadWord (s : State) (a : Nat) : State × Option Word :=
  let s := s.flushAt a
  let (s, w) := s.readWord 4 a
  match w with
  | none => (s, none)
  | some w => if firmwareWordAt a then (s.draw, some (Config.firmwareWord a s.free)) else (s, some w)

/-- MEM_READ over a range. -/
def State.hostReadWords (s : State) : Nat → Nat → State × List (Option Word)
  | _, 0 => (s, [])
  | a, n + 1 =>
    let (s, w) := s.hostReadWord a
    let (s, ws) := s.hostReadWords (a + 1) n
    (s, w :: ws)

/-- MEM_READ (R417, R494, R495). -/
def memRead (s : State) (_ : Fin 8) (c : Cmd) : State × Done :=
  let a := p24 c.p 0
  let n := p8 c.p 3
  if n = 0 || 200 < n then refuse s .badParam
  else match s.memRefusal a n false with
    | some st => refuse s st
    | none =>
      let (s, ws) := s.hostReadWords a n
      if ws.any Option.isNone then (s, .reply .poisoned (poisonData (ws.take 198)))
      else okData s ((ws.map (fun w => wordOctets (w.getD 0))).flatten)

/-- Whole-word writes by a host: the merge buffer's entry of the word goes first (R426). -/
def State.hostWriteWords (s : State) : Nat → List Word → State
  | _, [] => s
  | a, w :: ws =>
    let s := s.flushAt a
    State.hostWriteWords { s with mem := s.mem.write a w } (a + 1) ws

/-- Octet stores at consecutive octet addresses. -/
def State.storeOctets (s : State) : Nat → Octets → State
  | _, [] => s
  | o, v :: vs => (s.storeOctet (o / 5) (o % 5) v).storeOctets (o + 1) vs

/-- R426, R427: at the end of the command its entries are evicted; answers how many words met poison. -/
def State.evictRange (s : State) : List Nat → State × Nat
  | [] => (s, 0)
  | a :: r =>
    match s.mem.merge.find? (fun e => e.addr = a) with
    | none => s.evictRange r
    | some e =>
      let (s, bad) := State.evict { s with mem := { s.mem with merge := s.mem.merge.filter (fun x => x.addr ≠ a) } } e
      let (s, k) := s.evictRange r
      (s, k + b2n bad)

/-- MEM_WRITE (R417, R426, R427, R494): whole words, or octets through the merge buffer. -/
def memWrite (s : State) (_ : Fin 8) (c : Cmd) : State × Done :=
  let mode := p8 c.p 0
  let a := p24 c.p 1
  let n := p16 c.p 4
  let d := c.p.drop 6
  match mode with
  | 0 =>
    if n = 0 || 200 < n then refuse s .badParam
    else match s.memRefusal a n true with
      | some st => refuse s st
      | none => okDone (s.hostWriteWords a (wordsOf d n))
  | 1 =>
    if n = 0 || 1000 < n then refuse s .badParam
    else
      let first := a / 5
      let words := (a + n - 1) / 5 - first + 1
      match s.memRefusal first words true with
      | some st => refuse s st
      | none =>
        let s := s.storeOctets a (d.take n)
        let (s, bad) := s.evictRange (span first words)
        if bad = 0 then okDone s else (s, .reply .poisoned (o8 bad))
  | _ => refuse s .badParam

/-! ## The gleaner and MEM_SCRUB (R430, R431) -/

/-- One word read by the gleaner or by MEM_SCRUB, corrected and written back in one grant. -/
def State.gleanWord (s : State) (src a : Nat) : State :=
  (s.readWord src a false).1

/-- R430: the address after `a`, past the banks that are retired; `none` at the end of the last bank. -/
def Mem.skipRetired (m : Mem) (a : Nat) : Nat → Nat
  | 0 => a
  | fuel + 1 =>
    if a < 393216 && m.retired.getLsbD (m.phys a / 16384) then m.skipRetired ((a / 16384 + 1) * 16384) fuel else a

/-- R430: the gleaner reads, corrects and writes back its next word, in RUN, IDLE and SLEEP. -/
def State.gleanStep (s : State) : State :=
  if s.sys.faultBoot || s.pwr.state = .deep || s.pwr.state = .off then s
  else
    let a := s.mem.skipRetired s.mem.gleanNext 24
    let s := if a < 393216 then s.gleanWord 0 a else s
    let next := a + 1
    if next < 393216 then { s with mem := { s.mem with gleaning := true, gleanNext := next } }
    else { s with mem := { s.mem with gleaning := true, gleanNext := 0, passes := satSucc s.mem.passes (2 ^ 21 - 1) } }

/-- R431: the counts of a scrub. -/
structure ScrubSum where
  checked   : Nat
  corrected : Nat
  fresh     : Nat
  old       : Nat
  deriving DecidableEq, Repr

/-- R431: one pass over addresses, retired banks skipped. -/
def State.scrub (s : State) : List Nat → ScrubSum → State × ScrubSum
  | [], g => (s, g)
  | a :: r, g =>
    if s.mem.retired.getLsbD (s.mem.phys a / 16384) then s.scrub r g
    else
      let g := { g with checked := g.checked + 1 }
      let g := match decode47 (s.mem.stored a) with
        | .good _ => g
        | .corrected _ => { g with corrected := g.corrected + 1 }
        | .bad _ => { g with fresh := g.fresh + 1 }
        | .poison => { g with old := g.old + 1 }
      (s.gleanWord 1 a).scrub r g

/-- MEM_SCRUB (R431). TIME_US is a free value: the spec gives typical and greatest times only. -/
def memScrub (s : State) (_ : Fin 8) (c : Cmd) : State × Done :=
  let a := p24 c.p 0
  let n := p24 c.p 3
  if n = 0 || 393216 < a + n then refuse s .badParam
  else
    let (s, g) := s.scrub (span a n) { checked := 0, corrected := 0, fresh := 0, old := 0 }
    okData s.draw (leOf 3 g.checked ++ leOf 3 g.corrected ++ leOf 3 g.fresh ++ leOf 3 g.old ++ leOf 4 (Config.scrubTime s.free).toNat)

/-! ## The fault log (R437) -/

/-- R437: how many entries stand from a ring index to the newest. -/
def Mem.logFrom (m : Mem) (i : Nat) : Nat :=
  if m.logCount < 4096 then m.logCount - i
  else (m.logNext + 4096 - i - 1) % 4096 + 1

/-- MEM_FAULT_LOG_READ (R437): up to COUNT entries from an index, oldest first. -/
def memFaultLogRead (s : State) (_ : Fin 8) (c : Cmd) : State × Done :=
  let i := p16 c.p 0
  let n := p8 c.p 2
  if n = 0 || 100 < n || 4095 < i then refuse s .badParam
  else
    let k := min n (s.mem.logFrom i)
    if k = 0 then refuse s .blank
    else
      let ent (j : Nat) : Octets :=
        let a := 832 * 128 + 2 * ((i + j) % 4096)
        wordOctets ((s.nvm.work.get a).getD 0) ++ wordOctets ((s.nvm.work.get (a + 1)).getD 0)
      okData s (o8 k ++ ((List.range k).map ent).flatten)

/-! ## Retiring a bank (R433, R434) -/

/-- R433: the highest-numbered bank of 16 to 23 that is neither retired nor a replacement. -/
def Mem.spare? (m : Mem) : Option Nat :=
  [23, 22, 21, 20, 19, 18, 17, 16].find? (fun b => !m.retired.getLsbD b && !m.isSpare b)

/-- R434: one listed word of the old bank goes through the checker to the spare: `la` its logical address, `from_` and `to` the banks. -/
def State.copyWord (s : State) (la pa dest : Nat) : State :=
  let dst := dest * 16384 + pa % 16384
  let set (s : State) (b : BitVec 47) : State :=
    { s with mem := { s.mem with cells := alPut (s.mem.fillAt dst) dst b s.mem.cells } }
  match decode47 (alGet (s.mem.fillAt pa) s.mem.cells pa) with
  | .good w => set s (encode47 w)
  | .corrected w => set (s.countCorrection 2 la w true) (encode47 w)
  | .poison => set s poison47
  | .bad y => set (s.poisonWord 2 2 la y) poison47

/-- R434: copies a logical bank to a spare and switches the map. -/
def State.replaceBank (s : State) (b dest : Nat) : State :=
  let old := (s.mem.map[b]?).getD b
  let pas := (alPart (old * 16384) 16384 s.mem.cells).map (·.1)
  let fill := if s.mem.fill.getLsbD old then s.mem.fill ||| BitVec.ofNat 24 (2 ^ dest) else s.mem.fill &&& ~~~(BitVec.ofNat 24 (2 ^ dest))
  let s := { s with mem := { s.mem with cells := alCut (dest * 16384) 16384 s.mem.cells, fill := fill } }
  let s := pas.foldl (fun s pa => s.copyWord (b * 16384 + pa % 16384) pa dest) s
  { s with mem := { s.mem with
      map := s.mem.map.setIfInBounds b dest
      retired := s.mem.retired ||| BitVec.ofNat 24 (2 ^ old)
      cells := alCut (old * 16384) 16384 s.mem.cells } }

/-- R440: the two map registers. -/
def mapReg (m : Vector Nat 16) (k : Nat) : Word :=
  (List.range 8).foldl (fun w i => w ||| put (5 * i) 5 ((m[8 * k + i]?).getD 0)) 0

/-- R433: the retirement map is stored in the parameter pages. -/
def State.storeMap (s : State) : State :=
  let s := { (s.critWritten 42 1) with mem := { (s.critWritten 42 1).mem with storedRet := s.mem.retired, storedMap := s.mem.map } }
  s.storeWords (paramAddr 0x0D03) [put 0 24 s.mem.retired.toNat, mapReg s.mem.map 0, mapReg s.mem.map 1]

/-- MEM_RETIRE (R433, R434). -/
def memRetire (s : State) (_ : Fin 8) (c : Cmd) : State × Done :=
  let b := p8 c.p 0
  if b = 0 || 23 < b then refuse s .badParam
  else if b < 16 && (s.mem.map[b]?).getD b ≠ b then refuse s .wrongState
  else if s.mem.retired.getLsbD b then refuse s .wrongState
  else if b < 8 && c.role ≠ .fleet then refuse s .notPermitted
  else if b < 8 && s.pwr.entry.isSome then refuse s .busy
  else if b < 16 then
    match s.mem.spare? with
    | none => refuse s .busy
    | some dest =>
      let s := ((s.replaceBank b dest).storeMap).logFault 9 4 (b * 16384) 0
      sealThen s (o8 dest)
  else if s.mem.isSpare b then refuse s .wrongState
  else
    let s := { s with mem := { s.mem with
        retired := s.mem.retired ||| BitVec.ofNat 24 (2 ^ b)
        cells := alCut (b * 16384) 16384 s.mem.cells } }
    let d := o8 (Config.noSpare s.free).toNat
    let s := (s.draw.storeMap).logFault 9 4 (b * 16384) 0
    sealThen s d

/-! ## MEM_ registers (R440) -/

/-- R432: candidates of each bank from `lo`, `k` of them, three bits each. -/
def candReg (v : Vector Nat 24) (lo k : Nat) : Word :=
  (List.range k).foldl (fun w i => w ||| put (3 * i) 3 ((v[lo + i]?).getD 0)) 0

/-- R432: a bank with 4 or more candidates advises its retirement. -/
def Mem.retireAdvised (m : Mem) : Bool := m.cand.toList.any (fun k => decide (4 ≤ k))

/-- R440: reads a register of the memory block, by its offset in the page. -/
def memReg (s : State) (o : Nat) : Option Word :=
  let m := s.mem
  match o with
  | 0x00 => some (flag 0 m.gleaning ||| put 3 6 m.tally.length ||| put 9 6 (m.tally.countP (·.hard)) ||| flag 15 m.retireAdvised)
  | 0x01 => some m.flags
  | 0x02 => some m.cfg
  | 0x03 => some (put 0 24 m.retired.toNat)
  | 0x04 => some (mapReg m.map 0)
  | 0x05 => some (mapReg m.map 1)
  | 0x06 => some (put 0 19 m.gleanNext ||| put 19 21 m.passes)
  | 0x07 => some m.checker
  | 0x08 => some m.counts0
  | 0x09 => some m.counts1
  | 0x0A => some m.counts2
  | 0x0B => some (put 0 8 m.repairs ||| put 8 8 m.lost)
  | 0x0C => some (candReg m.cand 0 13)
  | 0x0D => some (candReg m.cand 13 11)
  | 0x0E => some (put 0 13 m.logCount ||| put 13 12 m.logNext)
  | _ => none

end Sys2Proof.Machine
end

