-- ==== Sys2Proof/Machine/Critical.lean ====
section
/-!
DEFINITION. The triplicated words of the always-on memory (spec/14_memory_integrity.md, R423 to R425) and MEM_ERROR_INJECT (R439).
A critical word's value is the piece of state it stands for; what its three copies differ from the valid code of that value is
`critDiff`. The layout of each word is the model's (the spec gives none).
-/
namespace Sys2Proof.Machine

open Sys2Proof

/-! ## What the words hold -/

/-- R423: whether a critical word is allocated. -/
def critUsed (w : Nat) : Bool := w ≤ 43

/-- R233: word 0: FAILS, LEVEL and ACTIVE. Left open: DESIGN CHOICE, assumption log 10. -/
def Crd.lockWord (c : Crd) : Word := put 0 3 c.fails ||| put 3 3 c.level ||| flag 6 c.active

/-- R423: words 6 to 9: the last level of a receiver, and c0 and t0 of a WINDDOWN. Left open: DESIGN CHOICE, assumption log 10. -/
def Receiver.critWord (r : Receiver) : Word := put 0 2 r.level ||| put 2 16 r.c0 ||| put 18 22 r.t0.toNat

/-- R423: word 43: SEQ_POLICY.SIGNED, the domain seal and the debug lock. Left open: DESIGN CHOICE, assumption log 10. -/
def State.policyWord (s : State) : Word := flag 0 s.seq.signed ||| flag 1 s.crd.sealed ||| flag 2 s.sys.debugLock

/-- The value of a critical word. Left open: DESIGN CHOICE, assumption log 10. -/
def State.critValue (s : State) (w : Nat) : Word :=
  if w = 0 then s.crd.lockWord
  else if w = 1 then s.crd.lockEnd
  else if w = 2 then BitVec.ofNat 40 s.crd.nonce.toNat
  else if w = 3 then BitVec.ofNat 40 (s.crd.nonce.toNat / 2 ^ 40) ||| flag 39 s.crd.nonceLive
  else if w = 4 then flag 0 s.hrv.lock
  else if w = 5 then BitVec.ofNat 40 s.sys.latch.toNat
  else if w < 10 then (s.hrv.rx[Fin.ofNat 4 (w - 6)]).critWord
  else if w = 10 then s.nvm.regLf
  else if w < 19 then s.nvm.regUhf.getD (w - 11) 0
  else if w = 19 then s.nvm.regUwb
  else if w < 34 then (s.slot (w - 19)).tag
  else if w < 42 then BitVec.ofNat 40 (s.mem.signs[Fin.ofNat 8 (w - 34)]).toNat
  else if w = 42 then BitVec.ofNat 40 s.mem.retired.toNat
  else if w = 43 then s.policyWord
  else 0

/-- `s` with receiver `n` changed. -/
def State.modRx (s : State) (n : Fin 4) (f : Receiver → Receiver) : State :=
  { s with hrv := { s.hrv with rx := s.hrv.rx.set n (f s.hrv.rx[n]) } }

/-- The state with the value of a critical word replaced. Left open: DESIGN CHOICE, assumption log 10. -/
def State.critPut (s : State) (w : Nat) (v : Word) : State :=
  if w = 0 then { s with crd := { s.crd with fails := fld v 0 3, level := fld v 3 3, active := bit v 6 } }
  else if w = 1 then { s with crd := { s.crd with lockEnd := v } }
  else if w = 2 then { s with crd := { s.crd with nonce := BitVec.ofNat 64 (s.crd.nonce.toNat / 2 ^ 40 * 2 ^ 40 + v.toNat) } }
  else if w = 3 then
    { s with crd := { s.crd with
        nonce := BitVec.ofNat 64 (s.crd.nonce.toNat % 2 ^ 40 + fld v 0 24 * 2 ^ 40), nonceLive := bit v 39 } }
  else if w = 4 then { s with hrv := { s.hrv with lock := bit v 0 } }
  else if w = 5 then { s with sys := { s.sys with latch := BitVec.ofNat 4 v.toNat } }
  else if w < 10 then
    s.modRx (Fin.ofNat 4 (w - 6)) (fun r => { r with
      level := fld v 0 2, c0 := fld v 2 16, t0 := BitVec.ofNat 40 (r.t0.toNat / 2 ^ 22 * 2 ^ 22 + fld v 18 22) })
  else if w = 10 then { s with nvm := { s.nvm with regLf := v } }
  else if w < 19 then { s with nvm := { s.nvm with regUhf := s.nvm.regUhf.set (w - 11) v } }
  else if w = 19 then { s with nvm := { s.nvm with regUwb := v } }
  else if w < 34 then s.putSlot (w - 19) ((s.slot (w - 19)).withTag v)
  else if w < 42 then { s with mem := { s.mem with signs := s.mem.signs.set (Fin.ofNat 8 (w - 34)) (BitVec.ofNat 32 v.toNat) } }
  else if w = 42 then { s with mem := { s.mem with retired := BitVec.ofNat 24 v.toNat } }
  else if w = 43 then
    { s with
      seq := { s.seq with signed := bit v 0 }
      crd := { s.crd with sealed := bit v 1 }
      sys := { s.sys with debugLock := bit v 2 } }
  else s

/-! ## Copies, votes and restoration (R424, R425) -/

/-- What is stored of copy `c` of word `w`. Left open: DESIGN CHOICE, assumption log 10. -/
def State.critCopy (s : State) (w c : Nat) : BitVec 47 := encode47 (s.critValue w) ^^^ alGet 0 s.mem.critDiff (3 * w + c)

/-- Stores one copy of a critical word as it is given. Left open: DESIGN CHOICE, assumption log 10. -/
def State.critPoke (s : State) (w c : Nat) (b : BitVec 47) : State :=
  { s with mem := { s.mem with critDiff := alPut 0 (3 * w + c) (b ^^^ encode47 (s.critValue w)) s.mem.critDiff } }

/-- R425: how many copies of a word are not the valid code of its value. Left open: DESIGN CHOICE, assumption log 10. -/
def Mem.critOff (m : Mem) (w : Nat) : Nat := (alPart (3 * w) 3 m.critDiff).length

/-- R425: the vote over three copies: the value, or `none` where the word is LOST. -/
def vote (a b c : Option Word) : Option Word :=
  match a, b, c with
  | some x, some y, some z => some ((x &&& y) ||| (y &&& z) ||| (x &&& z))
  | some x, some y, none => if x = y then some x else none
  | some x, none, some z => if x = z then some x else none
  | none, some y, some z => if y = z then some y else none
  | _, _, _ => none

/-- The value that a copy decodes to. -/
def decodedValue (b : BitVec 47) : Option Word :=
  match decode47 b with
  | .good w => some w
  | .corrected w => some w
  | .poison => none
  | .bad _ => none

/-- R423: the newest complete generation of the shadow ring. -/
def Nvm.shadow? (n : Nvm) : Option Shadow := (n.shadows.find? (·.complete)).map (·.val)

/-- R423: what a LOST word of the lock-out is restored from. -/
def State.restoreLock (s : State) : State :=
  match s.nvm.shadow? with
  | some v =>
    { s with crd := { s.crd with
        fails := v.lockFails, level := v.lockLevel, active := v.lockActive, lockEnd := v.lockEnd, nonce := v.lockNonce, nonceLive := v.nonceLive } }
  | none =>
    let c : Crd := { s.crd with active := true, level := 4, lockEnd := s.aon.calendar + BitVec.ofNat 40 (64 * 60 * 256), nonceLive := false }
    { s with crd := c }

/-- R423: a LOST word is restored from its source. -/
def State.critRestore (s : State) (w : Nat) : State :=
  if w ≤ 3 then s.restoreLock
  else if w = 4 then
    { s with hrv := { s.hrv with lock := match s.nvm.work.get (paramAddr 0x0800) with
        | some v => v ≠ erased && bit v 0
        | none => true } }
  else if w = 5 then { s with sys := { s.sys with latch := match s.nvm.shadow? with | some v => v.tamper | none => 0b1111 } }
  else if w < 10 then s.modRx (Fin.ofNat 4 (w - 6)) (fun r => { r with level := 0 })
  else if w = 10 then { s with nvm := { s.nvm with regLf := s.nvm.reg.getD 1 0 } }
  else if w < 19 then { s with nvm := { s.nvm with regUhf := s.nvm.regUhf.set (w - 11) (s.nvm.reg.getD (w - 9) 0) } }
  else if w = 19 then { s with nvm := { s.nvm with regUwb := s.nvm.reg.getD 10 0 } }
  else if w = 42 then { s with mem := { s.mem with retired := s.mem.storedRet } }
  else if w = 43 then
    let at_ (r i : Nat) : Bool := match s.nvm.work.get (paramAddr r) with
      | some v => v ≠ erased && bit v i
      | none => true
    { s with
      seq := { s.seq with signed := at_ 0x0900 0 }
      crd := { s.crd with sealed := at_ 0x0702 24 }
      sys := { s.sys with debugLock := at_ 0x0044 0 } }
  else s

/-- R425: a read of a critical word votes; copies are repaired, and a LOST word is restored, counted, logged and reported. -/
def State.critRead (s : State) (w : Nat) : State :=
  let off := s.mem.critOff w
  if off = 0 then s
  else
    let d (c : Nat) : Option Word := decodedValue (s.critCopy w c)
    match vote (d 0) (d 1) (d 2) with
    | some v =>
      let bad := ((List.range 3).filter (fun c => decide (s.critCopy w c ≠ encode47 v))).length
      let s := (s.critPut w v).critWritten w 1
      { s with mem := { s.mem with repairs := min 255 (s.mem.repairs + bad), flags := raiseFlag s.mem.flags 4 } }
    | none =>
      let s := (s.critRestore w).critWritten w 1
      let s := { s with mem := { s.mem with lost := satSucc s.mem.lost 255, flags := raiseFlag s.mem.flags 5 } }
      s.logFault 8 2 w 0

/-- Reads several critical words. -/
def State.critReads (s : State) (ws : List Nat) : State := ws.foldl State.critRead s

/-! ## MEM_ERROR_INJECT (R439) -/

/-- The flip of a stored bit. -/
def flip47 (b : BitVec 47) (i : Nat) : BitVec 47 := b ^^^ BitVec.ofNat 47 (2 ^ i)

/-- What an injection makes of stored bits. -/
def injected (b : BitVec 47) (mode x y : Nat) : BitVec 47 :=
  if mode = 0 then flip47 b x else if mode = 1 then flip47 (flip47 b x) y else poison47

/-- MEM_ERROR_INJECT (R439). -/
def memErrorInject (s : State) (_ : Fin 8) (c : Cmd) : State × Done :=
  let target := p8 c.p 0
  let a := p24 c.p 1
  let copy := p8 c.p 4
  let mode := p8 c.p 5
  let x := p8 c.p 6
  let y := p8 c.p 7
  let badBits := 2 < mode || (mode ≠ 2 && 46 < x) || (mode = 1 && (46 < y || x = y))
  if 1 < target || badBits then refuse s .badParam
  else if target = 0 then
    if 393216 ≤ a || a / 16384 = 0 || s.mem.retired.getLsbD (s.mem.phys a / 16384) then refuse s .badParam
    else okDone ((let s := s.flushAt a
                  { s with mem := s.mem.poke a (injected (s.mem.stored a) mode x y) }).logFault 10 4 a 0)
  else if 2 < copy || !critUsed a then refuse s .badParam
  else okDone ((s.critPoke a copy (injected (s.critCopy a copy) mode x y)).logFault 10 4 a 0)

end Sys2Proof.Machine
end

