-- ==== Sys2Proof/Machine/Roster.lean ====
section
/-!
DEFINITION. The roster: its working copy and its store copy, reading with reload, and the bodies of CRD_ROSTER_WRITE, CRD_ROSTER_READ,
CRD_REVOKE and CRD_EPOCH_ADVANCE, with compaction and the counter log (spec/07_credentials.md, R206 to R217, R487).
-/
namespace Sys2Proof.Machine

open Sys2Proof

/-- `s` with the credentials block changed. -/
def State.modCrd (s : State) (f : Crd → Crd) : State := { s with crd := f s.crd }

/-- R214: the roster epoch E. -/
def State.epoch (s : State) : Nat := s.nvm.tally 1

/-- R7: calendar seconds. -/
def State.calSec (s : State) : Nat := s.aon.calendar.toNat / 256

/-! ## Entries (R208, R209) -/

/-- R209: the working-memory address of word `w` of a position. -/
def rosterAddr (pos w : Nat) : Nat := 32768 + 4 * pos + w

/-- R209: the store address of word `w` of a position: 32 positions to a page, in the same order. -/
def rosterStore (pos w : Nat) : Nat := 4 * pos + w

/-- R208: an entry. -/
structure Member where
  id       : Word
  cls      : Nat
  status   : Nat
  epoch    : Nat
  zpol     : Nat
  ctr      : Word
  standing : Nat
  until_   : Nat
  deriving DecidableEq, Repr

/-- R208: the fields of four words. -/
def Member.ofWords (ws : List Word) : Member :=
  let w (i : Nat) : Word := ws.getD i 0
  { id := w 0, cls := fld (w 1) 0 3, status := fld (w 1) 3 2, epoch := fld (w 1) 8 24, zpol := fld (w 1) 32 4, ctr := w 2,
    standing := fld (w 3) 0 2, until_ := fld (w 3) 8 32 }

/-- R208: the four words of an entry. -/
def Member.words (m : Member) : List Word :=
  [m.id, put 0 3 m.cls ||| put 3 2 m.status ||| put 8 24 m.epoch ||| put 32 4 m.zpol, m.ctr, put 0 2 m.standing ||| put 8 32 m.until_]

/-- R209: the position of a credential that is not FREE. -/
def Crd.pos? (c : Crd) (id : Word) : Option Nat := (c.index.find? (fun kv => kv.1 = id.toNat)).map (·.2)

/-- Enters a credential in the index, which stays in order of ID. -/
def Crd.enter (c : Crd) (id : Word) (pos : Nat) : Crd := { c with index := alPut 16384 id.toNat pos c.index }

/-- Takes a position out of the index. -/
def Crd.leave (c : Crd) (pos : Nat) : Crd := { c with index := c.index.filter (fun kv => kv.2 ≠ pos) }

/-- R208, R210: a position becomes FREE in the working copy; its words read 0. Left open: DESIGN CHOICE, assumption log 27. -/
def State.freePos (s : State) (pos : Nat) : State :=
  { s with mem := s.mem.writeRun (rosterAddr pos 0) [0, 0, 0, 0], crd := s.crd.leave pos }

/-- R212: a word of the roster is read; poison is reloaded from its roster page, and where that is unreadable too the position is FREE. -/
def State.rosterWord (s : State) (pos w : Nat) : State × Option Word :=
  let a := rosterAddr pos w
  match s.readWord 3 a with
  | (s, some v) => (s, some v)
  | (s, none) =>
    match s.nvm.work.get (rosterStore pos w) with
    | some v =>
      let v := if s.nvm.work.has (rosterStore pos w / 128) then v else 0
      ({ s with mem := s.mem.write a v, crd := { s.crd with flags := raiseFlag s.crd.flags 3 } }, some v)
    | none =>
      let s := (s.freePos pos).modCrd (fun c => { c with flags := raiseFlag c.flags 4 })
      (s.logFault 11 3 a 0, none)

/-- Reads words `w` on of a position. -/
def State.rosterWords (s : State) (pos : Nat) : List Nat → State × List (Option Word)
  | [] => (s, [])
  | w :: ws =>
    let (s, v) := s.rosterWord pos w
    let (s, vs) := s.rosterWords pos ws
    (s, v :: vs)

/-- Reads the entry at a position; `none` where a word of it is lost (R212). -/
def State.member (s : State) (pos : Nat) : State × Option Member :=
  let (s, ws) := s.rosterWords pos [0, 1, 2, 3]
  if ws.any Option.isNone then (s, none) else (s, some (Member.ofWords (ws.map (fun w => w.getD 0))))

/-- Finds a credential that is not FREE, and its entry. -/
def State.find (s : State) (id : Word) : State × Option (Nat × Member) :=
  match s.crd.pos? id with
  | none => (s, none)
  | some pos =>
    match s.member pos with
    | (s, some m) => (s, some (pos, m))
    | (s, none) => (s, none)

/-- The entry a lookup would find, without the effects of a read. -/
def State.peekMember (s : State) (id : Word) : Option Member :=
  match s.crd.pos? id with
  | none => none
  | some pos =>
    let w (i : Nat) : Option Word := match s.mem.peek (rosterAddr pos i) with
      | some v => some v
      | none => s.nvm.work.get (rosterStore pos i)
    match w 0, w 1, w 2, w 3 with
    | some a, some b, some c, some d => some (Member.ofWords [a, b, c, d])
    | _, _, _, _ => none

/-- R214: whether an entry is treated as revoked. -/
def Member.revoked (m : Member) (epoch : Nat) : Bool := m.status = 2 || m.epoch ≠ epoch

/-- R210: an entry is written at a position, in the working copy and the index. -/
def State.putMember (s : State) (pos : Nat) (m : Member) : State :=
  { s with mem := s.mem.writeRun (rosterAddr pos 0) m.words, crd := (s.crd.leave pos).enter m.id pos }

/-- R220: word 2 of a position at the start of the full round in progress, before a write changes it. -/
def State.keepCtr (s : State) (pos : Nat) (ctr : Word) : State :=
  match s.lf.round with
  | some r =>
    if r.full && !(r.ctr0.any (fun kv => kv.1 = pos)) then
      { s with lf := { s.lf with round := some { r with ctr0 := r.ctr0 ++ [(pos, ctr)] } } }
    else s
  | none => s

/-- R211: word 2 of a position is raised, in the working copy and in the counter log. -/
def State.raiseCtr (s : State) (pos : Nat) (old v : Word) : State :=
  if old < v then
    let s := s.keepCtr pos old
    { s with
      mem := s.mem.write (rosterAddr pos 2) v
      crd := { s.crd with ctrLog := s.crd.ctrLog.filter (fun kv => kv.1 ≠ pos) ++ [(pos, v)] } }
  else s

/-! ## CRD_ROSTER_WRITE (R210) -/

/-- The entries a command carries: the four words of each. -/
def rosterRows (p : Octets) : Nat → List (List Word)
  | 0 => []
  | n + 1 => wordsOf p 4 :: rosterRows (p.drop 20) n

/-- R207: a reserved credential ID. -/
def reservedId (id : Word) : Bool := id = 0 || id = BitVec.allOnes 40

/-- R210: why an entry is refused with BAD_PARAM. -/
def badRow (epoch : Nat) (ws : List Word) : Bool :=
  let m := Member.ofWords ws
  let w1 := ws.getD 1 0
  let w3 := ws.getD 3 0
  reservedId m.id || 2 ≤ m.status ||
    (m.status = 1 && (fld w1 5 3 ≠ 0 || fld w1 36 4 ≠ 0 || fld w3 2 6 ≠ 0 || m.cls = 0 || 6 ≤ m.cls || m.standing = 1 || m.epoch ≠ epoch))

/-- The positions that are FREE. -/
def Crd.freeList (c : Crd) : List Nat :=
  let used := c.index.map (·.2)
  (List.range 16384).filter (fun p => !used.contains p)

/-- R210: a position is chosen among the FREE ones; the spec does not say which. Left open: DESIGN CHOICE, assumption log 27. -/
def State.pickFree (s : State) : State × Nat :=
  let l := s.crd.freeList
  (s.draw, l.getD (Config.rosterPick s.free % l.length) 0)

/-- R210: one entry takes effect: a deletion, a replacement, or a new member. Answers its position and the words its page stores.
Left open: DESIGN CHOICE, assumption log 27. -/
def State.writeRow (s : State) (m : Member) : State × Nat × List (Nat × Option Word) :=
  let cells (pos : Nat) (ws : List Word) : List (Nat × Option Word) := ws.mapIdx (fun i w => (rosterStore pos i, some w))
  match s.crd.pos? m.id with
  | some pos =>
    if m.status = 0 then (s.freePos pos, pos, cells pos [0, 0, 0, 0])
    else
      let (s, old) := s.member pos
      let m := match old with
        | some o => if o.epoch = m.epoch then { m with ctr := if m.ctr < o.ctr then o.ctr else m.ctr } else m
        | none => m
      let s := match old with | some o => s.keepCtr pos o.ctr | none => s
      (s.putMember pos m, pos, cells pos m.words)
  | none =>
    if m.status = 0 then (s, 0xFFFF, [])
    else
      let (s, pos) := s.pickFree
      (s.putMember pos m, pos, cells pos m.words)

/-- R210: entries take effect in order. -/
def State.writeRows (s : State) : List Member → State × List (Word × Nat) × List (Nat × Option Word)
  | [] => (s, [], [])
  | m :: ms =>
    let (s, pos, ws) := s.writeRow m
    let (s, ps, wss) := s.writeRows ms
    (s, (m.id, pos) :: ps, ws ++ wss)

/-- R216: compaction starts. -/
def State.startCompaction (s : State) : State := s.modCrd (fun c => { c with compacting := true })

/-- R216: a write that finds fewer than 64 FREE positions starts compaction. -/
def State.compactIfFull (s : State) : State :=
  if 16384 < s.crd.index.length + 64 then s.startCompaction else s

/-- CRD_ROSTER_WRITE (R210). Deletions free their positions before new members are placed. -/
def crdRosterWrite (s : State) (_ : Fin 8) (c : Cmd) : State × Done :=
  let n := p8 c.p 0
  let rows := rosterRows (c.p.drop 1) n
  let ms := rows.map Member.ofWords
  let ids := ms.map (·.id)
  let fresh := (ms.filter (fun m => m.status = 1 && (s.crd.pos? m.id).isNone)).length
  let gone := (ms.filter (fun m => m.status = 0 && (s.crd.pos? m.id).isSome)).length
  if n = 0 || 48 < n || rows.any (badRow s.epoch) || ids.eraseDups.length ≠ n then refuse s .badParam
  else if 16384 < s.crd.index.length - gone + fresh then refuse s .badParam
  else if 0 < fresh && c.obs = .indexFull then
    (s.modCrd (fun c => { c with flags := raiseFlag c.flags 5 }), .reply .busy [])
  else
    let (s, dels, cells1) := s.writeRows (ms.filter (fun m => m.status = 0))
    let (s, acts, cells2) := s.writeRows (ms.filter (fun m => m.status = 1))
    let s := { s with nvm := s.nvm.bufWrite s.aon.tick (cells1 ++ cells2) }
    let at_ (id : Word) : Nat := (((dels ++ acts).find? (fun x => x.1 = id)).map (·.2)).getD 0xFFFF
    sealThen s.compactIfFull ((ids.map (fun i => o16 (at_ i))).flatten)

/-! ## CRD_ROSTER_READ (R213) -/

/-- The octets of an entry. -/
def Member.octets (m : Member) : Octets := (m.words.map wordOctets).flatten

/-- Reads the entries of a run of positions; a FREE position, and one lost, read as zeros. -/
def State.readRun (s : State) : List Nat → State × Octets
  | [] => (s, [])
  | pos :: r =>
    let (s, m) := s.member pos
    let o := match m with | some m => m.octets | none => List.replicate 20 0
    let (s, os) := s.readRun r
    (s, o ++ os)

/-- CRD_ROSTER_READ (R213, R487). -/
def crdRosterRead (s : State) (_ : Fin 8) (c : Cmd) : State × Done :=
  match p8 c.p 0 with
  | 0 =>
    match s.find (pW c.p 1) with
    | (s, some (pos, m)) => okData s (o16 pos ++ [1] ++ m.octets)
    | (s, none) => refuse s .blank
  | 1 =>
    let first := p16 c.p 6
    let n := p8 c.p 8
    if n = 0 || 48 < n || 16384 < first + n then refuse s .badParam
    else
      let (s, d) := s.readRun (span first n)
      okData s (o16 first ++ o8 n ++ d)
  | _ => refuse s .badParam

/-! ## Revocation and the epoch (R214 to R216) -/

/-- R26, R215, R216: the battery authentication ends. -/
def State.endBattery (s : State) : State := s.modCrd (fun c => { c with batAuth := none })

/-- R215: one credential is revoked, where it is in the roster. -/
def State.revoke (s : State) (id : Word) : State × Bool :=
  match s.find id with
  | (s, none) => (s, false)
  | (s, some (pos, m)) =>
    let m := { m with status := 2 }
    let s := { s with mem := s.mem.write (rosterAddr pos 1) (m.words.getD 1 0) }
    let s := s.storeWords (rosterStore pos 1) [m.words.getD 1 0]
    let s := match s.crd.batAuth with
      | some (p, _) => if p = id then s.endBattery else s
      | none => s
    let s := s.modCrd (fun c => { c with revoked := c.revoked + 1 })
    (if s.crd.revoked % 256 = 0 then s.startCompaction else s, true)

/-- Revokes several; answers how many were found. -/
def State.revokeAll (s : State) : List Word → State × Nat
  | [] => (s, 0)
  | i :: is =>
    let (s, b) := s.revoke i
    let (s, k) := s.revokeAll is
    (s, k + b2n b)

/-- CRD_REVOKE (R215). -/
def crdRevoke (s : State) (_ : Fin 8) (c : Cmd) : State × Done :=
  let n := p8 c.p 0
  if n = 0 || 64 < n then refuse s .badParam
  else
    let (s, k) := s.revokeAll (wordsOf (c.p.drop 1) n)
    sealThen s (o8 k ++ o8 (n - k))

/-- R216: an epoch advance is under way. -/
def Nvm.epochPending (n : Nvm) : Bool := n.tallyOps.any (fun o => o.use = .epoch)

/-- CRD_EPOCH_ADVANCE (R216): the reply follows the tally. -/
def crdEpochAdvance (s : State) (_ : Fin 8) (c : Cmd) : State × Done :=
  if p24 c.p 0 ≠ s.epoch || s.nvm.epochPending then refuse s .badParam
  else if 0xFFFE00 ≤ s.epoch || s.nvm.tallyFull 1 then refuse s .nonceExhausted
  else (s.startTally 1 .epoch, .await (.tally s.nvm.tallyNext))

/-- R216: what the end of an epoch advance brings beside its reply. -/
def State.epochAdvanced (s : State) : State := s.endBattery.startCompaction

/-- R216: one position is reclaimed where its entry is REVOKED or of an old epoch. -/
def State.reclaim (s : State) (pos : Nat) : State :=
  match s.member pos with
  | (s, some m) => if m.revoked s.epoch then (s.freePos pos).storeWords (rosterStore pos 0) [0, 0, 0, 0] else s
  | (s, none) => s

/-- R216: a compaction pass ends. -/
def State.compactionDone (s : State) : State :=
  if s.crd.compacting then
    let s := (s.crd.index.map (·.2)).foldl State.reclaim s
    s.modCrd (fun c => { c with compacting := false })
  else s

/-- The calendar day. -/
def State.calDay (s : State) : Nat := s.calSec / 86400

/-- R211: the counter log is folded into the roster pages, once a calendar day or when 384 entries are in use, and emptied. -/
def State.foldLog (s : State) : State :=
  if 384 ≤ s.crd.ctrLog.length || s.calDay ≠ s.crd.foldDay then
    let s := s.crd.ctrLog.foldl (fun s kv => s.storeWords (rosterStore kv.1 2) [kv.2]) s
    s.modCrd (fun c => { c with ctrLog := [], foldDay := s.calDay })
  else s

/-! ## Loading (R244) -/

/-- A logical bank of working memory is filled with zero words. -/
def Mem.zeroBank (m : Mem) (b : Nat) : Mem :=
  let pb := (m.map[b]?).getD b
  { m with cells := alCut (pb * 16384) 16384 m.cells, fill := m.fill &&& ~~~(BitVec.ofNat 24 (2 ^ pb)) }

/-- R212, R244: one position is loaded from the store; an unreadable one is FREE and reported. -/
def State.loadPos (s : State) (pos : Nat) : State :=
  match s.nvm.work.get (rosterStore pos 0), s.nvm.work.get (rosterStore pos 1), s.nvm.work.get (rosterStore pos 2), s.nvm.work.get (rosterStore pos 3) with
  | some a, some b, some c, some d =>
    let m := Member.ofWords [a, b, c, d]
    if !reservedId m.id && (m.status = 1 || m.status = 2) then s.putMember pos m else s
  | _, _, _, _ => (s.modCrd (fun c => { c with flags := raiseFlag c.flags 4 })).logFault 11 6 (rosterAddr pos 0) 0

/-- R211: one entry of the counter log is applied. -/
def State.applyLog (s : State) (e : Nat × Word) : State :=
  if s.crd.index.any (fun kv => kv.2 = e.1) then
    match s.mem.peek (rosterAddr e.1 2) with
    | some v => if v < e.2 then { s with mem := s.mem.write (rosterAddr e.1 2) e.2 } else s
    | none => s
  else s

/-- R244: the working copy is loaded from the store and the index built; positions with no word in the store are FREE. -/
def State.loadRoster (s : State) : State :=
  let s := { s with mem := [2, 3, 4, 5].foldl Mem.zeroBank s.mem, crd := { s.crd with index := [] } }
  let used := ((alPart 0 65536 s.nvm.work.cells).map (fun kv => kv.1 / 4)).eraseDups
  used.foldl State.loadPos s

end Sys2Proof.Machine
end

