-- ==== Sys2Proof/Machine/Credentials.lean ====
section
/-!
DEFINITION. Credentials: the check of a key response, zones, tickets, the lock-out, the sets of results, the CRD_ registers and the
bodies of the CRD_ commands that do not act on the roster (spec/07_credentials.md, R217 to R245, R487). Batteries are in Battery.lean.
-/
namespace Sys2Proof.Machine

open Sys2Proof

/-! ## Keys and messages (R217, R219) -/

/-- R217: K_cred of a member under K_domain. -/
def kCred (key : Octets) (id : Word) (cls epoch : Nat) : Octets :=
  cmac key (octs (beOf 5 id.toNat) ++ o8 cls ++ octs (beOf 3 epoch))

/-- R142: the ID of a response frame's body. -/
def bodyId (b : Octets) : Word := BitVec.ofNat 40 (beNum (nums (pRun b 1 5)))

/-- R142: the counter of a response frame's body. -/
def bodyCtr (b : Octets) : Word := BitVec.ofNat 40 (beNum (nums (pRun b 14 5)))

/-- R219: whether the MAC of a response verifies. -/
def responseMac (k : Octets) (rb : BitVec 64) (b : Octets) : Bool :=
  (cmac k (octs (beOf 8 rb.toNat) ++ pRun b 6 8 ++ pRun b 1 5 ++ pRun b 19 12 ++ pRun b 14 5)).take 8 = pRun b 31 8

/-- R219: the confirm MAC, its leftmost 32 bits. -/
def confirmMac (k : Octets) (rb : BitVec 64) (b : Octets) : Octets :=
  (cmac k ([0xC3] ++ pRun b 6 8 ++ octs (beOf 8 rb.toNat))).take 4

/-! ## Zones (R224, R225) -/

/-- R133: the coil in burst slot k of a plan. -/
def planSlot (plan0 plan1 : Word) (k : Nat) : Nat := if k < 10 then fld plan0 (4 * k) 4 else fld plan1 (4 * (k - 10)) 4

/-- R133: N of a plan. -/
def planCount (plan1 : Word) : Nat := fld plan1 8 4

/-- R225: the code of coil `c`: as reported at its burst position, 0 where it is not in the plan or its slot was silent. -/
def coilCode (plan0 plan1 : Word) (silent : BitVec 12) (vec : Octets) (c : Nat) : Nat :=
  if silent.getLsbD c then 0
  else match (List.range (planCount plan1)).find? (fun k => planSlot plan0 plan1 k = c) with
    | some k => p8 vec k
    | none => 0

/-- R225: whether a zone's ranges hold for every coil. -/
def Zone.holds (z : Zone) (code : Nat → Nat) : Bool := (List.range 12).all (fun c => p8 z.lo c ≤ code c && code c ≤ p8 z.hi c)

/-- R225: the first zone that holds; 15 is NONE. -/
def classify (zones : List Zone) (code : Nat → Nat) : Nat := (zones.findIdx? (fun z => z.holds code)).getD 15

/-- R226: the zone policy of an entry. -/
def State.zonePol (s : State) (m : Member) : Word := s.crd.zpol[Fin.ofNat 16 m.zpol]

/-- R226: whether a zone is allowed by a policy with a level. -/
def zoneAllowed (pol : Word) (zone : Nat) : Bool := zone < 8 && bit pol zone && 2 ≤ fld pol 8 2

/-! ## The check of a response frame (R149 step 8, R150, R220 to R222) -/

/-- What the credential check makes of a frame. -/
inductive Checked where
  | accept (a : Acceptance)
  | reject (r : Rejection)
  /-- R150: a copy of a frame already credited or rejected. -/
  | copy
  /-- R150: another frame of the same ID that verifies. -/
  | conflict
  /-- R315, R317: the lane is ABANDONED. -/
  | abandon
  deriving DecidableEq, Repr

/-- A rejection of a frame for a reason of R220. -/
def rejection (f : RxFrame) (reason : Nat) (genuine : Bool) : Rejection :=
  { lane := f.lane.val, slot := f.slot.val, reason := reason, id := bodyId f.body, rssi := f.rssi, counted := decide (reason = 1),
    genuine := genuine, body := f.body }

/-- R150: whether two bodies agree in all but HDR.SLOT and the CRC that covers it. -/
def sameBody (a b : Octets) : Bool := (p8 a 0 / 16 = p8 b 0 / 16) && (pRun a 1 38 = pRun b 1 38)

/-- R150: the body of the frame of an ID that passed its CMAC earlier in the round. -/
def PloughRound.verified (r : PloughRound) (id : Word) : Option Octets :=
  match r.accs.find? (fun a => a.id = id) with
  | some a => some a.body
  | none => (r.rejs.find? (fun x => x.id = id && x.genuine)).map (·.body)

/-- R220: word 2 of a position as it was when the round's wake burst started. -/
def PloughRound.ctrAt (r : PloughRound) (pos : Nat) (now : Word) : Word := ((r.ctr0.find? (fun kv => kv.1 = pos)).map (·.2)).getD now

/-- R220, checks 4 to 6, and acceptance under R221 and R225. -/
def State.judge (s : State) (r : PloughRound) (f : RxFrame) (pos : Nat) (m : Member) : State × Checked :=
  let ctr := bodyCtr f.body
  let base := r.ctrAt pos m.ctr
  if !(m.cls = 1 || m.cls = 2 || m.cls = 5) then (s, .reject (rejection f 3 true))
  else if m.revoked s.epoch then (s, .reject (rejection f 4 true))
  else if ctr ≤ base then
    (s.modCrd (fun c => { c with counts1 := bump c.counts1 0 }), .reject (rejection f 5 true))
  else
    let zone := classify r.zones (coilCode s.lf.plan0 s.lf.plan1 r.silent (pRun f.body 19 12))
    let jump := decide (base.toNat + 65536 < ctr.toNat)
    let a : Acceptance :=
      { lane := f.lane.val, slot := f.slot.val, zone := zone, id := m.id, cls := m.cls, epoch := m.epoch,
        allowed := zoneAllowed (s.zonePol m) zone, conflict := false, captured := f.captured, confirmed := false, jump := jump,
        stale := r.stale, rssi := f.rssi, offset := f.offset, ctr := ctr, body := f.body, pos := pos, stamp := r.stamp }
    let s := s.raiseCtr pos m.ctr ctr
    let s := if jump then s.modCrd (fun c => { c with flags := raiseFlag c.flags 1 }) else s
    ({ s with lf := { s.lf with idleSince := s.aon.calendar } }, .accept a)

/-- R328: an operation was stopped because its key was erased: flag and count. Left open: DESIGN CHOICE, assumption log 27. -/
def State.noteAbort (s : State) : State :=
  { s with cph := { s.cph with flags := raiseFlag s.cph.flags 8, counts1 := bump s.cph.counts1 16 } }

/-- R220: a frame that reaches step 8 of R149. Left open: DESIGN CHOICE, assumption log 26. -/
def State.checkFrame (s : State) (r : PloughRound) (f : RxFrame) : State × Checked :=
  let id := bodyId f.body
  match r.key with
  | none => (s, .reject (rejection f 6 false))
  | some k =>
    if r.erased then (s.noteAbort, .reject (rejection f 6 false))
    else if s.quarantined then (s, .abandon)
    else if f.fault then (s.cipherFault, .abandon)
    else match s.find id with
      | (s, none) => (s.modCrd (fun c => { c with counts0 := bump c.counts0 16 }), .reject (rejection f 2 false))
      | (s, some (pos, m)) =>
        let s := if r.stale then s.noteStale else s
        if !responseMac (kCred k m.id m.cls m.epoch) r.rb f.body then
          (s.modCrd (fun c => { c with counts0 := bump c.counts0 0 }), .reject (rejection f 1 false))
        else match r.verified id with
          | some b => if sameBody b f.body then (s, .copy) else (s, .conflict)
          | none => s.judge r f pos m

/-! ## Records (R241, R242) -/

/-- R241: an acceptance record. -/
def Acceptance.record (a : Acceptance) : Octets :=
  [1] ++ o8 a.lane ++ o8 a.slot ++ o8 a.zone ++ wordOctets a.id ++ o8 a.cls
    ++ o8 (b2n a.allowed + 2 * b2n a.conflict + 4 * b2n a.captured + 8 * b2n a.confirmed + 16 * b2n a.jump + 32 * b2n a.stale)
    ++ o8 a.rssi ++ o16 (twos 16 a.offset) ++ wordOctets a.ctr ++ pRun a.body 19 12 ++ [0]

/-- R241: a rejection record. -/
def Rejection.record (r : Rejection) : Octets :=
  [2] ++ o8 r.lane ++ o8 r.slot ++ o8 r.reason ++ wordOctets r.id ++ o8 r.rssi ++ o8 (b2n r.counted) ++ [0, 0, 0, 0, 0]

/-- R241: the header with its FLAGS octet. -/
def withHdrFlags (hdr : Octets) (f : Nat) : Octets := hdr.take 1 ++ o8 (p8 hdr 1 ||| f) ++ hdr.drop 2

/-- R242: the event data of a full round: acceptances, then as many whole rejections as fit in 1,016 octets. -/
def roundEvent (hdr : Octets) (accs : List Acceptance) (rejs : List Rejection) : Octets :=
  let a := accs.take 30
  let r := rejs.take ((1016 - 32 - 32 * a.length) / 16)
  let cut := decide (a.length < accs.length) || decide (r.length < rejs.length)
  (if cut then withHdrFlags hdr 32 else hdr) ++ (a.map Acceptance.record).flatten ++ (r.map Rejection.record).flatten

/-- R240: the acceptance of the oldest stamp leaves a full fresh set. -/
def oldestOut (s : State) (l : List Acceptance) : List Acceptance :=
  match l with
  | [] => []
  | a :: as =>
    let o := as.foldl (fun b x => if s.age b.stamp < s.age x.stamp then x else b) a
    l.erase o

/-- R27, R240: an acceptance enters the fresh set. -/
def State.freshen (s : State) (a : Acceptance) : State :=
  let rest := s.crd.fresh.filter (fun x => x.id ≠ a.id)
  if rest.length < 64 then s.modCrd (fun c => { c with fresh := rest ++ [a] })
  else s.modCrd (fun c => { c with fresh := oldestOut s rest ++ [a], flags := raiseFlag c.flags 6 })

/-- R26: the acceptance horizon in ticks. -/
def Crd.horizon (c : Crd) : Nat := ticksOf (fld c.cfg 0 6)

/-- CRD_ROUND_RESULT_READ (R243). -/
def crdRoundResultRead (s : State) (_ : Fin 8) (c : Cmd) : State × Done :=
  let kind := p8 c.p 0
  let n := p8 c.p 1
  let max_ := p16 c.p 4
  let set : Octets := match kind with
    | 0 => s.crd.latest
    | 1 => (s.crd.fresh.map Acceptance.record).flatten
    | 2 => match s.uwb.recs[Fin.ofNat 8 n] with | some r => r.octets | none => []
    | _ => s.crd.batRecord
  if 3 < kind || max_ = 0 || 1000 < max_ || (kind = 2 && 7 < n) then refuse s .badParam
  else if set.isEmpty then refuse s .blank
  else okData s (o16 set.length ++ pRun set (p16 c.p 2) max_)

/-! ## Tickets (R227 to R229) -/

/-- The store address of the ticket table: five words a ticket, and the highest serial at the end of its two pages (layout: the model's).
Left open: DESIGN CHOICE, assumption log 9. -/
def ticketBase : Nat := 941 * 128

/-- The words that keep a ticket. -/
def Ticket.words (t : Ticket) : List Word :=
  [t.id, put 0 32 t.serial, put 0 32 t.since, put 0 32 t.until_, put 0 8 t.level ||| put 8 16 t.cap]

/-- R227: the ticket table is written to the parameter pages. -/
def State.storeTickets (s : State) : State :=
  let rows := (s.crd.tickets.map Ticket.words).flatten
  s.storeWords ticketBase (rows ++ List.replicate (255 - rows.length) 0 ++ [put 0 32 s.crd.serialHigh])

/-- R229: the window of a trip ticket. -/
def Ticket.valid (t : Ticket) (sec : Nat) : Bool := t.since ≤ sec && sec < t.until_

/-- R228: the reply of CRD_TICKET_LOAD. -/
def Crd.ticketReply (c : Crd) : Octets := o8 c.tickets.length ++ o32 c.serialHigh

/-- R228: a ticket that has passed its checks is loaded. -/
def State.loadTicket (s : State) (t : Ticket) : State × Done :=
  let others := s.crd.tickets.filter (fun x => x.id ≠ t.id)
  if t.level = 0 then
    let s := (s.modCrd (fun c => { c with tickets := others, serialHigh := t.serial })).storeTickets
    sealThen s s.crd.ticketReply
  else
    let room := if others.length < 32 then others else others.filter (fun x => s.calSec < x.until_)
    if room.length < 32 then
      let s := (s.modCrd (fun c => { c with tickets := room ++ [t], serialHigh := t.serial })).storeTickets
      sealThen s s.crd.ticketReply
    else refuse s .busy

/-- CRD_TICKET_LOAD (R227, R228). -/
def crdTicketLoad (s : State) (_ : Fin 8) (c : Cmd) : State × Done :=
  let t : Ticket :=
    { id := pW c.p 0, serial := p32 c.p 5, since := p32 c.p 9, until_ := p32 c.p 13, level := p8 c.p 17, cap := p16 c.p 18 }
  if s.crd.self = 0 then refuse s .wrongState
  else match s.latch 9 with
    | .key k =>
      if (cmac k (pRun c.p 0 32)).take 8 ≠ pRun c.p 32 8 then refuse s .authFail
      else if p24 c.p 20 ≠ s.crd.domain || p24 c.p 23 ≠ s.epoch || pW c.p 26 ≠ s.crd.self || p8 c.p 31 ≠ 0
          || !(t.level = 0 || t.level = 2 || t.level = 3) || t.until_ ≤ t.since
          || t.serial ≤ s.crd.serialHigh || t.until_ ≤ s.calSec then refuse s .badParam
      else s.loadTicket t
    | l => refuse (s.afterLatch 9) l.status

/-- R229: whether VALID_UNTIL of an entry is satisfied. -/
def State.validUntil (s : State) (m : Member) : Bool :=
  m.until_ = 0xFFFFFFFF || (!s.aon.uncertain && s.calSec < m.until_)

/-- R229: the ticket clause: the level and cap of the ticket that holds, or nothing. -/
def State.ticketOf (s : State) (m : Member) : Option (Nat × Nat) :=
  let standing : Option (Nat × Nat) := if 2 ≤ m.standing then some (m.standing, 0xFFFF) else none
  if !s.validUntil m then none
  else match s.crd.tickets.find? (fun t => t.id = m.id) with
    | none => standing
    | some t => if s.aon.uncertain then none else if t.valid s.calSec then some (t.level, t.cap) else standing

/-! ## The field map (R224) -/

/-- The store address of the field map: Z and the CRC, then seven words a zone (layout: the model's). Left open: DESIGN CHOICE, assumption log 9. -/
def mapBase : Nat := 944 * 128

/-- The zones of a load. -/
def zonesOf (p : Octets) : Nat → List Zone
  | 0 => []
  | n + 1 => { name := pRun p 0 8, lo := pRun p 8 12, hi := pRun p 20 12 } :: zonesOf (p.drop 32) n

/-- The words that keep a zone. -/
def Zone.words (z : Zone) : List Word := wordsOf (z.name ++ z.lo ++ z.hi ++ [0, 0, 0]) 7

/-- LF_FIELD_MAP_LOAD (R224, R483). -/
def lfFieldMapLoad (s : State) (_ : Fin 8) (c : Cmd) : State × Done :=
  let n := p8 c.p 0
  let zs := zonesOf (c.p.drop 1) n
  if n = 0 || 8 < n || zs.any (fun z => (List.range 12).any (fun i => decide (p8 z.hi i < p8 z.lo i))) then refuse s .badParam
  else
    let crc := crc32c c.p
    let s := s.modCrd (fun c => { c with zones := zs, mapCrc := crc })
    sealThen (s.storeWords mapBase ([put 0 4 n, put 0 32 crc.toNat] ++ (zs.map Zone.words).flatten)) []

/-! ## The lock-out (R230 to R234) -/

/-- R234: EV_LOCKOUT. -/
def State.lockEvent (s : State) (kind : Nat) (id : Word) : State :=
  s.raise 3 (o8 kind ++ o8 s.crd.level ++ o8 s.crd.fails ++ [0] ++ wordOctets s.crd.lockEnd ++ wordOctets id)

/-- R233: the triplicated words of the lock-out are written. -/
def State.setLock (s : State) (f : Crd → Crd) : State := (s.modCrd f).critWritten 0 4

/-- 24 hours of calendar. -/
def dayUnits : Nat := 86400 * 256

/-- R231: at each full round and each release period, a lock-out whose END has come ends, and LEVEL returns to 0 a day later. -/
def State.lockCheck (s : State) : State :=
  let s := s.critReads [0, 1, 2, 3]
  let s := if s.crd.active && s.crd.lockEnd ≤ s.aon.calendar then (s.setLock (fun c => { c with active := false })).lockEvent 2 0 else s
  if !s.crd.active && s.crd.level ≠ 0 && s.crd.lockEnd.toNat + dayUnits ≤ s.aon.calendar.toNat then s.setLock (fun c => { c with level := 0 }) else s

/-- R231: the end of a lock-out that starts now at a level: 4 minutes times 2^LEVEL. -/
def State.lockEndAt (s : State) : Word :=
  let e := BitVec.ofNat 40 (min (s.aon.calendar.toNat + 4 * 60 * 256 * 2 ^ s.crd.level) (2 ^ 40 - 1))
  if s.crd.lockEnd < e then e else s.crd.lockEnd

/-- R231: a failed round: FAILS goes up, and the fifth starts or extends a lock-out. -/
def State.roundFailed (s : State) : State :=
  if s.crd.fails < 4 then s.setLock (fun c => { c with fails := c.fails + 1 })
  else
    let kind := b2n s.crd.active
    let e := s.lockEndAt
    (s.setLock (fun c => { c with lockEnd := e, active := true, fails := 0, level := min 4 (c.level + 1) })).lockEvent kind 0

/-- R232, R234: a clear, by a credential (kind 3) or by command (kind 4). -/
def State.lockClear (s : State) (kind : Nat) (id : Word) : State :=
  let was := s.crd.active
  let s := s.setLock (fun c => { c with active := false, fails := 0, level := 0 })
  if was then s.lockEvent kind id else s

/-- R232: whether an acceptance clears a lock-out: a MASTER or SERVICE_KEY whose VALID_UNTIL has not passed. -/
def State.clears (s : State) (a : Acceptance) : Bool :=
  (a.cls = 5 || a.cls = 2) &&
    (match s.peekMember a.id with | some m => m.until_ = 0xFFFFFFFF || s.calSec < m.until_ | none => false)

/-- R230 to R232: what the headland of a full round does to the lock-out. Left open: DESIGN CHOICE, assumption log 26. -/
def State.lockRound (s : State) (accs : List Acceptance) (rejs : List Rejection) : State :=
  let s := s.lockCheck
  if accs.isEmpty then
    if rejs.any (·.counted) then s.roundFailed else s
  else
    let s := s.setLock (fun c => { c with fails := 0 })
    match accs.find? s.clears with
    | some a => s.lockClear 3 a.id
    | none => s

/-- CRD_LOCKOUT_STATUS (R232, R487). -/
def crdLockoutStatus (s : State) (_ : Fin 8) (_ : Cmd) : State × Done :=
  let s := s.critReads [0, 1, 2, 3]
  let reply (s : State) : State × Done :=
    okData s (o8 s.crd.fails ++ o8 s.crd.level ++ o8 (b2n s.crd.active) ++ [0] ++ wordOctets s.crd.lockEnd ++ leOf 8 s.crd.nonce.toNat)
  if s.crd.nonceLive then reply s
  else match s.drbgBlocked with
    | some st => refuse s st
    | none =>
      let v := s.random
      reply (s.useRandom.setLock (fun c => { c with nonce := v, nonceLive := true }))

/-- R56: one AUTH_FAIL more of a context's proofs. -/
def State.proofFailed (s : State) (n : Fin 8) : State := s.modCtx n (fun c => { c with roleTries := c.roleTries.fail s.aon.tick })

/-- CRD_LOCKOUT_CLEAR (R232). Left open: DESIGN CHOICE, assumption log 27. -/
def crdLockoutClear (s : State) (n : Fin 8) (c : Cmd) : State × Done :=
  let s := s.critReads [0, 1, 2, 3]
  let slot := if c.role = .fleet then 1 else 4
  if (s.ctx n).roleTries.active s.aon.tick then refuse s .busy
  else if !s.crd.nonceLive then refuse s .wrongState
  else if s.cph.katModes.getLsbD 0 then refuse s .selfTestFail
  else
    let nonce := s.crd.nonce
    let s := s.setLock (fun c => { c with nonceLive := false })
    match s.latch slot with
    | .key k =>
      if (cmac k (leOf 8 nonce.toNat ++ o8 n.val)).take 8 = pRun c.p 0 8 then sealThen (s.lockClear 4 0) []
      else (s.proofFailed n, .reply .authFail [])
    | l => refuse (s.afterLatch slot) l.status

/-! ## CRD_ registers (R245) -/

/-- The code of CRD_BAT_STATUS.STATE. -/
def Crd.batState (c : Crd) : Nat :=
  if c.battery.isSome then 1 else if c.batAuth.isSome then 2 else if c.batFailed then 3 else 0

/-- R245: reads a register of the credentials block, by its offset in the page. -/
def crdReg (s : State) (o : Nat) : Option Word :=
  let c := s.crd
  match o with
  | 0x00 => some (put 0 15 c.index.length ||| flag 15 c.loaded ||| flag 16 c.compacting ||| flag 17 c.active ||| flag 18 c.batAuth.isSome
              ||| put 19 7 c.fresh.length)
  | 0x01 => some c.flags
  | 0x02 => some (put 0 24 c.domain ||| flag 24 c.sealed)
  | 0x03 => some c.self
  | 0x04 => some (put 0 24 s.epoch)
  | 0x05 => some c.cfg
  | 0x06 => some c.lockWord
  | 0x07 => some c.lockEnd
  | 0x08 => some c.batCfg
  | 0x09 => some (put 0 2 c.batState ||| put 2 4 c.batReason)
  | 0x0A => some (match c.batAuth with | some (p, _) => p | none => 0)
  | 0x0B => some (put 0 6 c.tickets.length ||| put 6 32 c.serialHigh)
  | 0x0C => some (put 0 4 c.zones.length ||| put 4 32 c.mapCrc.toNat)
  | 0x0E => some c.counts0
  | 0x0F => some c.counts1
  | _ => if 0x10 ≤ o && o < 0x20 then some c.zpol[Fin.ofNat 16 o] else none

/-- R207, R245: CRD_DOMAIN and CRD_SELF take a value and are stored, until the seal. -/
def State.crdIdentity (s : State) (o : Nat) (v : Word) : State × Done :=
  if s.crd.sealed then refuse s .notPermitted
  else if o = 2 then
    let s := (s.modCrd (fun c => { c with domain := fld v 0 24, sealed := bit v 24 })).critWritten 43 1
    sealThen (s.storeReg 0x0702 v) []
  else sealThen ((s.modCrd (fun c => { c with self := v })).storeReg 0x0703 v) []

/-- R245: writes a stored register of the credentials block: CRD_CFG, CRD_BAT_CFG and CRD_ZPOLn. -/
def State.crdWrite (s : State) (o : Nat) (v : Word) : State × Done :=
  match o with
  | 5 => if fld v 0 6 < 4 || 60 < fld v 0 6 then refuse s .badParam
         else sealThen ((s.modCrd (fun c => { c with cfg := v })).storeReg 0x0705 v) []
  | 8 => sealThen ((s.modCrd (fun c => { c with batCfg := v })).storeReg 0x0708 v) []
  | _ => if fld v 8 2 = 1 then refuse s .badParam
         else sealThen ((s.modCrd (fun c => { c with zpol := c.zpol.set (Fin.ofNat 16 o) v })).storeReg (0x0700 + o) v) []

end Sys2Proof.Machine
end

