-- ==== Sys2Proof/Machine/Battery.lean ====
section
/-!
DEFINITION. Battery packs: the exchange over the network port, its attempts and its record (spec/07_credentials.md, R235 to R239).
-/
namespace Sys2Proof.Machine

open Sys2Proof

/-- R236: the group address of CHALLENGE, 03-00-00-00-7A-31, octet 0 in the low bits. -/
def batteryGroup : BitVec 48 := 0x317A00000003

/-- R45, R236: a battery packet: header, parameters, the MAC field and the CRC-32C. -/
def batteryPacket (number : BitVec 16) (msg : Nat) (params : Octets) (mac : Octets → Octets) : Octets :=
  let body := headerOctets 0x14 0 number.toNat msg 0 params.length ++ params
  let all := body ++ mac body
  all ++ leOf 4 (crc32c all).toNat

/-- A battery frame to an address. -/
def batteryFrame (dst : BitVec 48) (payload : Octets) : TxFrame := { kind := .battery, dst := dst, ether := 0x88B5, payload := payload }

/-- R241: a battery record. -/
def batteryRecord (result tries : Nat) (pack stamp : Word) : Octets :=
  [5] ++ o8 result ++ o8 tries ++ [0] ++ wordOctets pack ++ wordOctets stamp ++ [0, 0]

/-- R236: RETRIES. -/
def Crd.retries (c : Crd) : Nat := fld c.batCfg 1 2

/-- R238, R242: an exchange ends: its record, its event, and the replies that waited for it. -/
def State.batteryEnd (s : State) (result tries : Nat) (pack stamp : Word) : State :=
  let r := batteryRecord result tries pack stamp
  let s := (s.modCrd (fun c => { c with battery := none, batRecord := r })).raise 2 r
  s.finishWait .battery .ok r

/-- R238, R239: an exchange ends without a result. -/
def State.batteryAbort (s : State) (st : Status) : State :=
  match s.crd.battery with
  | none => s
  | some _ => (s.modCrd (fun c => { c with battery := none })).finishWait .battery st []

/-- R238: an attempt fails; after the last one the exchange ends, with any fresh authentication. -/
def State.attemptFailed (s : State) (b : Battery) (reason : Nat) (pack : Word) : State :=
  if b.tries ≤ s.crd.retries then s.modCrd (fun c => { c with battery := some { b with phase := .pause } })
  else
    let s := s.modCrd (fun c => { c with
      batAuth := none, batFailed := true, batReason := reason, flags := raiseFlag c.flags 2, counts1 := bump c.counts1 16 })
    s.batteryEnd reason b.tries pack b.began

/-- R236, R238: an attempt begins: CHALLENGE with a fresh RV, once the port has link and a number can be drawn. -/
def State.attempt (s : State) (b : Battery) : State :=
  if !s.ntc.link then
    if b.tries = 0 then s.modCrd (fun c => { c with battery := some { b with phase := .link } })
    else s.attemptFailed { b with tries := b.tries + 1 } 9 0
  else if s.cph.drbg = .error || s.cph.drbg = .none then s.batteryAbort .selfTestFail
  else if s.quarantined then s.modCrd (fun c => { c with battery := some { b with phase := .pause } })
  else
    let rv := s.random
    let s := s.useRandom
    let s := s.modCrd (fun c => { c with battery := some { b with tries := b.tries + 1, phase := .waiting rv } })
    let params := leOf 8 rv.toNat ++ wordOctets s.crd.self ++ leOf 3 s.crd.domain
    s.queueFrame (batteryFrame batteryGroup (batteryPacket b.number 1 params (fun _ => List.replicate 8 0)))

/-- R235: an exchange begins. -/
def State.batteryStart (s : State) : State :=
  let b : Battery := { number := s.crd.batNumber, tries := 0, phase := .link, began := s.aon.tick }
  (s.modCrd (fun c => { c with battery := some b, batNumber := c.batNumber + 1, batAt := s.aon.tick, batDefer := false })).attempt b

/-- R207, R235, R343: whether an exchange may start by itself. -/
def State.batteryMay (s : State) : Bool := s.crd.battery.isNone && s.crd.self ≠ 0 && s.cph.drbg ≠ .error

/-- CRD_BATTERY_CHALLENGE (R235, R487). -/
def crdBatteryChallenge (s : State) (_ : Fin 8) (_ : Cmd) : State × Done :=
  if s.crd.self = 0 then refuse s .wrongState
  else if s.crd.battery.isSome then (s, .await .battery)
  else if s.cph.drbg = .error || s.cph.drbg = .none then refuse s .selfTestFail
  else (s.batteryStart, .await .battery)

/-- R235: the recheck interval expires while an authentication is fresh: an exchange starts, or is deferred while the PHY is off. -/
def State.batteryRecheck (s : State) : State :=
  let m := fld s.crd.batCfg 3 8
  if m ≠ 0 && s.crd.batAuth.isSome && ticksOf (60 * m) ≤ s.age s.crd.batAt then
    if !s.batteryMay then s
    else if s.phyOn false then s.batteryStart
    else s.modCrd (fun c => { c with batDefer := true })
  else s

/-- R235, R238: link is gained: a deferred exchange starts, and one that waits for link goes on. -/
def State.batteryLink (s : State) : State :=
  match s.crd.battery with
  | some b => if b.phase = .link then s.attempt b else s
  | none => if s.crd.batDefer && s.batteryMay then s.batteryStart else s

/-- R238: no link within 1 s of the start of an exchange. -/
def State.batteryLinkTimeout (s : State) : State :=
  match s.crd.battery with
  | some b => if b.phase = .link && ticksOf 1 ≤ s.age b.began then s.attemptFailed { b with tries := 1 } 9 0 else s
  | none => s

/-- R238: no RESPONSE within 20 ms of CHALLENGE. -/
def State.batteryTimeout (s : State) : State :=
  match s.crd.battery with
  | some b => match b.phase with
    | .waiting _ => s.attemptFailed b 1 0
    | _ => s
  | none => s

/-- R238: the next attempt; during quarantine it goes on waiting. -/
def State.batteryRetry (s : State) : State :=
  match s.crd.battery with
  | some b => if b.phase = .pause then s.attempt b else s
  | none => s

/-! ## RESPONSE (R237, R238) -/

/-- R237: whether a payload is a RESPONSE of the attempt: CRC-32C, PARAM_LEN, exchange number and echoed RV. -/
def belongs (p : Octets) (number : BitVec 16) (rv : BitVec 64) : Bool :=
  p8 p 0 = 0x14 && p16 p 4 = 2 && 50 ≤ p.length && p32 p 46 = (crc32c (p.take 46)).toNat && p16 p 7 = 26
    && p16 p 2 = number.toNat && p64 p 12 = rv.toNat

/-- R237: the outcome of the checks on a RESPONSE whose MAC verifies: 0, or a reason of R238. -/
def State.packOutcome (s : State) (m : Member) (ctr : Word) : Nat :=
  if m.cls ≠ 3 then 4 else if m.revoked s.epoch then 5 else if ctr ≤ m.ctr then 6 else if !s.validUntil m then 8 else 0

/-- R236: CONFIRM to the pack. -/
def State.sendConfirm (s : State) (f : Frame) (number : BitVec 16) (rv : BitVec 64) (k : Octets) (result : Nat) : State :=
  s.queueFrame (batteryFrame f.src
    (batteryPacket number 3 (pRun f.payload 20 8 ++ leOf 8 rv.toNat ++ o8 result) (fun b => leOf 8 (cmac64 k b).toNat)))

/-- R237: every check passes: the pack is authenticated. -/
def State.packAccepted (s : State) (b : Battery) (pos : Nat) (m : Member) (ctr : Word) : State :=
  let s := if m.ctr.toNat + 65536 < ctr.toNat then s.modCrd (fun c => { c with flags := raiseFlag c.flags 1 }) else s
  let s := s.raiseCtr pos m.ctr ctr
  let s := s.modCrd (fun c => { c with batAuth := some (m.id, b.began), batFailed := false })
  let s := { s with lf := { s.lf with idleSince := s.aon.calendar } }
  s.batteryEnd 0 b.tries m.id b.began

/-- R237, R238: a RESPONSE that belongs to the attempt decides it; `fault` says that an engine's check finds a mismatch (R315).
Left open: DESIGN CHOICE, assumption log 27. -/
def State.batteryDecide (s : State) (b : Battery) (rv : BitVec 64) (f : Frame) (fault : Bool) : State :=
  let pack := pW f.payload 28
  let ctr := pW f.payload 33
  match s.latch 8 with
  | .key kd =>
    if fault then s.cipherFault.attemptFailed b 1 0
    else match s.find pack with
      | (s, none) => s.attemptFailed b 3 pack
      | (s, some (pos, m)) =>
        let k := kCred kd m.id m.cls m.epoch
        if (cmac k (f.payload.take 38)).take 8 ≠ pRun f.payload 38 8 then s.attemptFailed b 2 pack
        else
          let r := s.packOutcome m ctr
          let s := s.sendConfirm f b.number rv k r
          if r = 0 then s.packAccepted b pos m ctr else s.attemptFailed b r pack
  | .fault => s.cipherFault.attemptFailed b 1 0
  | .quarantine => s.modCrd (fun c => { c with battery := some { b with tries := b.tries - 1, phase := .pause } })
  | _ => s.attemptFailed b 10 pack

/-- R48, R237: a battery packet addressed to the device. -/
def State.batteryPacketIn (s : State) (f : Frame) (fault : Bool) : State :=
  match s.crd.battery with
  | some b => match b.phase with
    | .waiting rv => if f.dst = Config.mac && belongs f.payload b.number rv then s.batteryDecide b rv f fault else s.rxDropped
    | _ => s.rxDropped
  | none => s.rxDropped

/-- R237, R350: whether the port hears a frame that is a RESPONSE of the attempt. -/
def State.isResponse (s : State) (b : Battery) (rv : BitVec 64) (g : Frame) : Bool :=
  (s.acceptFrame g).2 && decide (g.ether = 0x88B5) && decide (g.dst = Config.mac) && decide (p8 g.payload 0 = 0x14)
    && belongs g.payload b.number rv

/-- R238: the RESPONSEs of the attempt from another source address among the frames that arrive before it is decided.
Left open: DESIGN CHOICE, assumption log 27. -/
def State.rivals (s : State) (b : Battery) (rv : BitVec 64) (f : Frame) (others : List Frame) : List Frame :=
  others.filter (fun g => s.isResponse b rv g && decide (g.src ≠ f.src))

/-- R238: CONFIRM with RESULT 7 to a RESPONSE whose MAC verifies. -/
def State.confirmMultiple (kd : Octets) (b : Battery) (rv : BitVec 64) (s : State) (g : Frame) : State :=
  match s.find (pW g.payload 28) with
  | (s, none) => s
  | (s, some (_, m)) =>
    let k := kCred kd m.id m.cls m.epoch
    if (cmac k (g.payload.take 38)).take 8 = pRun g.payload 38 8 then s.sendConfirm g b.number rv k 7 else s

/-- R238: RESPONSEs from two source addresses reach one attempt: it fails with MULTIPLE. Left open: DESIGN CHOICE, assumption log 27. -/
def State.batteryMultiple (s : State) (b : Battery) (rv : BitVec 64) (f : Frame) (rest : List Frame) (fault : Bool) : State :=
  match s.latch 8 with
  | .key kd =>
    if fault then s.cipherFault.attemptFailed b 7 (pW f.payload 28)
    else ((f :: rest).foldl (State.confirmMultiple kd b rv) s).attemptFailed b 7 (pW f.payload 28)
  | .fault => s.cipherFault.attemptFailed b 7 (pW f.payload 28)
  | .quarantine => s.modCrd (fun c => { c with battery := some { b with tries := b.tries - 1, phase := .pause } })
  | _ => s.attemptFailed b 7 (pW f.payload 28)

end Sys2Proof.Machine
end

