-- ==== Sys2Proof/Machine/Lf.lean ====
section
/-!
DEFINITION. The LF field tract outside its rounds: coil measurement, classes and trim, the duty rule, configuration, the downlink frames
as bits, the LF_ registers, and the bodies of the LF_ commands (spec/04_lf_field_tract.md, R483). Rounds stand in Plough.lean.
-/
namespace Sys2Proof.Machine

open Sys2Proof

/-- `s` with the LF block changed. -/
def State.modLf (s : State) (f : Lf → Lf) : State := { s with lf := f s.lf }

/-- Sets a flag of LF_FLAGS. -/
def State.lfFlag (s : State) (i : Nat) : State := s.modLf (fun l => { l with flags := raiseFlag l.flags i })

/-! ## Carrier, current and duty (R93 to R95, R125) -/

/-- R93: the carrier frequency in Hz. -/
def Lf.carrier (l : Lf) : Nat := 100000 + 500 * fld l.cfg 0 7

/-- R105: the µs that a number of carrier periods takes, rounded up. -/
def Lf.us (l : Lf) (periods : Nat) : Nat := (periods * 1000000 + l.carrier - 1) / l.carrier

/-- R94: the peak current of a code, in units of 1/63 mA. -/
def current63 (code : Nat) : Nat := 3150 + 1450 * code

/-- R95: whether coils of these codes draw an estimated 2.0 A at most, each (2 / π) of its current. -/
def drawOk (codes : List Nat) : Bool := (codes.map current63).sum ≤ 197920

/-- R125: the number of the present sub-window of 512 ticks. -/
def State.subWindow (s : State) : Nat := s.aon.tick.toNat / 512

/-- R125: how many sub-windows before the present one a sub-window lies. -/
def State.windowAge (s : State) (k : Nat) : Nat := (s.subWindow + 2 ^ 31 - k) % 2 ^ 31

/-- R125: S, the on-time of the present sub-window and the 64 before it, in µs. Left open: DESIGN CHOICE, assumption log 23. -/
def State.lfOn (s : State) : Nat := ((s.lf.duty.filter (fun d => s.windowAge d.1 ≤ 64)).map (·.2)).sum

/-- R124: DUTY_CAP as on-time in one second, in µs. -/
def State.lfCap (s : State) : Nat := fld s.nvm.regLf 6 7 * 1000

/-- R125: whether an element of this on-time may start. Left open: DESIGN CHOICE, assumption log 23. -/
def State.dutyOk (s : State) (us : Nat) : Bool := s.lfOn + us ≤ s.lfCap

/-- R125: records on-time in the present sub-window. Left open: DESIGN CHOICE, assumption log 23. -/
def State.addOn (s : State) (us : Nat) : State :=
  let old := s.lf.duty.filter (fun d => s.windowAge d.1 ≤ 64)
  let k := s.subWindow
  let d := if old.any (fun d => d.1 = k) then old.map (fun d => if d.1 = k then (k, d.2 + us) else d) else old ++ [(k, us)]
  s.modLf (fun l => { l with duty := d })

/-- R126: an element is refused for duty. Left open: DESIGN CHOICE, assumption log 23. -/
def State.dutyDenied (s : State) : State :=
  s.modLf (fun l => { l with flags := raiseFlag l.flags 2, counts := bump l.counts 16 })

/-- R118, R119: a point is skipped. -/
def State.lfSkipped (s : State) : State := s.modLf (fun l => { l with counts := bump l.counts 0 })

/-! ## Coils (R98 to R103) -/

/-- Coil `n`. -/
def Lf.coil (l : Lf) (n : Fin 12) : Coil := l.coils[n]

/-- CHn_CFG.ENABLE. -/
def Coil.enabled (c : Coil) : Bool := bit c.cfg 0
/-- CHn_CFG.CURRENT. -/
def Coil.current (c : Coil) : Nat := fld c.cfg 1 6
/-- CHn_CFG.TRIM. -/
def Coil.trim (c : Coil) : Nat := fld c.cfg 7 7
/-- CHn_CFG.AUTO_TUNE. -/
def Coil.auto (c : Coil) : Bool := bit c.cfg 14
/-- R102: OPEN or SHORT. -/
def Coil.excluded (c : Coil) : Bool := c.cls = 1 || c.cls = 2

/-- R96: whether a coil's strip is too hot to be driven. -/
def Lf.isHot (l : Lf) (n : Fin 12) : Bool := l.hot.getLsbD (n.val / 4)

/-- R96, R102, R128: whether a coil may be driven in a round. -/
def Lf.drivable (l : Lf) (n : Fin 12) : Bool := (l.coil n).enabled && !(l.coil n).excluded && !l.isHot n

/-- The coils. -/
def allCoils : List (Fin 12) := List.finRange 12

/-- The frame set (R95). -/
def Lf.frameMask (l : Lf) : BitVec 12 := BitVec.ofNat 12 (fld l.plan1 12 12)

/-- A mask of coils. -/
def coilMask (f : Fin 12 → Bool) : BitVec 12 := allCoils.foldl (fun m n => if f n then m ||| BitVec.ofNat 12 (2 ^ n.val) else m) 0

/-- A product of fixed-point numbers of scale 10^9. -/
def fxMul (a b : Int) : Int := a * b / 1000000000

/-- The sine and cosine, scale 10^9, of a phase in steps of 0.2 degrees between -90 and 90 degrees, by their series. -/
def sinCos (phase : Int) : Int × Int :=
  let x := phase * 3141592654 / 900
  let y := fxMul x x
  let term (t : Int) (k : Int) : Int := -(fxMul t y) / k
  let s3 := term x 6
  let s5 := term s3 20
  let s7 := term s5 42
  let s9 := term s7 72
  let s11 := term s9 110
  let c2 := term 1000000000 2
  let c4 := term c2 12
  let c6 := term c4 30
  let c8 := term c6 56
  let c10 := term c8 90
  let c12 := term c10 132
  (x + s3 + s5 + s7 + s9 + s11, 1000000000 + c2 + c4 + c6 + c8 + c10 + c12)

/-- R98: Δf/f in parts per million: tan φ / (2 Q), with Q in quarters; at 90 degrees and beyond, and at Q 0, out of every range. -/
def offsetPpm (phase : Int) (q : Nat) : Int :=
  if 449 < phase then 100000000 else if phase < -449 then -100000000
  else
    let (s, c) := sinCos phase
    if q = 0 || c ≤ 0 then (if 0 ≤ phase then 100000000 else -100000000) else s * 2000000 / (c * q)

/-- R100: one trim step moves resonance by about 0.079 %. Left open: DESIGN CHOICE, assumption log 23. -/
def trimStepPpm : Nat := 790

/-- R99: the class of one measurement of a coil driven at a current code. -/
def measuredClass (c : Coil) (code : Nat) (m : CoilMeas) : Nat :=
  let off := (offsetPpm m.phase m.q).natAbs
  let need := (off - 30000 + trimStepPpm - 1) / trimStepPpm
  let beyond := if m.phase < 0 then c.trimNow < need else 127 < c.trimNow + need
  if m.ampl < 5 then 1
  else if 3 * current63 code < 2 * 63 * m.ampl || m.trip then 2
  else if m.q < 32 then 4
  else if 30000 < off && (!c.auto || beyond) then 3
  else 0

/-- R100: where the trim goes: towards zero phase, by at most 8 steps from TRIM; negative phase lowers it. Left open: DESIGN CHOICE, assumption log 23. -/
def movedTrim (c : Coil) (m : CoilMeas) : Nat :=
  let off := (offsetPpm m.phase m.q).natAbs
  if off ≤ 5000 then c.trim
  else
    let k := off / trimStepPpm
    let goal := if m.phase < 0 then c.trimNow - k else min 127 (c.trimNow + k)
    if goal < c.trim then max goal (c.trim - 8) else min goal (c.trim + 8)

/-- R101, R104: the recorded class after a measurement of a class. Left open: DESIGN CHOICE, assumption log 23. -/
def nextClass (c : Coil) (m run clear : Nat) : Nat :=
  if c.cls = 5 then m
  else if m = 1 || m = 2 then m
  else if c.excluded then (if 3 ≤ clear then m else c.cls)
  else if m = 0 then (if 3 ≤ run then 0 else c.cls)
  else if 2 ≤ run then m else c.cls

/-- R103: EV_COIL_FAULT on a change of class, but for UNKNOWN to OK. -/
def State.coilEvent (s : State) (n : Fin 12) (old cause : Nat) : State :=
  let c := s.lf.coil n
  if c.cls = old || (old = 5 && c.cls = 0) then s
  else s.raise 8 (o8 n.val ++ o8 old ++ o8 c.cls ++ o8 c.trim ++ o16 (twos 16 c.phase) ++ o8 (min (c.ampl / 8) 255) ++ o8 (min c.q 255) ++ o8 cause)

/-- R98 to R103: one measurement of a coil driven at a current code; `tune` moves the trim whatever AUTO_TUNE. -/
def State.measure (s : State) (m : CoilMeas) (code cause : Nat) (tune : Bool) : State :=
  let c := s.lf.coil m.coil
  let k := measuredClass c code m
  let run := if k = c.seen then c.run + 1 else 1
  let clear := if k = 1 || k = 2 then 0 else c.clear + 1
  let trim := if (c.auto || tune) && k ≠ 1 && k ≠ 2 then movedTrim c m else c.trim
  let c' : Coil :=
    { c with
      cfg := setFld c.cfg 7 7 trim, cls := nextClass c k run clear, seen := k, run := run, clear := clear, phase := m.phase,
      ampl := m.ampl, q := m.q, trimNow := if s.lf.round.isSome then c.trimNow else trim }
  (s.modLf (fun l => { l with coils := l.coils.set m.coil c' })).coilEvent m.coil c.cls cause

/-- R98: the measurements of an element, of the coils it drove, each at its set current. -/
def State.measureAll (s : State) (driven : BitVec 12) (l : List CoilMeas) : State :=
  (l.filter (fun m => driven.getLsbD m.coil.val)).foldl (fun s m => s.measure m (s.lf.coil m.coil).current 1 false) s

/-! ## Downlink frames (R106 to R108) -/

/-- The bits of a number, most significant first. -/
def bitsOf (n v : Nat) : List Bool := (List.range n).map (fun i => (v >>> (n - 1 - i)) % 2 = 1)

/-- The bits of octets, most significant first. -/
def octetBits (o : Octets) : List Bool := (o.map (fun x => bitsOf 8 x.toNat)).flatten

/-- R107: the preamble, 0x006 in 12 bits. -/
def lfPreamble : List Bool := bitsOf 12 6

/-- R108: the CRC-8. -/
def crc8 (o : Octets) : Nat := crcMsb 8 0x2F 0xFF o ^^^ 0xFF

/-- R108: a frame other than a wake frame: preamble, fields and CRC-8. -/
def lfFrame (o : Octets) : List Bool := lfPreamble ++ octetBits o ++ bitsOf 8 (crc8 o)

/-- R107: a wake frame after its burst. -/
def wakeFrame (id : Nat) : List Bool := lfPreamble ++ bitsOf 16 id

/-- R108: the challenge. -/
def challengeFrame (n : Nat) (rb : BitVec 64) (roundNo : BitVec 16) : List Bool :=
  lfFrame (o8 (16 + n) ++ octs (beOf 8 rb.toNat) ++ octs (beOf 2 roundNo.toNat))

/-- R108: a confirm. -/
def confirmFrame (j : Nat) (id : Word) (mac : Octets) : List Bool := lfFrame (o8 (32 + j) ++ octs (beOf 5 id.toNat) ++ mac)

/-- R108: a service frame. -/
def serviceFrame (p : Octets) : List Bool := lfFrame (o8 48 ++ o8 p.length ++ p)

/-! ## Configuration (R95, R122, R124, R128) -/

/-- R122: one change takes effect. A trim change shows in force at once. -/
def Lf.apply (l : Lf) (c : LfChange) : Lf :=
  match c with
  | .reg 2 v => { l with cfg := v }
  | .reg 3 v => { l with pollCfg := v }
  | .reg 4 v => { l with wakeId := v }
  | .reg 6 v => { l with plan0 := v }
  | .reg 7 v => { l with plan1 := v }
  | .reg r v =>
    if 0x10 ≤ r && r < 0x1C then
      let n := Fin.ofNat 12 (r - 0x10)
      { l with coils := l.coils.set n { l.coils[n] with cfg := v, trimNow := fld v 7 7 } }
    else l
  | .channels mask set enable current trim auto =>
    { l with coils := l.coils.mapFinIdx (fun i c _ =>
        if mask.testBit i then
          let w := if set.testBit 0 then setFld c.cfg 0 1 enable else c.cfg
          let w := if set.testBit 1 then setFld w 1 6 current else w
          let w := if set.testBit 2 then setFld w 7 7 trim else w
          let w := if set.testBit 3 then setFld w 14 1 auto else w
          { c with cfg := w, trimNow := fld w 7 7 }
        else c) }

/-- R122: the configuration with every waiting change applied. -/
def Lf.ahead (l : Lf) : Lf := l.changes.foldl Lf.apply l

/-- R95: whether the frame set keeps its limits. -/
def Lf.frameOk (l : Lf) : Bool :=
  let on := allCoils.filter (fun n => l.frameMask.getLsbD n.val)
  on.length ≤ 4 && drawOk (on.map (fun n => (l.coil n).current))

/-- R133: whether no coil stands in two of the first COUNT slots. -/
def Lf.planOk (l : Lf) : Bool :=
  let cs := (List.range (planCount l.plan1)).map (planSlot l.plan0 l.plan1)
  cs.eraseDups.length = cs.length

/-- R13, R14: a value of a configuration register sets a reserved bit or holds a reserved encoding. -/
def lfBad (r : Nat) (v : Word) : Bool :=
  match r with
  | 2 => 100 < fld v 0 7 || fld v 7 8 = 0 || fld v 15 12 < 10 || 3600 < fld v 15 12 || 120 < fld v 33 7
  | 3 => fld v 0 16 < 100 || 60000 < fld v 0 16 || fld v 16 16 < 100 || 60000 < fld v 16 16 || fld v 32 8 < 10 || 160 < fld v 32 8
  | 4 => fld v 32 8 ≠ 0
  | 6 => (List.range 10).any (fun k => decide (11 < fld v (4 * k) 4))
  | 7 => fld v 24 16 ≠ 0 || 11 < fld v 0 4 || 11 < fld v 4 4 || 12 < fld v 8 4
  | _ => fld v 15 25 ≠ 0

/-- R124: whether a configuration keeps the regulatory limits. -/
def State.lfLegal (s : State) (l : Lf) : Bool :=
  let cap := fld s.nvm.regLf 0 6
  fld s.nvm.regLf 13 7 ≤ fld l.cfg 0 7 && fld l.cfg 0 7 ≤ fld s.nvm.regLf 20 7 && fld l.cfg 27 6 ≤ cap
    && allCoils.all (fun n => decide ((l.coil n).current ≤ cap))

/-- R122: a change is checked against what will stand, and takes effect at once between rounds, or waits for the headland. -/
def State.lfChange (s : State) (c : LfChange) : State × Done :=
  let l := s.lf.ahead.apply c
  if !l.frameOk || !l.planOk then refuse s .badParam
  else if !s.lfLegal l then refuse (s.lfFlag 3) .regulatoryLimit
  else match s.lf.round with
    | none => okDone (s.modLf (fun l => l.apply c))
    | some _ => (s.modLf (fun l => { l with changes := l.changes ++ [c] }), .await .lfApply)

/-- R122: a SYS_REG_WRITE of an LF configuration register. -/
def State.lfWrite (s : State) (r : Nat) (v : Word) : State × Done := if lfBad r v then refuse s .badParam else s.lfChange (.reg r v)

/-- R122: every waiting change takes effect, trims included, and the replies follow. Left open: DESIGN CHOICE, assumption log 28. -/
def State.lfApplyAll (s : State) : State :=
  let s := s.modLf (fun l =>
    let l := l.ahead
    { l with changes := [], coils := l.coils.map (fun c => { c with trimNow := c.trim }) })
  s.finishWait .lfApply .ok []

/-- LF_CHANNEL_CONFIG (R128). Left open: DESIGN CHOICE, assumption log 18. -/
def lfChannelConfig (s : State) (_ : Fin 8) (c : Cmd) : State × Done :=
  let mask := p16 c.p 0
  let set := p8 c.p 2
  let isOver (k i m : Nat) : Bool := set / 2 ^ k % 2 = 1 && m < p8 c.p i
  if 0xFFF < mask || 15 < set || isOver 0 3 1 || isOver 1 4 63 || isOver 2 5 127 || isOver 3 6 1 then refuse s .badParam
  else s.lfChange (.channels mask set (p8 c.p 3) (p8 c.p 4) (p8 c.p 5) (p8 c.p 6))

/-- R127: stricter regulatory limits: codes above the cap are lowered, a carrier outside the range moves to the nearest code, and every
class is established again. -/
def State.lfRegulate (s : State) : State :=
  let new := s.nvm.reg.getD 1 0
  if new = s.nvm.regLf then s
  else
    let s := ({ s with nvm := { s.nvm with regLf := new } }).critWritten 10 1
    if s.lfLegal s.lf then s
    else
      let cap := fld new 0 6
      let f := max (fld new 13 7) (min (fld new 20 7) (fld s.lf.cfg 0 7))
      let moved := f ≠ fld s.lf.cfg 0 7
      let lower (c : Coil) : Coil := { c with cfg := setFld c.cfg 1 6 (min cap c.current), cls := if moved then 5 else c.cls }
      (s.modLf (fun l => { l with
        cfg := setFld (setFld l.cfg 0 7 f) 27 6 (min cap (fld l.cfg 27 6)), coils := l.coils.map lower })).lfFlag 3

/-! ## Gaps and diagnosis (R97, R98, R104) -/

/-- R97: a lock driver is driven. -/
def State.driving (s : State) : Bool := s.hrv.drivers.toList.any (·.running)

/-- A gap: no plough round, and no lock driver driven. -/
def State.lfGap (s : State) : Bool := s.lf.round.isNone && !s.driving

/-- R104: every enabled coil has been measured since the start. -/
def Lf.known (l : Lf) : Bool := l.coils.toList.all (fun c => !c.enabled || c.cls ≠ 5)

/-- R98: a pulse of one coil at DIAG_CURRENT: refused for VLF or duty, or measured. -/
def State.pulse (s : State) (vlfOk : Bool) (m : CoilMeas) (cause : Nat) (tune : Bool) : State :=
  let e := s.lf.us 64
  if !vlfOk then s.lfFlag 1
  else if !s.dutyOk e then s.dutyDenied
  else (s.addOn e).measure m (fld s.lf.cfg 27 6) cause tune

/-- R98: whether a coil's pulse is due. -/
def State.pulseDue (s : State) (n : Fin 12) : Bool :=
  let c := s.lf.coil n
  c.enabled && c.cls ≠ 2 && !s.lf.isHot n && (c.cls = 5 || ticksOf (fld s.lf.cfg 15 12) ≤ s.age c.diagAt)

/-- R98, R104: a diagnosis pulse in a gap. -/
def State.diagnosisPulse (s : State) (vlfOk : Bool) (m : CoilMeas) : State :=
  if s.lfGap && s.pulseDue m.coil && !s.sys.faultBoot && s.pwr.state ≠ .deep && s.pwr.state ≠ .off then
    let cause := if (s.lf.coil m.coil).cls = 5 then 3 else 0
    let ran := vlfOk && s.dutyOk (s.lf.us 64)
    let s := s.pulse vlfOk m cause false
    if ran then
      s.modLf (fun l => { l with coils := l.coils.set m.coil { l.coils[m.coil] with diagAt := s.aon.tick } })
    else s
  else s

/-! ## Registers (R133) -/

/-- CHn_STATUS. -/
def Coil.status (c : Coil) : Word :=
  put 0 3 c.cls ||| flag 3 c.excluded ||| put 4 10 (twos 10 c.phase) ||| put 14 8 (min (c.ampl / 8) 255) ||| put 22 8 (min c.q 255) ||| put 30 7 c.trimNow

/-- R118: the holdoff is in force. -/
def State.inHoldoff (s : State) : Bool :=
  match s.lf.holdoff with
  | some t => decide (s.age t < fld s.lf.cfg 33 7 * 16384)
  | none => false

/-- LF_STATUS. -/
def State.lfStatus (s : State) : Word :=
  let l := s.lf
  let kind := match l.round with | some r => if r.full then 2 else 1 | none => 0
  put 0 3 l.unit.code ||| put 3 2 l.base ||| flag 5 l.ride ||| flag 6 l.round.isSome ||| put 7 2 kind ||| flag 9 s.inHoldoff
    ||| put 10 2 l.stopCause ||| put 12 16 l.roundNo.toNat

/-- R133: reads a register of the LF block, by its offset in the page. -/
def lfReg (s : State) (o : Nat) : Option Word :=
  let l := s.lf
  match o with
  | 0 => some s.lfStatus
  | 1 => some l.flags
  | 2 => some l.cfg
  | 3 => some l.pollCfg
  | 4 => some l.wakeId
  | 5 => some l.idleSince
  | 6 => some l.plan0
  | 7 => some l.plan1
  | 8 => some (put 0 17 s.lfOn)
  | 9 => some l.counts
  | 10 => some (put 0 27 s.nvm.regLf.toNat ||| flag 27 s.nvm.regLocked)
  | _ =>
    if 0x10 ≤ o && o < 0x1C then some (l.coil (Fin.ofNat 12 (o - 0x10))).cfg
    else if 0x20 ≤ o && o < 0x2C then some (l.coil (Fin.ofNat 12 (o - 0x20))).status
    else none

/-! ## Commands (R129 to R131) -/

/-- The coils of a mask, in ascending order. -/
def coilsOf (mask : Nat) : List (Fin 12) := allCoils.filter (fun n => mask.testBit n.val)

/-- R98, R101, R129: the pulses of one coil, in order; a SHORT ends them. -/
def State.pulses (s : State) (vlfOk : Bool) (cause : Nat) (tune : Bool) : List CoilMeas → State
  | [] => s
  | m :: ms =>
    let s := s.pulse vlfOk m cause tune
    if (s.lf.coil m.coil).cls = 2 && (s.lf.coil m.coil).seen = 2 then s else s.pulses vlfOk cause tune ms

/-- The pulses of the coils of a mask that are enabled and whose strip is not hot. -/
def State.pulseCoils (s : State) (mask : Nat) (vlfOk : Bool) (cause : Nat) (tune : Bool) (l : List CoilMeas) : State :=
  (coilsOf mask).foldl (fun s n =>
    if (s.lf.coil n).enabled && !s.lf.isHot n then s.pulses vlfOk cause tune (l.filter (fun m => m.coil = n)) else s) s

/-- What a command observes of coils. -/
def coilObs : Obs → Bool × List CoilMeas
  | .coils v l => (v, l)
  | _ => (true, [])

/-- LF_TUNE (R129), in a gap. -/
def State.tuneWork (s : State) (p : Octets) (obs : Obs) : State × Octets :=
  let mask := p16 p 0
  let s := s.pulseCoils mask (coilObs obs).1 2 true (coilObs obs).2
  (s, ((coilsOf mask).map (fun n =>
    let c := s.lf.coil n
    o8 n.val ++ o8 c.trim ++ o8 (min c.q 255) ++ o8 (if c.enabled then c.cls else 5))).flatten)

/-- LF_DIAGNOSE with FRESH (R130), in a gap: one pulse of each coil. -/
def State.diagnoseWork (s : State) (p : Octets) (obs : Obs) : State × Octets :=
  let mask := p16 p 0
  let once := allCoils.filterMap (fun n => (coilObs obs).2.find? (fun m => m.coil = n))
  let s := s.pulseCoils mask (coilObs obs).1 4 false once
  (s, ((coilsOf mask).map (fun n =>
    let c := s.lf.coil n
    o8 n.val ++ wordOctets (if c.enabled then c.status else setFld c.status 0 3 5))).flatten)

/-- LF_TUNE (R129). -/
def lfTune (s : State) (_ : Fin 8) (c : Cmd) : State × Done :=
  if 0xFFF < p16 c.p 0 then refuse s .badParam else (s, .await (.work c.obs))

/-- LF_DIAGNOSE (R130). -/
def lfDiagnose (s : State) (_ : Fin 8) (c : Cmd) : State × Done :=
  if 0xFFF < p16 c.p 0 || 1 < p8 c.p 2 then refuse s .badParam
  else if p8 c.p 2 = 1 then (s, .await (.work c.obs))
  else okData s (((coilsOf (p16 c.p 0)).map (fun n => o8 n.val ++ wordOctets (s.lf.coil n).status)).flatten)

/-- R131: the coils a service frame goes out on. -/
def Lf.sendMask (l : Lf) (mask : Nat) : BitVec 12 :=
  coilMask (fun n => mask.testBit n.val && l.frameMask.getLsbD n.val && (l.coil n).enabled && !(l.coil n).excluded)

/-- LF_SEND (R131), in a gap: refused for duty, or sent; with VLF low or every strip hot no frame goes out, and the command returns
WRONG_STATE (the spec names no status). Left open: DESIGN CHOICE, assumption log 23. -/
def State.sendWork (s : State) (p : Octets) (obs : Obs) : State × Status :=
  let d := pRun p 3 (p8 p 2)
  let set := s.lf.sendMask (p16 p 0) &&& coilMask (fun n => !s.lf.isHot n)
  let e := s.lf.us ((36 + 8 * d.length) * 16)
  if set = 0 then (s, .wrongState)
  else if !(coilObs obs).1 then (s.lfFlag 1, .wrongState)
  else if !s.dutyOk e then (s.dutyDenied, .regulatoryLimit)
  else (((s.addOn e).modLf (fun l => { l with frame := serviceFrame d })).measureAll set (coilObs obs).2, .ok)

/-- LF_SEND (R131, R483). -/
def lfSend (s : State) (_ : Fin 8) (c : Cmd) : State × Done :=
  if 0xFFF < p16 c.p 0 || p8 c.p 2 = 0 || 32 < p8 c.p 2 then refuse s .badParam
  else if s.lf.sendMask (p16 c.p 0) = 0 then refuse s .wrongState
  else (s, .await (.work c.obs))

/-- R121: why LF_POLL_START is refused. -/
def Lf.pollRefused (l : Lf) : Bool :=
  let a := fld l.wakeId 0 16
  let b := fld l.wakeId 16 16
  a = 0 || b = 0 || a = b || planCount l.plan1 = 0
    || !(allCoils.any (fun n => l.frameMask.getLsbD n.val && (l.coil n).enabled && !(l.coil n).excluded))

/-- LF_POLL_START (R116, R118, R121, R123). -/
def lfPollStart (s : State) (n : Fin 8) (c : Cmd) : State × Done :=
  let mode := p8 c.p 0
  if 1 < mode || 1 < p8 c.p 1 then refuse s .badParam
  else if s.lf.pollRefused then refuse s .wrongState
  else
    let running := s.lf.unit = .on || s.lf.unit = .starting
    let s := s.modLf (fun l => { l with
      stopCause := 0, idleSince := s.aon.calendar, baseNext := mode
      base := if running then mode else l.base
      origin := if running then s.aon.tick else l.origin
      want := if p8 c.p 1 = 1 then some 2 else l.want })
    let (u, s, d) := s.unitCommand n c .plough s.lf.unit true
    (s.modLf (fun l => { l with unit := u }), d)

/-- LF_POLL_STOP (R121). -/
def lfPollStop (s : State) (n : Fin 8) (c : Cmd) : State × Done :=
  let (u, s, d) := s.unitCommand n c .plough s.lf.unit false
  (s.modLf (fun l => { l with unit := u, stopCause := 1 }), d)

/-- R123: polling stops after POLL_STOP_DAYS of idle calendar; an IDLE_SINCE later than the calendar is set to it. -/
def State.pollStopCheck (s : State) : State :=
  let s := if s.aon.calendar < s.lf.idleSince then s.modLf (fun l => { l with idleSince := s.aon.calendar }) else s
  if fld s.lf.cfg 7 8 * dayUnits ≤ s.aon.calendar.toNat - s.lf.idleSince.toNat then
    (s.modLf (fun l => { l with unit := if l.unit = .on then .stopping else l.unit, stopCause := 2 })).lfFlag 4
  else s

/-- R117: RIDE follows the last levels sent; its grid, and the base mode's, start where it changes. -/
def State.rideCheck (s : State) : State :=
  let ride := s.hrv.rx.toList.any (fun r => r.unit ≠ .off && r.level ≠ 0)
  if ride = s.lf.ride then s else s.modLf (fun l => { l with ride := ride, origin := s.aon.tick })

/-- R116: an interval in ms as always-on ticks, to the nearest tick. -/
def pollTicks (ms : Nat) : Nat := (ms * 32768 + 500) / 1000

/-- R116, R117: the interval of the grid in force, in ticks. -/
def Lf.interval (l : Lf) : Nat :=
  if l.ride then pollTicks (fld l.pollCfg 32 8 * 50) else if l.base = 0 then pollTicks (fld l.pollCfg 0 16) else pollTicks (fld l.pollCfg 16 16)

/-- R116: whether the present tick is a point of the grid. -/
def State.atPoint (s : State) : Bool :=
  let a := s.age s.lf.origin
  a ≠ 0 && a % s.lf.interval = 0

end Sys2Proof.Machine
end

