-- ==== Sys2Proof/Machine/Triggers.lean ====
section
/-!
DEFINITION. Trigger slots, steps of the local clock, attestation of the calendar, transmission of frames and link
(spec/11_network_time.md, R349, R351, R361 to R369, R373, R492).
-/
namespace Sys2Proof.Machine

open Sys2Proof

/-! ## Trigger slots (R365 to R369) -/

/-- R365: trigger slot `n`. -/
def State.trig (s : State) (n : Fin 16) : TrigSlot := s.ntc.trig[n]

/-- `s` with trigger slot `n` changed by `f`. -/
def State.modTrig (s : State) (n : Fin 16) (f : TrigSlot → TrigSlot) : State :=
  s.modNtc (fun x => { x with trig := x.trig.set n (f x.trig[n]) })

/-- R366: the edge of a slot at a TRIG pin: it toggles, or a pulse begins. -/
def TrigPin.fire (p : TrigPin) (t : TrigSlot) : TrigPin :=
  if t.pulse = 0 then { level := !p.level, pulse := p.pulse }
  else { level := decide (t.pol = 1), pulse := some (decide (t.pol ≠ 1)) }

/-- The coils that are being driven now. -/
def Lf.drivenNow (l : Lf) : BitVec 12 :=
  match l.round with
  | some r => if r.onAir.isSome then r.driven else 0
  | none => 0

/-- R366: one amplitude and phase measurement of a driven coil; it counts for no class and no trim. -/
def State.lookAt (s : State) (m : CoilMeas) : State :=
  if s.lf.drivenNow.getLsbD m.coil.val then
    s.modLf (fun l => { l with coils := l.coils.set m.coil { l.coils[m.coil] with phase := m.phase, ampl := m.ampl } })
  else s

/-- A missed point of a slot. -/
def State.trigMissed (s : State) (n : Fin 16) (k : Nat) : State :=
  s.modTrig n (fun t => { t with missed := min (t.missed + k) 0xFFFF })

/-- R366: what the target of a slot does. The release-period start of slot 15 is the command CADENCE_POINT. -/
def State.trigTarget (s : State) (n : Fin 16) (t : TrigSlot) (coils : List CoilMeas) : State :=
  if 1 ≤ t.target && t.target ≤ 4 then
    s.modNtc (fun x => { x with pins := x.pins.set (Fin.ofNat 4 (t.target - 1)) (x.pins[Fin.ofNat 4 (t.target - 1)].fire t) })
  else if t.target = 5 then
    if s.lf.drivenNow = 0 then s.trigMissed n 1 else coils.foldl State.lookAt s
  else if t.target = 6 then
    if s.uhf.capt.state = 1 && s.uhf.capt.trigger = 2 then { s with uhf := { s.uhf with capt := { s.uhf.capt with state := 2 } } } else s
  else if t.target = 8 then s.trigLines n.val
  else s

/-- R366, R367: a slot fires. A one-shot disarms; a periodic slot takes its next time. -/
def State.trigFire (s : State) (n : Fin 16) (late : Bool) (coils : List CoilMeas) : State :=
  let t := s.trig n
  let s := s.modTrig n (fun t => { t with
    armed := decide (t.period ≠ 0)
    nextNs := t.nextNs + t.period
    fires := satSucc t.fires 0xFFFF
    late := late })
  let s := if late then s.modNtc (fun x => { x with flags := raiseFlag x.flags 2 }) else s
  s.trigTarget n t coils

/-- R353, R366: whether the local clock reaches a slot's time within the present tick. Left open: DESIGN CHOICE, assumption log 5. -/
def State.trigDue (s : State) (n : Fin 16) : Bool :=
  let t := s.trig n
  t.armed && s.pwr.xoOk && s.pwr.start.isNone && decide (t.nextNs ≤ (s.ntc.ns : Int) + 30534)

/-- R366: TRIGGER_FIRE. Slot 15 fires as CADENCE_POINT. -/
def State.triggerFire (s : State) (n : Fin 16) (coils : List CoilMeas) : State :=
  if n.val < 15 && s.trigDue n then s.trigFire n false coils else s

/-- R367: how many points of a periodic slot lie before the clock. -/
def TrigSlot.behind (t : TrigSlot) (now : Int) : Nat :=
  if t.nextNs < now && 0 < t.period then ((now - t.nextNs + t.period - 1) / t.period).toNat else 0

/-- R367: a slot whose time has passed: a one-shot fires at once with LATE, and a periodic slot goes on to its first future point;
`count` says that its missed points are counted. Without the oscillator nothing fires. -/
def State.trigPassed (s : State) (count : Bool) (coils : List CoilMeas) (n : Fin 16) : State :=
  let t := s.trig n
  let now : Int := s.ntc.ns
  if t.armed && decide (t.nextNs < now) then
    if t.period = 0 then (if s.pwr.xoOk then s.trigFire n true coils else s)
    else
      let k := t.behind now
      let s := s.modTrig n (fun t => { t with nextNs := t.nextNs + k * t.period })
      if count then s.trigMissed n k else s
  else s

/-- R367: the slots after a wake from SLEEP or DEEP, or once the oscillator runs again. -/
def State.trigResume (s : State) : State := (List.finRange 16).foldl (fun s n => s.trigPassed true [] n) s

/-- R365: the TRIG pin a slot's target names. -/
def trigPinOf (target : Nat) : Option Nat := if 1 ≤ target && target ≤ 4 then some (target - 1) else none

/-- R365: another armed slot names the same TRIG pin. -/
def State.pinTaken (s : State) (n : Fin 16) (target : Nat) : Bool :=
  (trigPinOf target).isSome && (List.finRange 16).any (fun m => m ≠ n && (s.trig m).armed && (s.trig m).target = target)

/-- R365, R492: the 21 parameter octets of a slot; OP reads 1 while it is armed. Left open: DEDUCED, assumption log 33. -/
def TrigSlot.octets (t : TrigSlot) (n : Nat) : Octets :=
  o8 n ++ o8 (b2n t.armed) ++ o8 t.target ++ o8 t.pol ++ leOf 6 t.sec ++ o32 t.ns ++ leOf 5 t.period ++ o16 t.pulse

/-- R365: a slot as NTC_TRIGGER_CONFIG with OP 1 sets it. -/
def TrigSlot.ofParams (old : TrigSlot) (p : Octets) : TrigSlot :=
  { old with
    armed := true
    target := p8 p 2
    pol := p8 p 3
    sec := p48 p 4
    ns := p32 p 10
    period := pN p 14 5
    pulse := p16 p 19
    nextNs := (p48 p 4 * 1000000000 + p32 p 10 : Nat) }

/-- R365: a bad field of NTC_TRIGGER_CONFIG with OP 1. -/
def badTrigger (p : Octets) : Bool :=
  let per := pN p 14 5
  8 < p8 p 2 || p8 p 2 = 7 || 1 < p8 p 3 || 1000000000 ≤ p32 p 10 || (per ≠ 0 && (per < 1000 || 2 ^ 39 < per))

/-- NTC_TRIGGER_CONFIG (R365, R367). -/
def ntcTriggerConfig (s : State) (_ : Fin 8) (c : Cmd) : State × Done :=
  let slot := p8 c.p 0
  let n : Fin 16 := Fin.ofNat 16 slot
  let op := p8 c.p 1
  if 15 < slot || 2 < op then refuse s .badParam
  else if slot = 15 then refuse s .notPermitted
  else if op = 2 then okData s ((s.trig n).octets slot ++ wordOctets (s.trig n).word)
  else if op = 0 then okDone (s.modTrig n (fun t => { t with armed := false }))
  else if badTrigger c.p then refuse s .badParam
  else if s.pinTaken n (p8 c.p 2) then refuse s .busy
  else
    let s := s.modTrig n (fun t => t.ofParams c.p)
    okDone (s.trigPassed false (coilObs c.obs).2 n)

/-- R365: the end of a pulse at a TRIG pin. -/
def State.trigPulseEnd (s : State) (k : Fin 4) : State :=
  match s.ntc.pins[k].pulse with
  | some v => s.modNtc (fun x => { x with pins := x.pins.set k { level := v, pulse := none } })
  | none => s

/-! ## Steps of the local clock (R361, R362, R367) -/

/-- R367, R369: what a step of `d` ns does to a slot, the clock already standing after it. Left open: DESIGN CHOICE, assumption log 14. -/
def State.trigStep (s : State) (d : Int) (coils : List CoilMeas) (n : Fin 16) : State :=
  let t := s.trig n
  if !t.armed then s
  else if t.period ≠ 0 then s.modTrig n (fun t => { t with nextNs := t.nextNs + d })
  else if 0 < d then s.trigPassed false coils n
  else s

/-- NTC_STEP (R361). -/
def ntcStep (s : State) (_ : Fin 8) (c : Cmd) : State × Done :=
  let mode := p8 c.p 0
  let off := pS c.p 11 8
  let target : Int := if mode = 0 then (p48 c.p 1 * 1000000000 + p32 c.p 7 : Nat) else s.ntc.ns + off
  if 1 < mode || (mode = 0 && 1000000000 ≤ p32 c.p 7) || (mode = 1 && 2 ^ 39 < off.natAbs) || target < 0 then refuse s .badParam
  else
    let before := s.ntc.octets
    let d := target - s.ntc.ns
    let s := s.modNtc (fun x => { x with
      ns := target.toNat
      frac := 0
      slew := 0
      coarse := false
      stepCount := (x.stepCount + 1) % 16
      clock := if x.ptp.master.isSome && x.clock ≠ .unset then x.clock else .free
      ptp := { x.ptp with goodRun := 0, bigRun := 0, servo := 0 } })
    let s := s.timeStep (if 0 ≤ d then 0 else 1) d
    let after := s.ntc.octets
    let s := (List.finRange 16).foldl (fun s n => s.trigStep d (coilObs c.obs).2 n) s
    okData s (before ++ after)

/-! ## Attestation of the calendar (R373) -/

/-- R373: an attestation is refused. -/
def State.attestRefused (s : State) (st : Status) (d : Octets) : State × Done :=
  (s.modNtc (fun x => { x with flags := raiseFlag x.flags 4 }), .reply st d)

/-- R373 checks 4 to 6, once the MAC has verified. -/
def State.attest (s : State) (p : Octets) : State × Done :=
  let t := pW p 0
  if pW p 5 ≠ s.crd.self || p24 p 10 ≠ s.crd.domain || p24 p 13 ≠ 0 then s.attestRefused .badParam []
  else if s.nonceLife.isNone || p64 p 16 ≠ s.aon.nonce.toNat then s.attestRefused .authFail []
  else if t < s.aon.calendar then s.attestRefused .timeBackwardRefused (wordOctets s.aon.calendar)
  else
    let before := s.aon.calendar
    okData { s with aon := { s.aon with calendar := t, uncertain := false, lastAttest := t, nonceAt := none } }
      (wordOctets before ++ wordOctets t)

/-- NTC_CALENDAR_ATTEST (R373). -/
def ntcCalendarAttest (s : State) (_ : Fin 8) (c : Cmd) : State × Done :=
  match (s.slot 14).st with
  | .empty => s.attestRefused .keyEmpty []
  | .erased => s.attestRefused .keyErased []
  | .lost => s.attestRefused .keyErased []
  | .written =>
    if s.cph.drbg = .error || s.cph.katModes.getLsbD 0 then s.attestRefused .selfTestFail []
    else
      match s.latch 14 with
      | .key k =>
        if (cmac64 k (pRun c.p 0 24)).toNat = p64 c.p 24 then s.attest c.p else s.attestRefused .authFail []
      | l => (s.afterLatch 14).attestRefused l.status []

/-! ## Link and transmission (R349, R351, R352, R547) -/

/-- R349: link is gained or lost. The reply of the PHY to a change of configuration is this command too. -/
def State.linkChange (s : State) (up : Bool) : State :=
  let s := s.modNtc (fun x => { x with link := up })
  if up then s.batteryLink else s

/-- R352: any receiver is armed. -/
def State.anyArmed (s : State) : Bool := s.hrv.rx.toList.any (fun r => r.unit ≠ .off)

/-- R351: the frame that starts at a transmit opportunity: the waiting frame of highest priority, or the event of a PUSH context. -/
def State.nextFrame (s : State) : Option TxFrame :=
  let events := allCtx.filterMap s.pushFrame
  match bestFrame s.ntc.queue, events with
  | some f, [] => some f
  | some f, _ => some f
  | none, e :: _ => some e
  | none, [] => none

/-- R68: the event of a context leaves its queue with the lost count it carried. -/
def Ctx.eventSent (c : Ctx) : Ctx := { c with events := c.events.drop 1, lost := 0 }

/-- R351, R547: a transmit opportunity, or an idle medium. -/
def State.transmit (s : State) : State :=
  if s.ntc.onWire.isSome || !s.ntc.link || !s.phyOn s.anyArmed || s.pwr.start.isSome then s
  else match s.nextFrame with
    | none => s
    | some f =>
      let s := s.modNtc (fun x => { x with onWire := some f, queue := x.queue.erase f })
      match f.kind with
      | .event n => s.modCtx n Ctx.eventSent
      | _ => s

/-- R349: the PHY restarts once the frame in progress has ended. -/
def State.phyRestart (s : State) : State :=
  if s.ntc.restart then s.modNtc (fun x => { x with restart := false, link := false }) else s

end Sys2Proof.Machine
end

