-- ==== Sys2Proof/Machine/Uhf.lean ====
section
/-!
DEFINITION. The UHF receive tract outside its rounds: plans, calibration, the vigil receiver, captures, coexistence, the late-frame log,
the UHF_ registers, and the bodies of the UHF_ commands (spec/05_uhf_receive_tract.md, R200, R484). Rounds stand in Plough.lean.
-/
namespace Sys2Proof.Machine

open Sys2Proof

/-- `s` with the UHF block changed. -/
def State.modUhf (s : State) (f : Uhf → Uhf) : State := { s with uhf := f s.uhf }

/-- Sets a flag of UHF_FLAGS. -/
def State.uhfFlag (s : State) (i : Nat) : State := s.modUhf (fun u => { u with flags := raiseFlag u.flags i })

/-- A full round is in progress. -/
def State.fullRound (s : State) : Bool := match s.lf.round with | some r => r.full | none => false

/-- A presence poll is in progress. -/
def State.pollRound (s : State) : Bool := match s.lf.round with | some r => !r.full | none => false

/-- R166, R167: collection, or the listening of a poll, is open. -/
def State.listening (s : State) : Bool := match s.lf.round with | some r => r.listening | none => false

/-! ## Channel plans (R138 to R141) -/

/-- R138: MOD. -/
def Plan.mod (p : Plan) : Nat := fld p.word 0 2
/-- R138: RATE. -/
def Plan.rate (p : Plan) : Nat := fld p.word 2 3
/-- R138: DEV. -/
def Plan.dev (p : Plan) : Nat := fld p.word 5 9
/-- R138: SPACING. -/
def Plan.spacing (p : Plan) : Nat := fld p.word 14 3
/-- R138: P. -/
def Plan.count (p : Plan) : Nat := fld p.word 17 7
/-- R138: SC_SLOTS. -/
def Plan.sc (p : Plan) : Nat := fld p.word 24 3

/-- R138: the bit rate of a code, in bit/s. -/
def rateOf (c : Nat) : Nat := 1200 * 2 ^ c

/-- R138: the spacing of a code, in Hz. -/
def spacingOf (c : Nat) : Nat := 12500 * 2 ^ c

/-- R138: the frequency of channel `c`, in Hz. -/
def Plan.freq (p : Plan) (c : Nat) : Nat := p.segs.getD (c / 8) 0 + (c % 8) * spacingOf p.spacing

/-- The frequencies of the plan's channels. -/
def Plan.freqs (p : Plan) : List Nat := (List.range p.count).map p.freq

/-- R138, R484: the plan that the parameters of UHF_CHANNEL_PLAN give; only the segments in use are kept. -/
def planOf (p : Octets) : Plan :=
  let sp := p8 p 4
  let count := p8 p 5
  let used := (count + 7) / 8
  let base (s : Nat) : Nat := if p8 p 7 = 1 then p32 p 8 + 8 * s * spacingOf sp else p32 p (8 + 4 * s)
  let w := put 0 2 (p8 p 0) ||| put 2 3 (p8 p 1) ||| put 5 9 (p16 p 2) ||| put 14 3 sp ||| put 17 7 count ||| put 24 3 (p8 p 6)
    ||| put 27 1 (p8 p 7)
  { word := w, segs := (List.range used).map base }

/-- R138: a parameter uses a reserved value. -/
def planReserved (p : Octets) : Bool :=
  2 < p8 p 0 || 5 < p8 p 1 || 500 < p16 p 2 || 4 < p8 p 4 || p8 p 5 = 0 || 64 < p8 p 5 || 4 < p8 p 6 || 1 < p8 p 7

/-- R139: a span of the band, in Hz, lies within 300 MHz to 960 MHz. -/
def inBand (lo hi : Nat) : Bool := 300000000 ≤ lo && hi ≤ 960000000

/-- R139: two channels lie less than the spacing apart. -/
def tooClose (d : Nat) : List Nat → Bool
  | [] => false
  | f :: fs => fs.any (fun g => (if f ≤ g then g - f else f - g) < d) || tooClose d fs

/-- R139: the BAD_PARAM checks of a plan whose parameters are not reserved. -/
def Plan.bad (p : Plan) : Bool :=
  let d := spacingOf p.spacing
  let occ := if p.mod = 2 then 2 * rateOf p.rate else 200 * p.dev + rateOf p.rate
  p.freqs.any (fun f => !(d / 2 ≤ f && inBand (f - d / 2) (f + d / 2))) || tooClose d p.freqs || d < occ
    || (if p.mod = 2 then p.dev ≠ 0 else p.dev = 0)

/-- R139, R156: a span lies within an allowed UHF range; while the page is unlocked and holds no valid range, the whole band is allowed. -/
def Nvm.uhfAllowed (n : Nvm) (lo hi : Nat) : Bool :=
  if !n.regLocked && n.regUhf.all (fun w => !bit w 34) then inBand lo hi
  else n.regUhf.any (fun w => bit w 34 && fld w 0 17 * 12500 ≤ lo && hi ≤ fld w 17 17 * 12500)

/-- R139: every channel lies within an allowed range. -/
def State.planAllowed (s : State) (p : Plan) : Bool :=
  let h := spacingOf p.spacing / 2
  p.freqs.all (fun f => s.nvm.uhfAllowed (f - h) (f + h))

/-- UHF_CHANNEL_PLAN (R138 to R141): the plan waits for the lanes to retune, or for the headland of a full round; its reply follows. -/
def uhfChannelPlan (s : State) (_ : Fin 8) (c : Cmd) : State × Done :=
  let p := planOf c.p
  if planReserved c.p || p.bad then refuse s .badParam
  else if !s.planAllowed p then refuse s .regulatoryLimit
  else (s.modUhf (fun u => { u with planNext := some p }), .await .uhfApply)

/-- R141: a waiting plan takes effect, and the replies follow. Left open: DESIGN CHOICE, assumption log 28. -/
def State.planApply (s : State) : State :=
  match s.uhf.planNext with
  | some p => (s.modUhf (fun u => { u with plan := some p, planNext := none })).finishWait .uhfApply .ok []
  | none => s

/-- R127: the allowed ranges follow the regulatory record at a headland. -/
def State.uhfRegulate (s : State) : State :=
  let new := (s.nvm.reg.drop 2).take 8
  if new = s.nvm.regUhf then s else ({ s with nvm := { s.nvm with regUhf := new } }).critWritten 11 8

/-- The plan size; 0 with no plan. -/
def Uhf.lanesUp (u : Uhf) : Nat := match u.plan with | some p => p.count | none => 0

/-! ## Calibration and the vigil receiver (R156 to R163) -/

/-- R162: a calibration ends. -/
def State.uhfCalibrated (s : State) (ok : Bool) (temp : Int) : State :=
  s.modUhf (fun u =>
    let u := { u with calAt := s.aon.tick, calDue := false }
    if ok then { u with calCount := satSucc u.calCount 0xFFFF, failRun := 0, calTemp := temp, calValid := true }
    else { u with failRun := satSucc u.failRun 255, flags := raiseFlag u.flags 0 })

/-- UHF_CAL_CFG.CAL_DT. -/
def Uhf.calDt (u : Uhf) : Nat := fld u.calCfg 12 6

/-- R162: the background calibration falls due; during a full round it waits for the next gap. Left open: DESIGN CHOICE, assumption log 28. -/
def State.uhfCalDue (s : State) (ok : Bool) (temp : Int) : State :=
  if s.uhf.unit = .on && (s.uhf.calDue || ticksOf (fld s.uhf.calCfg 0 12) ≤ s.age s.uhf.calAt) then
    if s.fullRound then s.modUhf (fun u => { u with calDue := true }) else s.uhfCalibrated ok temp
  else s

/-- R159: a calibration of the vigil receiver ends. -/
def State.vigilCalibrated (s : State) (ok : Bool) (temp : Int) : State :=
  if ok then s.modUhf (fun u => { u with vigilTemp := temp }) else s.uhfFlag 7

/-- R159, R162: the die temperature has moved; calibrations run between rounds. -/
def State.uhfDrift (s : State) (temp : Int) (uhfOk vigilOk : Bool) : State :=
  let s := if s.uhf.unit = .on && !s.fullRound && s.uhf.calDt ≤ (temp - s.uhf.calTemp).natAbs then s.uhfCalibrated uhfOk temp else s
  if s.pwr.xoOk && !s.pollRound && bit s.uhf.vigil 35 && s.uhf.calDt ≤ (temp - s.uhf.vigilTemp).natAbs then s.vigilCalibrated vigilOk temp
  else s

/-- What a command observes of a calibration. -/
def calObs : Obs → Bool × Int
  | .cal ok t => (ok, t)
  | _ => (true, 0)

/-- UHF_CALIBRATE (R162, R484): the calibration runs between rounds. Left open: DESIGN CHOICE, assumption log 18. -/
def uhfCalibrate (s : State) (_ : Fin 8) (c : Cmd) : State × Done :=
  if s.uhf.unit ≠ .on then refuse s .wrongState else (s, .await (.work c.obs))

/-- UHF_CAL_STATUS. -/
def Uhf.calStatus (u : Uhf) : Word := put 0 16 u.calCount ||| put 16 8 u.failRun ||| put 24 8 (twos 8 u.calTemp)

/-- R156: why UHF_VIGIL_CONFIG is refused. -/
def State.vigilRefusal (s : State) (p : Octets) : Option Status :=
  let f := p32 p 0
  let good : Bool := 100000 ≤ f && inBand (f - 100000) (f + 100000)
  if 30 < p8 p 4 || 1 < p8 p 5 || (p8 p 5 = 1 && !good) then some .badParam
  else if f = 0 then none
  else if good && s.nvm.uhfAllowed (f - 100000) (f + 100000) then none
  else some .regulatoryLimit

/-- UHF_VIGIL_CONFIG (R156, R159): it takes effect at once, or at the headland of a poll. -/
def uhfVigilConfig (s : State) (_ : Fin 8) (c : Cmd) : State × Done :=
  match s.vigilRefusal c.p with
  | some st => refuse s st
  | none => (s, .await (.work c.obs))

/-- R156, R159: the vigil receiver takes its settings and is calibrated. -/
def State.vigilWork (s : State) (p : Octets) (obs : Obs) : State :=
  let s := s.modUhf (fun u => { u with vigil := put 0 30 (p32 p 0) ||| put 30 5 (p8 p 4) ||| put 35 1 (p8 p 5) })
  s.vigilCalibrated (calObs obs).1 (calObs obs).2

/-! ## Starting and stopping (R63, R160, R161) -/

/-- UHF_ENABLE (R160). -/
def uhfEnable (s : State) (n : Fin 8) (c : Cmd) : State × Done :=
  if s.uhf.plan.isNone then refuse s .wrongState
  else
    let (u, s, d) := s.unitCommand n c .uhf s.uhf.unit true
    (s.modUhf (fun x => { x with unit := u }), d)

/-- UHF_DISABLE (R161). -/
def uhfDisable (s : State) (n : Fin 8) (c : Cmd) : State × Done :=
  let (u, s, d) := s.unitCommand n c .uhf s.uhf.unit false
  (s.modUhf (fun x => { x with unit := u }), d)

/-- R63: where a unit comes to when it reaches a stable state, and whether that state is ON. -/
def UnitState.reach : UnitState → Option (UnitState × Bool)
  | .starting => some (.on, true)
  | .stopPending => some (.stopping, true)
  | .stopping => some (.off, false)
  | .restartPending => some (.starting, false)
  | .off => none
  | .on => none

/-- R160, R161: the tract reaches ON, after one calibration, or OFF, after the headland of any full round. -/
def State.uhfReach (s : State) (ok : Bool) (temp : Int) : State :=
  match s.uhf.unit.reach with
  | some (u, true) =>
    let s := s.modUhf (fun x => { x with unit := u, calCount := 0, failRun := 0, calValid := false })
    (s.uhfCalibrated ok temp).unitReached .uhf true
  | some (u, false) =>
    if s.fullRound then s
    else (s.modUhf (fun x => { x with unit := u, calDue := false })).unitReached .uhf false
  | none => s

/-! ## Captures (R164, R165) -/

/-- The number of bits needed to write a number. -/
def bitLen (n : Nat) : Nat := if n = 0 then 0 else Nat.log2 n + 1

/-- R165: round(x / 2^e), ties away from zero, clamped to -128 to 127, as one octet. -/
def mantissa (e : Nat) (x : Int) : Octet :=
  let m := (x.natAbs + 2 ^ e / 2) / 2 ^ e
  let v : Int := if 0 ≤ x then min 127 (m : Int) else max (-128) (-(m : Int))
  BitVec.ofNat 8 (twos 8 v)

/-- R165: one block of components: a header octet with the exponent, then the mantissas. -/
def blockForm (xs : List Int) : Octets :=
  let m := xs.foldl (fun a x => max a x.natAbs) 0
  let e := bitLen m - 7
  o8 e ++ xs.map (mantissa e)

/-- R165: captured samples in blocks of 16; the last block of a capture that was cut short is filled up with zeros. -/
def blocks16 (two : Bool) (l : List (Int × Int)) : Octets :=
  let full := l ++ List.replicate ((16 - l.length % 16) % 16) (0, 0)
  ((chunks 16 (full.length / 16) full).map (fun b => blockForm (if two then (b.map (fun x => [x.1, x.2])).flatten else b.map (·.1)))).flatten

/-- R164: UHF_CAPTURE with OP ARM. -/
def State.captureArm (s : State) (p : Octets) : State × Done :=
  let kind := p8 p 1
  let len := p16 p 4
  let top := if kind = 0 then 16384 else 8192
  if 1 < kind || 2 < p8 p 3 || len = 0 || len % 16 ≠ 0 || top < len || (kind = 1 && s.uhf.lanesUp ≤ p8 p 2) then refuse s .badParam
  else
    let run : Bool := p8 p 3 = 0 && s.lf.round.isNone
    let k : Capt :=
      { state := if run then 2 else 1, kind := kind, lane := p8 p 2, trigger := p8 p 3, length := len, samples := 0, data := [] }
    okDone (s.modUhf (fun u => { u with capt := k }))

/-- R164: UHF_CAPTURE with OP READ. -/
def State.captureRead (s : State) (p : Octets) : State × Done :=
  let k := s.uhf.capt
  if p16 p 10 = 0 || 1000 < p16 p 10 then refuse s .badParam
  else if k.state = 2 then refuse s .busy
  else if k.state ≠ 3 then refuse s .blank
  else okData s (o32 k.data.length ++ o16 k.samples ++ (k.data.drop (p32 p 6)).take (p16 p 10))

/-- UHF_CAPTURE (R164, R484). -/
def uhfCapture (s : State) (_ : Fin 8) (c : Cmd) : State × Done :=
  if 1 < p8 c.p 0 then refuse s .badParam
  else if s.uhf.unit ≠ .on then refuse s .wrongState
  else if p8 c.p 0 = 0 then s.captureArm c.p
  else s.captureRead c.p

/-- R164: an armed capture of a trigger kind starts. Left open: DESIGN CHOICE, assumption log 26. -/
def State.captureStart (s : State) (trigger : Nat) : State :=
  if s.uhf.capt.state = 1 && s.uhf.capt.trigger = trigger then s.modUhf (fun u => { u with capt := { u.capt with state := 2 } }) else s

/-- R164: a running capture is done; what it took is held in block form. Left open: DESIGN CHOICE, assumption log 28. -/
def State.captureDone (s : State) (l : List (Int × Int)) : State :=
  if s.uhf.capt.state = 2 then
    let l := l.take s.uhf.capt.length
    s.modUhf (fun u => { u with capt := { u.capt with state := 3, samples := l.length, data := blocks16 (u.capt.kind = 1) l } })
  else s

/-! ## Coexistence (R166, R167, R200, R201) -/

/-- R200: TRACT of a set. -/
def Coex.tract (c : Coex) : Nat := fld c.cfg 0 2

/-- R200: a set is a requester, or a grantor, for a tract. -/
def Coex.asks (c : Coex) (t : Nat) : Bool := c.tract = t && !bit c.cfg 2
/-- R200: a set is a grantor for a tract. -/
def Coex.grants (c : Coex) (t : Nat) : Bool := c.tract = t && bit c.cfg 2

/-- Every wire set changed by `f`. -/
def State.modCoex (s : State) (f : Coex → Coex) : State := s.modUhf (fun u => { u with coex := u.coex.map f })

/-- R166, R201: a tract asserts REQ, with PRI or without. Left open: DESIGN CHOICE, assumption log 26. -/
def State.coexAsk (s : State) (t : Nat) (pri : Bool) : State := s.modCoex (fun c => if c.asks t then { c with req := true, pri := pri } else c)

/-- R167, R201: REQ is dropped, and a grant that was withheld is given. -/
def State.coexFree (s : State) (t : Nat) : State :=
  s.modCoex (fun c =>
    if c.asks t then { c with req := false, pri := false }
    else if c.grants t then { c with given := c.reqIn, blanked := false }
    else c)

/-- R166, R201: some requester set of a tract has no grant. -/
def State.coexRefused (s : State) (t : Nat) : Bool := s.uhf.coex.toList.any (fun c => c.asks t && !c.gnt)

/-- R167, R201: some grantor set of a tract has given a grant inside a round. Left open: DESIGN CHOICE, assumption log 26. -/
def State.coexBlanked (s : State) (t : Nat) : Bool := s.uhf.coex.toList.any (fun c => c.grants t && c.blanked)

/-- R167: a slot begins: only a grant that still stands blanks it. Left open: DESIGN CHOICE, assumption log 26. -/
def State.coexSlot (s : State) (t : Nat) : State := s.modCoex (fun c => if c.grants t then { c with blanked := c.given } else c)

/-- R167, R201: inside the times in which a tract grants only under PRI. -/
def State.coexInside (s : State) (t : Nat) : Bool := if t = 1 then s.listening else t = 2 && s.uwb.round.isSome

/-- R167, R201: the other radio raises or drops REQ. -/
def State.coexRequest (s : State) (k : Fin 2) (req pri : Bool) : State :=
  let c := { s.uhf.coex[k] with reqIn := req, priIn := pri }
  let inside := s.coexInside c.tract
  let c := if c.tract = 0 || !bit c.cfg 2 then c
    else if !req then { c with given := false }
    else if !inside then { c with given := true }
    else if pri then { c with given := true, blanked := true }
    else c
  let s := s.modUhf (fun u => { u with coex := u.coex.set k c })
  if c.grants 2 && c.blanked && inside then
    let x : Uwb := { s.uwb with round := s.uwb.round.map (fun r => { r with blanked := true }) }
    { s with uwb := x }
  else s

/-- R201: GNT changes on a set. -/
def State.coexGrant (s : State) (k : Fin 2) (gnt : Bool) : State :=
  s.modUhf (fun u => { u with coex := u.coex.set k { u.coex[k] with gnt := gnt } })

/-- R200: a tract has a round in progress. -/
def State.tractBusy (s : State) (t : Nat) : Bool := if t = 1 then s.lf.round.isSome else t = 2 && s.uwb.round.isSome

/-- R200: a set takes its new configuration; REQ and GNT start again from inactive. -/
def Coex.take (c : Coex) (w : Word) : Coex :=
  let c := { c with cfg := w, next := none, req := false, pri := false, given := false, blanked := false }
  if c.tract ≠ 0 && bit w 2 then { c with given := c.reqIn } else c

/-- R200: a set whose change waits takes it once neither tract it concerns has a round. -/
def State.coexApply (s : State) (k : Fin 2) : State :=
  match s.uhf.coex[k].next with
  | some w =>
    if s.tractBusy s.uhf.coex[k].tract || s.tractBusy (fld w 0 2) then s
    else (s.modUhf (fun u => { u with coex := u.coex.set k (u.coex[k].take w) })).finishWait (.coexApply k) .ok []
  | none => s

/-- R200: both sets at a headland. -/
def State.coexApplyAll (s : State) : State := (s.coexApply 0).coexApply 1

/-- RADIO_COEX_CONFIG (R200, R485). -/
def radioCoexConfig (s : State) (_ : Fin 8) (c : Cmd) : State × Done :=
  let set := p8 c.p 0
  let k : Fin 2 := Fin.ofNat 2 set
  if 1 < set || 2 < p8 c.p 1 || 1 < p8 c.p 2 || 7 < p8 c.p 3 || 1000 < p16 c.p 4 then refuse s .badParam
  else
    let w := put 0 2 (p8 c.p 1) ||| put 2 1 (p8 c.p 2) ||| put 3 3 (p8 c.p 3) ||| put 6 10 (p16 c.p 4)
    if s.tractBusy s.uhf.coex[k].tract || s.tractBusy (p8 c.p 1) then
      (s.modUhf (fun u => { u with coex := u.coex.set k { u.coex[k] with next := some w } }), .await (.coexApply k))
    else okDone (s.modUhf (fun u => { u with coex := u.coex.set k (u.coex[k].take w) }))

/-! ## Lanes and late frames (R23, R155, R163) -/

/-- R155: an entry of the late-frame log. -/
def State.lateEntry (s : State) (e : LateFrame) : State :=
  let u := s.uhf
  let full : Bool := u.late.length = 16
  s.modUhf (fun u => { u with
    late := if full then u.late.set u.lateNext e else u.late ++ [e]
    lateNext := (u.lateNext + 1) % 16
    flags := raiseFlag (if full then raiseFlag u.flags 5 else u.flags) 4 })

/-- R155: a full round whose collection has closed is still in progress. -/
def State.afterClose (s : State) : Bool := match s.lf.round with | some r => r.full && r.next = 4 && !r.listening | none => false

/-- R155: the late-frame monitor finishes a frame of the latest collection. -/
def State.lateFrame (s : State) (lane : Fin 64) (crcOk incomplete : Bool) (id : Word) (rssi : Nat) : State :=
  match s.uhf.collected with
  | some n =>
    if s.uhf.unit = .off || (s.fullRound && s.listening) || s.uhf.lanesUp ≤ lane.val then s
    else
      let kind := b2n (!s.afterClose)
      let e : LateFrame :=
        { a := put 0 6 lane.val ||| put 6 1 kind ||| flag 7 crcOk ||| flag 8 incomplete ||| put 9 16 n.toNat ||| put 25 8 rssi, id := id }
      let s := s.lateEntry e
      if kind = 1 then s.modUhf (fun u => { u with lanes := u.lanes.set lane (bump u.lanes[lane] 0) }) else s
  | none => s

/-- R163: a lane is abandoned for the round; it is counted once. Left open: DESIGN CHOICE, assumption log 26. -/
def State.abandonLane (s : State) (lane : Nat) : State :=
  match s.lf.round with
  | some r =>
    if r.lost.getLsbD lane then s
    else
      let k : Fin 64 := Fin.ofNat 64 lane
      let s := s.modLf (fun l => { l with round := some { r with lost := r.lost ||| BitVec.ofNat 64 (2 ^ lane) } })
      s.modUhf (fun u => { u with lanes := u.lanes.set k (bump u.lanes[k] 16) })
  | none => s

/-- R163: a sampler parity error, or a block CRC error of one strip. -/
def State.sampleParity (s : State) (strip : Option (Fin 8)) : State :=
  if s.uhf.unit ≠ .on then s
  else
    let s := s.uhfFlag (if strip.isNone then 1 else 2)
    let lanes := (List.range s.uhf.lanesUp).filter (fun k => match strip with | some n => k / 8 = n.val | none => true)
    if s.fullRound && s.listening then lanes.foldl State.abandonLane s else s

/-! ## UHF_ registers (R168) -/

/-- UHF_STRIPn. -/
def Uhf.strip (u : Uhf) (n : Nat) : Word :=
  match u.plan with
  | some p =>
    let fs := ((List.range p.count).filter (fun c => c / 8 = n)).map p.freq
    match fs with
    | [] => 0
    | f :: fs =>
      let lo := fs.foldl min f
      let hi := fs.foldl max f
      put 0 30 ((lo + hi + 1000) / 2000 * 1000) ||| flag 30 true
  | none => 0

/-- UHF_STATUS. -/
def State.uhfStatus (s : State) : Word :=
  let u := s.uhf
  put 0 3 u.unit.code ||| flag 3 u.plan.isSome ||| flag 4 (s.fullRound && s.listening) ||| flag 5 (bit u.vigil 35)
    ||| put 6 2 u.capt.state ||| put 8 7 u.lanesUp ||| flag 15 u.calValid

/-- The UHF_ registers, by offset in page 0x0500. -/
def uhfReg (s : State) (o : Nat) : Option Word :=
  let u := s.uhf
  match o with
  | 0x00 => some s.uhfStatus
  | 0x01 => some u.flags
  | 0x02 => some (match u.plan with | some p => p.word | none => 0)
  | 0x03 => some u.roundCfg
  | 0x04 => some u.calCfg
  | 0x05 => some u.calStatus
  | 0x06 => some u.vigil
  | 0x08 => some u.counts0
  | 0x09 => some u.counts1
  | 0x0A => some u.counts2
  | 0x20 => some (put 0 5 u.late.length ||| put 5 4 u.lateNext)
  | _ =>
    if 0x10 ≤ o && o < 0x18 then some (put 0 30 (match u.plan with | some p => p.segs.getD (o - 0x10) 0 | none => 0))
    else if 0x18 ≤ o && o < 0x20 then some (u.strip (o - 0x18))
    else if 0x30 ≤ o && o < 0x50 then
      let e := u.late[(o - 0x30) / 2]?
      some (match e with | some e => if o % 2 = 0 then e.a else e.id | none => 0)
    else if 0x50 ≤ o && o < 0x58 then some (setFld (s.nvm.regUhf.getD (o - 0x50) 0) 35 1 (b2n s.nvm.regLocked))
    else if 0x80 ≤ o && o < 0xC0 then some u.lanes[Fin.ofNat 64 (o - 0x80)]
    else none

/-- R13, R168: a SYS_REG_WRITE of a UHF configuration register. -/
def State.uhfWrite (s : State) (o : Nat) (v : Word) : State × Done :=
  match o with
  | 0x03 =>
    if fld v 6 34 ≠ 0 || fld v 0 5 < 6 || 20 < fld v 0 5 then refuse s .badParam
    else okDone (s.modUhf (fun u => { u with roundCfg := v }))
  | 0x04 =>
    let t := fld v 0 12
    let d := fld v 12 6
    if fld v 18 22 ≠ 0 || t < 5 || 3600 < t || d < 2 || 40 < d then refuse s .badParam
    else okDone (s.modUhf (fun u => { u with calCfg := v }))
  | _ => refuse s .notPermitted

end Sys2Proof.Machine
end

