-- ==== Sys2Proof/Machine/Sequencer.lean ====
section
/-!
DEFINITION. The Tilth sequencers: programs and images, loading and installing, entry to a round and what a headland does to a
sequencer, the SEQ_ registers, and the bodies of the SEQ_ commands (spec/09_tilth_sequencers.md, R489). The instructions run in Tilth.lean.
-/
namespace Sys2Proof.Machine

open Sys2Proof

/-! ## Checks of a loaded image (R302) -/

/-- R302 check 7: an OP is defined and allowed on a sequencer. -/
def opAllowed (n : Fin 3) (op : Nat) : Bool :=
  op ≤ 8 || op = 0x10 || op = 0x11 || op = 0x12 || op = 0x1E
    || ((op = 0x18 || op = 0x19 || op = 0x1A) && n = 0)
    || (op = 0x1B && n = 1) || (op = 0x1C && n = 2) || (op = 0x1F && n ≠ 2)

/-- R285: a source that GET may name. Left open: DESIGN CHOICE, assumption log 25. -/
def getSource (k : Nat) : Bool := [0x00, 0x01, 0x02, 0x03, 0x04, 0x05, 0x08, 0x10, 0x11, 0x12, 0x20].contains k

/-- R286: a unit of WAIT_TIME that a sequencer may use. -/
def unitAllowed (n : Fin 3) (u : Nat) : Bool := if u = 0 then n = 0 else if u = 3 then n = 1 else true

/-- R302 check 8: reserved fields are zero, and no field holds a reserved value. -/
def fieldsOk (n : Fin 3) (w : Word) : Bool :=
  let ra := fld w 31 3
  let rb := fld w 28 3
  let i := tI w
  match tOp w with
  | 0x00 => fld w 0 34 = 0
  | 0x01 => if i then rb = 0 && (!bit w 26 || fld w 14 12 = 0) else fld w 0 27 = 0
  | 0x02 => if i then rb = 0 && !bit w 26 else fld w 0 27 = 0
  | 0x03 => if i then rb = 0 && !bit w 26 else fld w 0 27 = 0
  | 0x04 => ra = 0 && rb = 0 && !i && fld w 9 15 = 0 && fld w 24 3 ≠ 7
  | 0x05 => rb = 0 && !i && fld w 9 18 = 0
  | 0x06 => ra = 0 && rb = 0 && !i && fld w 9 18 = 0
  | 0x07 => fld w 0 34 = 0
  | 0x08 => rb = 0 && !i && fld w 8 19 = 0 && getSource (fld w 0 8)
  | 0x10 => (if i then rb = 0 else fld w 0 24 = 0) && unitAllowed n (fld w 25 2)
  | 0x11 => rb = 0 && !i && fld w 16 11 = 0
  | 0x12 => ra = 0 && rb = 0 && !i && fld w 4 23 = 0 && fld w 0 2 ≠ 3
  | 0x18 => (if i then rb = 0 && fld w 12 13 = 0 else fld w 0 25 = 0) && fld w 25 2 ≠ 3
  | 0x19 => if i then rb = 0 && fld w 12 15 = 0 else fld w 0 27 = 0
  | 0x1A => rb = 0 && !i && !bit w 26 && fld w 24 2 ≠ 3
  | 0x1B => !i && fld w 0 27 = 0
  | 0x1C => !i && fld w 0 27 = 0
  | _ => fld w 0 34 = 0

/-- R302 check 9: the target of an instruction that has one. -/
def targetOf (w : Word) : Option Nat := if tOp w = 4 || tOp w = 5 || tOp w = 6 then some (fld w 0 9) else none

/-- R302: what the checks of an image come to. -/
inductive Loaded where
  | image (i : Image)
  | fault (cause word : Nat)
  | refused (st : Status)
  deriving DecidableEq, Repr

/-- R300: the CMAC words of a signed image. -/
def cmacOf (ws : List Word) (len : Nat) : Nat := fld (ws.getD (3 + len) 0) 0 40 + 2 ^ 40 * fld (ws.getD (4 + len) 0) 0 24

/-- R302 check 6, R300: whether the CMAC of a signed image verifies under slot 6; the status where a required one does not. -/
def State.imageSigned (s : State) (ws : List Word) (len : Nat) : Bool × Status :=
  let k := s.slot 6
  if !bit (ws.getD 2 0) 32 then (false, .authFail)
  else match s.latch 6 with
    | .key key =>
      let msg := imageOctets (ws.getD 0 0) (ws.getD 1 0) ((ws.drop 3).take len) ++ wordOctets (ws.getD 2 0)
      if k.usage = 3 && (cmac64 key msg).toNat = natOf (leOf 8 (cmacOf ws len)) then (true, .ok) else (false, .authFail)
    | l => (false, l.status)

/-- R302 checks 7 to 9: the first instruction a check refuses. -/
def badCode (n : Fin 3) (len : Nat) (code : List Word) : Option (Nat × Nat) :=
  match code.findIdx? (fun w => !opAllowed n (tOp w)) with
  | some i => some (20, 3 + i)
  | none => match code.findIdx? (fun w => !fieldsOk n w) with
    | some i => some (21, 3 + i)
    | none => (code.findIdx? (fun w => match targetOf w with | some t => decide (len ≤ t) | none => false)).map (fun i => (22, 3 + i))

/-- R302: the checks of a staged image of `ws`, in order. -/
def State.checkImage (s : State) (n : Fin 3) (ws : List Word) (gap : Bool) : Loaded :=
  let w0 := ws.getD 0 0
  let w1 := ws.getD 1 0
  let w2 := ws.getD 2 0
  let len := fld w0 10 10
  let code := (ws.drop 3).take len
  if gap || ws.length < 3 || ws.length ≠ 3 + len + (if bit w2 32 then 2 else 0) then .fault 23 (min ws.length 516)
  else if fld w0 0 8 ≠ 1 then .fault 16 0
  else if fld w1 18 22 ≠ 0 || (n ≠ 0 && fld w1 9 9 ≠ 0) then .fault 16 1
  else if fld w2 33 7 ≠ 0 then .fault 16 2
  else if fld w0 8 2 ≠ n.val then .fault 17 0
  else if len = 0 || progSize n < len then .fault 18 0
  else if (crc32c (imageOctets w0 w1 code)).toNat ≠ fld w2 0 32 then .fault 19 2
  else
    let v := s.imageSigned ws len
    if s.seq.signed && !v.1 then .refused v.2
    else match badCode n len code with
      | some (c, i) => .fault c i
      | none =>
        if len ≤ fld w1 0 9 || len ≤ fld w1 9 9 then .fault 22 1
        else .image { version := fld w0 20 20, signed := v.1, crc := BitVec.ofNat 32 (fld w2 0 32), entry0 := fld w1 0 9,
                      entry1 := fld w1 9 9, code := code }

/-! ## Installing (R297, R303 to R305) -/

/-- R282, R303: a sequencer takes an image; its registers read 0. Left open: DESIGN CHOICE, assumption log 32. -/
def Seq.install (q : Seq) (i : Image) (source : Nat) (fallback : Bool) : Seq :=
  { q with image := i, source := source, fallback := fallback, regs := Vector.replicate 8 0, next := none }

/-- R299, R304, R305: a sequencer falls back to its default program, with a cause. Left open: DESIGN CHOICE, assumption log 32. -/
def State.fallBack (s : State) (n : Fin 3) (cause word : Nat) : State :=
  let s := s.modSeq n (fun q => { q.install (defaultImage n) 0 true with cause := cause, faultPc := word, next := q.next })
  { s with seq := { s.seq with flags := raiseFlag s.seq.flags n.val } }

/-- R303: the replies of the loads that waited for an installation follow, or wait on for the seal. -/
def State.installReplies (s : State) (n : Fin 3) (ticket : Option Nat) : State :=
  match ticket with
  | none => s.finishWait (.install n) .ok []
  | some t => s.rewait (fun c => if c.wait? = some (.install n) then some (.seal t .ok []) else none)

/-- R303: a checked image that waits is installed, once the sequencer is between rounds. Left open: DESIGN CHOICE, assumption log 32. -/
def State.installNext (s : State) (n : Fin 3) : State :=
  let q := s.sq n
  match q.next with
  | some i =>
    if q.inRound then s
    else
      let s := s.modSeq n (fun q => { q.install i (if q.ticket.isSome then 2 else 1) false with ticket := none })
      s.installReplies n q.ticket
  | none => s

/-- R305: an image without a verified CMAC goes out of service at a headland once SIGNED is set. -/
def State.enforceSigned (s : State) (n : Fin 3) : State :=
  if s.seq.signed && (s.sq n).source ≠ 0 && !(s.sq n).image.signed then s.fallBack n 24 0 else s

/-- R303, R443: the store address of the persistent image of a sequencer. Left open: DESIGN CHOICE, assumption log 9. -/
def imageBase (n : Fin 3) : Nat := (if n = 0 then 928 else if n = 1 then 933 else 938) * 128

/-- R304: the persistent image of a sequencer, where one exists, passes checks 5 and 6, and is whole. -/
def State.persistent (s : State) (n : Fin 3) : Option Loaded :=
  match s.nvm.work.get (imageBase n) with
  | some w0 =>
    if w0 = erased then none
    else
      let rd (i : Nat) : Word := (s.nvm.work.get (imageBase n + i)).getD 0
      let len := fld w0 10 10
      let count := 3 + len + (if bit (rd 2) 32 then 2 else 0)
      let whole := (List.range count).all (fun i => (s.nvm.work.get (imageBase n + i)).isSome)
      if whole then some (s.checkImage n ((List.range count).map rd) false) else some (.fault 24 0)
  | none => some (.fault 24 0)

/-- R304: what a sequencer runs after a start. -/
def State.seqImageStart (s : State) (n : Fin 3) : State :=
  match s.persistent n with
  | none => s.modSeq n (fun q => q.install (defaultImage n) 0 false)
  | some (.image i) => s.modSeq n (fun q => q.install i 2 false)
  | some _ => s.fallBack n 24 0

/-! ## Rounds of a sequencer (R281, R282, R295, R307) -/

/-- R281: a sequencer can be entered: it is ON, no round of its kind is in progress, and the device is in a state it runs in. -/
def State.seqReady (s : State) (n : Fin 3) : Bool :=
  let q := s.sq n
  q.unit = .on && !q.inRound && !s.sys.faultBoot && s.pwr.start.isNone && s.pwr.admits
    && (s.pwr.state = .run || s.pwr.state = .idle || (n = 0 && s.pwr.state = .sleep))

/-- R281, R282: hardware starts a round of a sequencer at an entry point. -/
def State.seqEnter (s : State) (n : Fin 3) (g0 g1 entry : Nat) : State :=
  s.modSeq n (fun q => { q with
    regs := (q.regs.set 0 (BitVec.ofNat 40 g0)).set 1 (BitVec.ofNat 40 g1)
    pc := entry
    stack := []
    inRound := true
    entered := s.aon.tick
    began := s.aon.tick
    stall := .none
    ending := false
    counts := bump q.counts 0 })

/-- R288, R295, R303, R305, R307: what a headland does to its sequencer; `deadline` says that the deadline brought it. -/
def State.seqHeadland (s : State) (n : Fin 3) (deadline : Bool) : State :=
  let s := s.modSeq n (fun q => { q with
    inRound := false
    stack := []
    lines := 0
    stall := .none
    ending := false
    evt := q.evtNext.getD q.evt
    evtNext := none
    counts := if deadline then bumpBy q.counts 24 8 1 else q.counts })
  (s.installNext n).enforceSigned n

/-- An element instruction ends: its result word goes to its register, and the program goes on (R290). -/
def Seq.result (q : Seq) (code val : Nat) : Seq :=
  match q.stall with
  | .element ra => { q.setReg ra (put 0 8 code ||| put 8 8 val) with stall := .none, pc := q.pc + 1 }
  | _ => q

/-- An element instruction of sequencer `n` ends. -/
def State.elementDone (s : State) (n : Fin 3) (code val : Nat) : State := s.modSeq n (fun q => q.result code val)

/-- R288: line 12 of a sequencer is latched. -/
def State.line12 (s : State) (n : Fin 3) : State := s.modSeq n (fun q => q.latchLine 12)

/-! ## Starting and stopping (R63, R297) -/

/-- R247, R248: a receiver is armed: it takes part in release periods. -/
def Receiver.armed (r : Receiver) : Bool := r.unit = .on || r.unit = .stopping || r.unit = .restartPending

/-- R270, R297: an armed receiver's last level is above DENY. -/
def State.aboveDeny (s : State) : Bool := s.hrv.rx.toList.any (fun r => r.unit ≠ .off && r.level ≠ 0)

/-- R297: whether each sequencer is ON is kept in the parameter pages. -/
def State.storeSeqOn (s : State) (n : Fin 3) (on : Bool) : State := s.storeReg (0x0908 + n.val) (put 0 1 (b2n on))

/-- SEQ_START (R297). -/
def seqStart (s : State) (k : Fin 8) (c : Cmd) : State × Done :=
  if 2 < p8 c.p 0 then refuse s .badParam
  else
    let n : Fin 3 := Fin.ofNat 3 (p8 c.p 0)
    let (u, s, d) := s.unitCommand k c (.seq n) (s.sq n).unit true
    (s.modSeq n (fun q => { q with unit := u }), d)

/-- SEQ_STOP (R297). -/
def seqStop (s : State) (k : Fin 8) (c : Cmd) : State × Done :=
  if 2 < p8 c.p 0 then refuse s .badParam
  else if p8 c.p 0 = 2 && s.aboveDeny then refuse s .wrongState
  else
    let n : Fin 3 := Fin.ofNat 3 (p8 c.p 0)
    let (u, s, d) := s.unitCommand k c (.seq n) (s.sq n).unit false
    (s.modSeq n (fun q => { q with unit := u, stopHalt := false }), d)

/-- R63, R297: a sequencer reaches ON, with its image installed and its registers zero, or OFF, after the headland of its round. -/
def State.seqReach (s : State) (n : Fin 3) : State :=
  match (s.sq n).unit.reach with
  | some (u, true) =>
    let s := s.modSeq n (fun q => { q with unit := u, regs := Vector.replicate 8 0 })
    (s.storeSeqOn n true).unitReached (.seq n) true
  | some (u, false) =>
    if (s.sq n).inRound then s else ((s.modSeq n (fun q => { q with unit := u })).storeSeqOn n false).unitReached (.seq n) false
  | none => s

/-! ## Loading (R301 to R303) -/

/-- R301: the staging area's first word. -/
def stageBase : Nat := 6 * 16384 + 0x3000

/-- R301: an open staging is dropped. -/
def State.dropStaging (s : State) : State :=
  if s.seq.stage.isSome then { s with seq := { s.seq with stage := none, flags := raiseFlag s.seq.flags 4 } } else s

/-- R302: a load is refused. -/
def State.loadRefused (s : State) (st : Status) (d : Octets) : State × Done :=
  ({ s with seq := { s.seq with flags := raiseFlag s.seq.flags 3 } }, .reply st d)

/-- R303: an image that passed is installed, and written to the parameter pages where PERSIST asks for it. Left open: DESIGN CHOICE, assumption log 32. -/
def State.acceptImage (s : State) (n : Fin 3) (i : Image) (ws : List Word) (persist : Bool) : State × Done :=
  let s := if persist then s.storeWords (imageBase n) ws else s
  let ticket := if persist then some s.nvm.ticket else none
  let s := if persist then { s with nvm := s.nvm.startCommit } else s
  let s := s.modSeq n (fun q => { q with next := some i, ticket := ticket })
  if (s.sq n).inRound then (s, .await (.install n))
  else
    let s := s.modSeq n (fun q => { q.install i (if persist then 2 else 1) false with ticket := none })
    if persist then sealThen s [] else okDone s

/-- R302, R303: the last chunk has come: the staged image is checked. Left open: DESIGN CHOICE, assumption log 32. -/
def State.loadLast (s : State) (g : Staging) (persist : Bool) : State × Done :=
  let s := { s with seq := { s.seq with stage := none } }
  let (s, os) := s.readWords 4 stageBase g.words
  if os.any Option.isNone then s.loadRefused .poisoned []
  else
    let ws := os.map (fun o => o.getD 0)
    match s.checkImage g.seq ws g.gap with
    | .image i => s.acceptImage g.seq i ws persist
    | .refused st => s.loadRefused st []
    | .fault cause word =>
      (s.modSeq g.seq (fun q => { q with cause := cause, faultPc := word })).loadRefused .seqFault (o8 cause ++ o16 word)

/-- SEQ_LOAD (R301, R302, R489). Left open: DESIGN CHOICE, assumption log 32. -/
def seqLoad (s : State) (k : Fin 8) (c : Cmd) : State × Done :=
  let seq := p8 c.p 0
  let first := pBit c.p 1 0
  let n := (c.p.length - 4) / 5
  let ofs := p16 c.p 2
  let mine := match s.seq.stage with | some g => decide (g.ctx = k) | none => false
  if 2 < seq || 7 < p8 c.p 1 then refuse s .badParam
  else if first && s.seq.stage.isSome && !mine then refuse s .busy
  else if !first && !mine then refuse s .wrongState
  else
    let s := if first then s.dropStaging else s
    let g0 : Staging := { ctx := k, seq := Fin.ofNat 3 seq, words := 0, gap := false, last := s.aon.tick }
    let g := if first then g0 else s.seq.stage.getD g0
    if g.seq.val ≠ seq then refuse s .badParam
    else if 517 < ofs + n || 517 < g.words + n then refuse s.dropStaging .badParam
    else
      let ok := ofs = g.words
      let s := { s with mem := s.mem.writeRun (stageBase + ofs) (wordsOf (c.p.drop 4) n) }
      let g : Staging := { g with words := g.words + n, gap := g.gap || !ok, last := s.aon.tick }
      if pBit c.p 1 1 then s.loadLast g (pBit c.p 1 2)
      else okDone { s with seq := { s.seq with stage := some g } }

/-- R301: 10 s pass without a chunk. -/
def State.stagingTimeout (s : State) : State :=
  match s.seq.stage with
  | some g => if ticksOf 10 ≤ s.age g.last then s.dropStaging else s
  | none => s

/-! ## SEQ_ registers (R307, R308) -/

/-- SEQn_STATUS. -/
def Seq.status (q : Seq) : Word :=
  put 0 3 q.unit.code ||| put 3 2 q.source ||| flag 5 q.fallback ||| flag 6 q.inRound ||| put 7 9 q.pc ||| put 16 3 q.stack.length
    ||| put 19 6 q.cause ||| put 25 10 q.faultPc ||| flag 35 q.stopHalt

/-- SEQn_IMAGE. -/
def Image.word (i : Image) : Word := put 0 10 i.code.length ||| put 10 20 i.version ||| flag 30 i.signed

/-- SEQ_STAGE. -/
def SeqBlock.stageWord (b : SeqBlock) : Word :=
  match b.stage with
  | some g => flag 0 true ||| put 1 3 g.ctx.val ||| put 4 2 g.seq.val ||| put 6 10 g.words
  | none => 0

/-- The SEQ_ registers, by offset in page 0x0900. -/
def seqReg (s : State) (o : Nat) : Option Word :=
  match o with
  | 0x00 => some (flag 0 s.seq.signed)
  | 0x01 => some s.seq.flags
  | 0x02 => some s.seq.stageWord
  | 0x08 => some (s.sq 0).status
  | 0x09 => some (s.sq 1).status
  | 0x0A => some (s.sq 2).status
  | 0x0C => some (s.sq 0).image.word
  | 0x0D => some (s.sq 1).image.word
  | 0x0E => some (s.sq 2).image.word
  | 0x10 => some (put 0 32 (s.sq 0).image.crc.toNat)
  | 0x11 => some (put 0 32 (s.sq 1).image.crc.toNat)
  | 0x12 => some (put 0 32 (s.sq 2).image.crc.toNat)
  | 0x14 => some (s.sq 0).counts
  | 0x15 => some (s.sq 1).counts
  | 0x16 => some (s.sq 2).counts
  | 0x18 => some (s.sq 0).evt
  | 0x19 => some (s.sq 1).evt
  | 0x1A => some (s.sq 2).evt
  | _ => none

/-- The SEQ_ registers in address order. -/
def seqAddrs : List Nat := [0, 1, 2, 8, 9, 10, 12, 13, 14, 0x10, 0x11, 0x12, 0x14, 0x15, 0x16, 0x18, 0x19, 0x1A]

/-- SEQ_STATUS (R308). -/
def seqStatus (s : State) (_ : Fin 8) (_ : Cmd) : State × Done :=
  okData s ((seqAddrs.map (fun o => wordOctets ((seqReg s o).getD 0))).flatten)

/-- R13, R305, R307: a SYS_REG_WRITE of a SEQ_ register: SEQ_POLICY once, and the event selections, which wait for a headland. -/
def State.seqWrite (s : State) (o : Nat) (v : Word) : State × Done :=
  if o = 0 then
    if fld v 1 39 ≠ 0 then refuse s .badParam
    else if s.seq.signed then refuse s .notPermitted
    else if !bit v 0 then okDone s
    else
      sealThen ((({ s with seq := { s.seq with signed := true } }).storeReg 0x0900 1).critWritten 43 1) []
  else if 0x18 ≤ o && o ≤ 0x1A then
    let n : Fin 3 := Fin.ofNat 3 (o - 0x18)
    if fld v 37 3 ≠ 0 then refuse s .badParam
    else
      let s := s.storeReg (0x0900 + o) v
      sealThen (s.modSeq n (fun q => if q.inRound then { q with evtNext := some v } else { q with evt := v })) []
  else refuse s .notPermitted

end Sys2Proof.Machine
end

