-- ==== Sys2Proof/Machine/Uwb.lean ====
section
/-!
DEFINITION. The UWB ranging tract: sessions, rounds, the distance bound, loop-back checks, the UWB_ registers, and the bodies of the UWB_
commands (spec/06_uwb_ranging_tract.md, R485, R486).
-/
namespace Sys2Proof.Machine

open Sys2Proof

/-- `s` with the UWB block changed. -/
def State.modUwb (s : State) (f : Uwb → Uwb) : State := { s with uwb := f s.uwb }

/-- Sets a flag of UWB_FLAGS. -/
def State.uwbFlag (s : State) (i : Nat) : State := s.modUwb (fun u => { u with flags := raiseFlag u.flags i })

/-- Session `n`. -/
def State.sess (s : State) (n : Fin 8) : Session := s.uwb.sessions[n]

/-- `s` with session `n` changed by `f`. -/
def State.modSess (s : State) (n : Fin 8) (f : Session → Session) : State :=
  s.modUwb (fun u => { u with sessions := u.sessions.set n (f u.sessions[n]) })

/-- The eight sessions. -/
def allSess : List (Fin 8) := [0, 1, 2, 3, 4, 5, 6, 7]

/-- The sessions that are open. -/
def Uwb.openMask (u : Uwb) : Nat := (allSess.map (fun n => if u.sessions[n].isOpen then 2 ^ n.val else 0)).sum

/-! ## VCORE for the radios (R137, R177, R393, R394) -/

/-- R137, R177: in IDLE and RUN-ECO VCORE rises for a round. Left open: DESIGN CHOICE, assumption log 34. -/
def State.boostUp (s : State) : State :=
  if s.pwr.state = .idle || (s.pwr.state = .run && s.pwr.profile = 0) then { s with pwr := { s.pwr with boost := true } } else s

/-- R137, R177, R394: VCORE falls again once no round needs it, and a profile change that waited ramps. -/
def State.boostDown (s : State) : State :=
  if s.pwr.boost && !s.fullRound && s.uwb.round.isNone then
    { s with pwr := { s.pwr with boost := false, ramping := s.pwr.ramping || s.pwr.profNext.isSome } }
  else s

/-! ## Timestamps and airtimes (R172, R173, R185) -/

/-- R172: timestamps wrap at 2^40. -/
def uwbWrap : Nat := 2 ^ 40

/-- R172: the interval from `a` to `b`, modulo 2^40. -/
def uwbSpan (b a : Nat) : Nat := (b + uwbWrap - a % uwbWrap) % uwbWrap

/-- R172: 1 µs in ticks. -/
def uwbUs : Nat := 159744

/-- R178: the slot length in ticks. -/
def Session.slotTicks (x : Session) : Nat := x.slot * 125 * uwbUs

/-- R180: the interval in ticks. -/
def Session.intervalTicks (x : Session) : Nat := x.interval * 1000 * uwbUs

/-- R185: the first 64-tick point at or after a timestamp. -/
def ceil64 (t : Nat) : Nat := (t + 63) / 64 * 64 % uwbWrap

/-- The slots of a session's method (R185). -/
def Session.slots (x : Session) : Nat := if x.method = 1 then 4 else 3

/-- The SHR of a frame in chips: preamble symbols and an 8-symbol SFD of 508 chips each (IEEE 802.15.4z, PRESUMED, assumption log 21).
Left open: PRESUMED, assumption log 21. -/
def shrChips (psr : Nat) : Nat := (psr + 8) * 508

/-- The airtime of a frame in chips: SHR, the STS with its gaps, and PHR with payload and FCS where the configuration has them (IEEE 802.15.4z,
PRESUMED, assumption log 21). `octets` is the payload of R186. Left open: PRESUMED, assumption log 21. -/
def airChips (psr cfg stsLen rate octets : Nat) : Nat :=
  let sts := if cfg = 0 then 0 else stsLen * 512 + 1024
  let bits := 8 * (octets + 11)
  let data := 21 * 512 + (bits + 48 * ((bits + 329) / 330)) * (if rate = 1 then 64 else 512)
  shrChips psr + sts + (if cfg = 3 then 0 else data)

/-- A time in chips as µs, rounded up. Left open: PRESUMED, assumption log 21. -/
def chipsUs (n : Nat) : Nat := (n * 10 + 4991) / 4992

/-- R184: the blocks of the STS counter that a round of a session takes: one for each 128 pulses, 64 pulses to a unit of 512 chips
(IEEE 802.15.4z, PRESUMED, assumption log 21). Left open: PRESUMED, assumption log 21. -/
def Session.stsBlocks (x : Session) : Nat := if x.stsCfg = 0 then 0 else (if x.method = 1 then 3 else 2) * (x.stsLen / 2)

/-- R173: RX0_DLY of a channel. -/
def Uwb.rxDelay (u : Uwb) (channel : Nat) : Nat := fld (if channel = 9 then u.cal[2] else u.cal[0]) 16 16

/-- R173: TX_DLY of a channel. -/
def Uwb.txDelay (u : Uwb) (channel : Nat) : Nat := fld (if channel = 9 then u.cal[2] else u.cal[0]) 0 16

/-! ## Duty (R202) -/

/-- R202: the on-time of the present sub-window and the 64 before it, in µs. -/
def State.uwbOn (s : State) : Nat := ((s.uwb.duty.filter (fun d => s.windowAge d.1 ≤ 64)).map (·.2)).sum

/-- R202: whether a frame of this airtime may be sent; DUTY_CAP counts 0.1 %. Left open: PRESUMED, assumption log 21. -/
def State.uwbDutyOk (s : State) (us : Nat) : Bool := s.uwbOn + us ≤ fld s.nvm.regUwb 11 10 * 1000

/-- R202: records airtime. -/
def State.uwbAddOn (s : State) (us : Nat) : State :=
  let old := s.uwb.duty.filter (fun d => s.windowAge d.1 ≤ 64)
  let k := s.subWindow
  let d := if old.any (fun d => d.1 = k) then old.map (fun d => if d.1 = k then (k, d.2 + us) else d) else old ++ [(k, us)]
  s.modUwb (fun u => { u with duty := d })

/-! ## Results and records (R188, R191 to R193, R241) -/

/-- A time of flight in ticks, as a fraction with a positive denominator. -/
structure Flight where
  num : Int
  den : Int
  deriving DecidableEq, Repr

/-- R188: double-sided: the four quantities in half ticks. -/
def flightDs (ra da rb db : Nat) : Flight :=
  { num := (ra : Int) * rb - (da : Int) * db, den := max 1 (2 * ((ra : Int) + rb + da + db)) }

/-- R188: single-sided, with the phone's clock offset in parts per 10^9. -/
def flightSs (ra db : Nat) (eps : Int) : Flight :=
  let k := 1000000000 + eps
  { num := (ra : Int) * k - (db : Int) * 1000000000, den := max 1 (4 * k) }

/-- R188: the distance in mm, rounded up. -/
def Flight.mm (t : Flight) : Int := -((-(t.num * 1876700787)) / (t.den * 1000000000))

/-- R191 condition 6: T is at or above -160 ticks. -/
def Flight.plausible (t : Flight) : Bool := -160 * t.den ≤ t.num

/-- R188, R191: the flight of a round by one of its two timings; `pick` takes the timestamp of an arrival. -/
def RangeRound.flight (r : RangeRound) (role : Nat) (pick : Timed → Nat) (rep : Nat × Nat) : Option Flight :=
  let rb := 5 * rep.1
  let db := 5 * rep.2
  if role = 0 then
    match r.pollTx, r.respRx, r.finalTx with
    | some t1, some a, some t5 =>
      if r.ss then some (flightSs (2 * uwbSpan (pick a) t1) db r.eps)
      else some (flightDs (2 * uwbSpan (pick a) t1) (2 * uwbSpan t5 (pick a)) rb db)
    | some t1, some a, none => some (flightSs (2 * uwbSpan (pick a) t1) db r.eps)
    | _, _, _ => none
  else
    match r.pollRx, r.respTx, r.finalRx with
    | some a, some t, some b => some (flightDs (2 * uwbSpan (pick b) t) (2 * uwbSpan t (pick a)) rb db)
    | _, _, _ => none

/-- The timed arrivals of a round, in order. -/
def RangeRound.timed (r : RangeRound) : List Timed := [r.pollRx, r.respRx, r.finalRx].filterMap id

/-- R191, R192: what a round comes to: a reason, 0 for a bound; the bound; and the two distances where they were computed. -/
structure Outcome where
  reason : Nat
  bound  : Nat
  da     : Option Int
  db     : Option Int
  deriving DecidableEq, Repr

/-- An outcome without a bound. Left open: DESIGN CHOICE, assumption log 29. -/
def Outcome.of (reason : Nat) : Outcome := { reason := reason, bound := 0xFFFF, da := none, db := none }

/-- R191: the conditions of a bound, in order, once REPORT has been accepted. Left open: DESIGN CHOICE, assumption log 29. -/
def RangeRound.judge (r : RangeRound) (x : Session) (guardCm : Nat) (rep : Nat × Nat) : Outcome :=
  match r.flight x.role (·.ta) rep, r.flight x.role (·.tb) rep with
  | some fa, some fb =>
    let a := fa.mm
    let b := fb.mm
    let o (reason : Nat) : Outcome := { reason := reason, bound := 0xFFFF, da := some a, db := some b }
    if 40000 < r.eps.natAbs then o 8
    else if r.timed.any (fun t => t.q < x.qmin) then o 2
    else if r.timed.any (fun t => !t.inside) then o 3
    else if !fa.plausible || !fb.plausible then o 9
    else if 300 < (a - b).natAbs then o 1
    else if !r.loopOk then o 6
    else { reason := 0, bound := min 65534 ((max (max a b) 0).toNat + guardCm * 10), da := some a, db := some b }
  | _, _ => Outcome.of 4

/-- R170, R184, R191: the outcome of a round that has ended. A session without an STS never gives a bound, and the result of a round whose
key was erased is withheld. -/
def RangeRound.outcome (r : RangeRound) (x : Session) (guardCm : Nat) : Outcome :=
  if r.erased then Outcome.of 14
  else if x.stsCfg = 0 then Outcome.of 10
  else match r.fail, r.report with
    | some f, _ => Outcome.of f
    | none, some rep => r.judge x guardCm rep
    | none, none => Outcome.of 13

/-- R191: BOUND is within the session's limit. -/
def Outcome.within (o : Outcome) (x : Session) : Bool := o.reason = 0 && o.bound ≤ x.limit * 10

/-- A number held within a signed field of `n` octets. -/
def clampS (n : Nat) (v : Int) : Int := max (-(2 ^ (8 * n - 1))) (min (2 ^ (8 * n - 1) - 1) v)

/-- The octets of a signed field. -/
def oS (n : Nat) (v : Int) : Octets := leOf n (twos (8 * n) (clampS n v))

/-- R193, R241: the ranging record. Fields to which the spec gives no value here are free values of the draw `k`.
Left open: DESIGN CHOICE, assumption log 29. -/
def rangingRecord (n : Fin 8) (x : Session) (r : RangeRound) (o : Outcome) (stamp : Word) (k : Nat) : Octets :=
  let last := r.timed.getLast?
  let angleOk := match last with | some t => t.angleOk | none => false
  let angle := match last with | some t => if t.angleOk then t.angle else Config.openField k 0 | none => Config.openField k 0
  let fl := b2n angleOk + 2 * b2n r.ss + 4 * b2n x.test + 8 * b2n (o.within x)
  let at_ (i : Nat) : Octets := match r.timed[i]? with
    | some t => o8 (min t.q 255) ++ oS 2 ((t.tb : Int) - t.ta)
    | none => leOf 3 (twos 24 (Config.openField k (3 + i)))
  o8 3 ++ o8 n.val ++ o8 o.reason ++ o8 fl ++ wordOctets x.id ++ wordOctets stamp ++ o16 o.bound
    ++ oS 3 (o.da.getD (Config.openField k 1)) ++ oS 3 (o.db.getD (Config.openField k 2)) ++ oS 2 angle ++ o8 r.timed.length
    ++ at_ 0 ++ at_ 1 ++ [0]

/-- R183, R241: the CLOSED record. -/
def closedRecord (n : Fin 8) (reason : Nat) (id stamp : Word) : Octets :=
  o8 4 ++ o8 n.val ++ o8 reason ++ [0] ++ wordOctets id ++ wordOctets stamp ++ [0, 0]

/-! ## Closing a session (R183) -/

/-- R183: a session closes for a reason: its CLOSED record is reported, and the replies that waited follow. -/
def State.closeSession (s : State) (n : Fin 8) (reason : Nat) : State :=
  let x := s.sess n
  if !x.isOpen then s
  else
    let os := closedRecord n reason x.id s.aon.tick
    let rec_ : RangeRec :=
      { octets := os, closed := true, id := x.id, reason := reason, bound := 0xFFFF, stamp := s.aon.tick, angle := 0, angleOk := false,
        ss := false, within := false, test := x.test, horizon := 0 }
    let s := s.modUwb (fun u => { u with
      sessions := u.sessions.set n { x with isOpen := false, closing := false }
      recs := u.recs.set n (some rec_) })
    let s := s.queueAll 2 os
    let s := s.finishWait (.sessionClose n) .ok []
    s.finishWhere (fun c => match c.wait? with | some (.range m _) => m = n | _ => false) (fun _ => (.wrongState, []))

/-- Every open session closes for a reason. -/
def State.closeAll (s : State) (reason : Nat) : State := allSess.foldl (fun s n => s.closeSession n reason) s

/-! ## Loop-back checks and calibration (R176, R195, R196) -/

/-- R195: estimator `i` places the pattern within ±4 ticks. -/
def loopGood (c : LoopCheck) (i : Nat) : Bool := (c.est.getD i 0).natAbs ≤ 4

/-- R195, R196: the estimators that fail a check. -/
def loopBad (c : LoopCheck) : BitVec 8 :=
  (List.range 8).foldl (fun m i => if loopGood c i then m else m ||| BitVec.ofNat 8 (2 ^ i)) 0

/-- R196: a FAILED mask leaves no type A or no type B estimator. Left open: DESIGN CHOICE, assumption log 29. -/
def noPair (failed : BitVec 8) : Bool := failed.toNat % 16 = 15 || failed.toNat / 16 = 15

/-- R196: FAILED takes a new value. -/
def State.setFailed (s : State) (m : BitVec 8) : State :=
  let s := if m &&& ~~~s.uwb.failed ≠ 0 then s.uwbFlag 5 else s
  s.modUwb (fun u => { u with failed := m })

/-- R196: ranging is disabled; the sessions close. A round in progress has its cause set first. -/
def State.disableRanging (s : State) : State :=
  let s := s.modUwb (fun u => { u with
    disabled := true
    flags := raiseFlag u.flags 1
    round := u.round.map (fun r => { r with fail := some 6, isOver := true }) })
  match s.uwb.round with
  | some r => allSess.foldl (fun s n => if n = r.session then s else s.closeSession n 7) s
  | none => s.closeAll 7

/-- R195, R196: the check of a round, which only adds to FAILED; it answers whether the check passed. -/
def State.roundCheck (s : State) (c : LoopCheck) : State × Bool :=
  let new := loopBad c &&& ~~~s.uwb.failed
  let pass := c.sampler && new = 0
  let s := s.setFailed (s.uwb.failed ||| loopBad c)
  if !c.sampler || noPair s.uwb.failed then (s.disableRanging, false) else (s, pass)

/-- R176, R196: a calibration with its check; `enable` says that it is a UWB_CALIBRATE, which alone enables ranging again. -/
def State.uwbCalibrated (s : State) (c : UwbCal) (enable : Bool) : State :=
  let s := s.modUwb (fun u =>
    let u := { u with calAt := s.aon.tick, calDue := false, radio := if u.radio = 0 then 4 else u.radio }
    if c.ok then { u with calValid := true, calTemp := c.temp } else { u with flags := raiseFlag u.flags 2 })
  let s := s.setFailed (loopBad c.loop)
  if !c.loop.sampler || noPair s.uwb.failed then s.disableRanging
  else if enable then s.modUwb (fun u => { u with disabled := false })
  else s

/-- R176: a calibration falls due; in a round it waits for a gap. -/
def State.uwbCalDue (s : State) (c : UwbCal) : State :=
  if s.uwb.radio ≠ 0 && (s.uwb.calDue || ticksOf (fld s.uwb.cfg 10 12) ≤ s.age s.uwb.calAt) then
    if s.uwb.round.isSome then s.modUwb (fun u => { u with calDue := true }) else s.uwbCalibrated c false
  else s

/-- R176: the die temperature has moved. -/
def State.uwbDrift (s : State) (temp : Int) (c : UwbCal) : State :=
  if s.uwb.radio ≠ 0 && s.uwb.round.isNone && fld s.uwb.cfg 22 6 ≤ (temp - s.uwb.calTemp).natAbs then s.uwbCalibrated c false else s

/-- UWB_STATUS. -/
def Uwb.status (u : Uwb) : Word :=
  put 0 3 u.radio ||| flag 3 u.round.isSome ||| put 4 3 (match u.round with | some r => r.session.val | none => 0)
    ||| put 7 8 u.openMask ||| flag 15 u.disabled ||| flag 16 u.calValid ||| flag 17 u.cir.isSome

/-- UWB_EST. -/
def Uwb.estWord (u : Uwb) : Word := put 0 8 u.failed.toNat ||| put 8 2 u.nextPair

/-- What a command observes of a UWB calibration. -/
def uwbCalObs : Obs → Bool × UwbCal
  | .uwbCal g c => (g, c)
  | _ => (true, { ok := true, temp := 0, loop := { sampler := true, est := [] } })

/-- UWB_CALIBRATE (R176, R196, R485), in a gap; BUSY where none comes within 100 ms. -/
def State.uwbCalWork (s : State) (obs : Obs) : State × Status × Octets :=
  if (uwbCalObs obs).1 then
    let s := s.uwbCalibrated (uwbCalObs obs).2 true
    (s, .ok, wordOctets s.uwb.status ++ wordOctets s.uwb.estWord)
  else (s, .busy, [])

/-- UWB_CALIBRATE. -/
def uwbCalibrate (s : State) (_ : Fin 8) (c : Cmd) : State × Done := (s, .await (.work c.obs))

/-! ## Configuration and radio (R173, R175, R204) -/

/-- R13, R205: a value of UWB_CFG sets a reserved bit or holds a reserved encoding. -/
def uwbCfgBad (v : Word) : Bool :=
  let t := fld v 10 12
  let d := fld v 22 6
  fld v 36 4 ≠ 0 || fld v 0 2 = 3 || fld v 2 8 < 10 || t < 5 || 3600 < t || d < 2 || 40 < d

/-- R204: UWB_CFG is written; during a round it waits for the headland. -/
def State.uwbCfgWrite (s : State) (v : Word) : State × Done :=
  if uwbCfgBad v then refuse s .badParam
  else if s.uwb.round.isSome then (s.modUwb (fun u => { u with cfgNext := some v }), .await .uwbApply)
  else okDone (s.modUwb (fun u => { u with cfg := v }))

/-- UWB_CONFIG (R204). -/
def uwbConfig (s : State) (_ : Fin 8) (c : Cmd) : State × Done := s.uwbCfgWrite (pW c.p 0)

/-- R173, R204: what waited for the headland takes effect, and the replies follow. -/
def State.uwbCfgApply (s : State) : State :=
  if s.uwb.round.isSome then s
  else
    let s := s.modUwb (fun u => { u with
      cfg := u.cfgNext.getD u.cfg
      cfgNext := none
      cal := u.calNext.foldl (fun c kv => c.set (Fin.ofNat 4 kv.1) kv.2) u.cal
      calNext := [] })
    s.finishWait .uwbApply .ok []

/-- R173: a SYS_REG_WRITE of UWB_CALcA or UWB_CALcB, by its place `i` of 0 to 3. -/
def State.uwbCalRegWrite (s : State) (i : Nat) (v : Word) : State × Done :=
  if (i % 2 = 0 && fld v 32 8 ≠ 0) || (i % 2 = 1 && bit v 39) then refuse s .badParam
  else if s.nvm.regLocked then refuse s .notPermitted
  else
    let s := s.storeReg (0x0610 + i) v
    let s := s.modUwb (fun u =>
      if u.round.isSome then { u with calNext := u.calNext ++ [(i, v)] } else { u with cal := u.cal.set (Fin.ofNat 4 i) v })
    sealThen s []

/-- UWB_RADIO_STATE (R175). -/
def uwbRadioState (s : State) (_ : Fin 8) (c : Cmd) : State × Done :=
  let r := p8 c.p 0
  let off := p8 c.p 1
  if (2 < r && r ≠ 255) || 1 < off then refuse s .badParam
  else if off = 1 && (s.uwb.openMask ≠ 0 || s.uwb.round.isSome) then refuse s .wrongState
  else
    let s := if r = 255 then s
      else s.modUwb (fun u => { u with cfg := setFld u.cfg 0 2 r, cfgNext := u.cfgNext.map (fun w => setFld w 0 2 r) })
    let s := if off = 1 then s.modUwb (fun u => { u with radio := 0, calValid := false, calDue := false }) else s
    okData s (o8 s.uwb.radio)

/-- R175: 10 ms pass with no session open. -/
def State.radioIdle (s : State) : State :=
  if s.uwb.openMask = 0 && s.uwb.round.isNone then s.modUwb (fun u => { u with radio := 0, calValid := false, calDue := false }) else s

/-- R175: UWB_CFG.RETURN_STATE as a radio state. -/
def Uwb.returnState (u : Uwb) : Nat := match fld u.cfg 0 2 with | 0 => 4 | 1 => 5 | _ => 1

/-- R202: the limits follow the regulatory record at a headland; a session on a channel no longer allowed closes. -/
def State.uwbRegulate (s : State) : State :=
  let new := s.nvm.reg.getD 10 0
  if new = s.nvm.regUwb || s.uwb.round.isSome then s
  else
    let s := ({ s with nvm := { s.nvm with regUwb := new } }).critWritten 19 1
    allSess.foldl (fun s n =>
      let ok := if (s.sess n).channel = 9 then bit new 1 else bit new 0
      if (s.sess n).isOpen && !ok then (s.uwbFlag 6).closeSession n 5 else s) s

/-! ## Sessions (R178 to R184) -/

/-- R178, R486: a parameter of UWB_SESSION_OPEN is out of its range. -/
def badSession (p : Octets) : Bool :=
  let win := p16 p 47
  let hz := p8 p 51
  let q := p8 p 52
  7 < p8 p 0 || 1 < p8 p 6 || 1 < p8 p 7 || (p8 p 7 = 0 && p8 p 6 = 1) || !(p8 p 8 = 5 || p8 p 8 = 9) || p8 p 9 < 9 || 12 < p8 p 9
    || !([32, 64, 128, 256, 1024].contains (p16 p 10)) || 1 < p8 p 12 || 3 < p8 p 13 || !([32, 64, 128, 256].contains (p16 p 14))
    || p8 p 40 < 2 || 39 < p8 p 40 || p16 p 41 < 48 || 2000 < p16 p 41 || 2000000 < p32 p 43
    || (win ≠ 0 && (win < 50 || 5000 < win)) || p16 p 49 < 30 || 4000 < p16 p 49 || 16 < hz || (q ≠ 0 && (q < 40 || 160 < q))
    || 3 < p8 p 53 || p16 p 54 ≠ 0 || (p8 p 13 = 0 && !pBit p 53 1)

/-- R178, R486: the session that the parameters of UWB_SESSION_OPEN describe. -/
def sessionOf (p : Octets) : Session :=
  let dflt (v d : Nat) : Nat := if v = 0 then d else v
  { isOpen := true, id := pW p 1, role := p8 p 6, method := p8 p 7, channel := p8 p 8, code := p8 p 9, psr := p16 p 10, rate := p8 p 12,
    stsCfg := p8 p 13, stsLen := p16 p 14, stsSlot := p8 p 16, macSlot := p8 p 17, v := BitVec.ofNat 128 (pN p 18 16), pan := p16 p 34,
    own := p16 p 36, peer := p16 p 38, slot := p8 p 40, interval := p16 p 41, window := dflt (p16 p 47) 1000, limit := p16 p 49,
    horizon := dflt (p8 p 51) 3, qmin := dflt (p8 p 52) 60, angle := pBit p 53 0, test := pBit p 53 1, round := 0, missed := 0,
    anchor := 0, closing := false }

/-- R179: the airtime of the longest frame of a session, in chips. -/
def Session.longest (x : Session) : Nat :=
  max (airChips x.psr x.stsCfg x.stsLen x.rate 5) (airChips x.psr 0 x.stsLen x.rate 24)

/-- R179: the timing of a session does not fit. -/
def Session.tooLong (x : Session) : Bool :=
  9734400 < shrChips x.psr + x.slots * x.slot * 62400 || x.slot * 62400 < x.longest + 9984

/-- R179: why a session is refused, once its credential is found. -/
def State.openRefusal (s : State) (x : Session) : Option Status :=
  let a := s.slot x.stsSlot
  let b := s.slot x.macSlot
  if a.st = .empty || b.st = .empty then some .keyEmpty
  else if a.st ≠ .written || b.st ≠ .written then some .keyErased
  else if a.usage ≠ 1 || a.size ≠ 0 || b.usage ≠ 3 || x.tooLong then some .badParam
  else if !(if x.channel = 9 then bit s.nvm.regUwb 1 else bit s.nvm.regUwb 0) then some .regulatoryLimit
  else if s.uwb.disabled then some .wrongState
  else none

/-- R179: a session opens; its first RMARKER lies START after the reply, on a count that starts undefined. -/
def State.openSession (s : State) (n : Fin 8) (x : Session) (start : Nat) : State × Done :=
  let first := ((Config.uwbCount s.free).toNat + start * uwbUs) % uwbWrap
  let s := s.draw.modUwb (fun u => { u with
    sessions := u.sessions.set n { x with anchor := first }
    recs := u.recs.set n none
    shown := u.shown.set n none })
  okData s (wordOctets (BitVec.ofNat 40 first))

/-- UWB_SESSION_OPEN (R178, R179, R486). -/
def uwbSessionOpen (s : State) (_ : Fin 8) (c : Cmd) : State × Done :=
  if badSession c.p then refuse s .badParam
  else
    let n : Fin 8 := Fin.ofNat 8 (p8 c.p 0)
    let x := sessionOf c.p
    if (s.sess n).isOpen then refuse s .busy
    else match s.find x.id with
      | (s, none) => refuse s .badParam
      | (s, some (_, m)) =>
        if m.cls ≠ 4 then refuse s .badParam
        else match s.openRefusal x with
          | some .regulatoryLimit => refuse (s.uwbFlag 6) .regulatoryLimit
          | some st => refuse s st
          | none =>
            let s := if s.uwb.radio = 0 then s.uwbCalibrated (uwbCalObs c.obs).2 false else s
            if s.uwb.disabled then refuse s .wrongState else s.openSession n x (p32 c.p 43)

/-- The round in progress is one of session `n`. -/
def State.rangingOn (s : State) (n : Fin 8) : Bool :=
  match s.uwb.round with
  | some r => r.session = n
  | none => false

/-- UWB_SESSION_CLOSE (R183). Left open: DESIGN CHOICE, assumption log 18. -/
def uwbSessionClose (s : State) (_ : Fin 8) (c : Cmd) : State × Done :=
  let n : Fin 8 := Fin.ofNat 8 (p8 c.p 0)
  if 7 < p8 c.p 0 || !(s.sess n).isOpen then refuse s .wrongState
  else if s.rangingOn n then
    (s.modSess n (fun x => { x with closing := true }), .await (.sessionClose n))
  else okDone (s.closeSession n 0)

/-- UWB_RANGE_NOW (R182). Left open: DESIGN CHOICE, assumption log 18. -/
def uwbRangeNow (s : State) (_ : Fin 8) (c : Cmd) : State × Done :=
  let n : Fin 8 := Fin.ofNat 8 (p8 c.p 0)
  if 7 < p8 c.p 0 || !(s.sess n).isOpen || (s.sess n).role = 1 then refuse s .wrongState
  else (s, .await (.range n s.aon.tick))

/-- A session for which a UWB_RANGE_NOW waits. -/
def State.rangeAsked (s : State) (n : Fin 8) : Bool :=
  allCtx.any (fun k => (s.ctx k).cmds.any (fun c => match c.wait? with | some (.range m _) => m = n | _ => false))

/-- R182: no gap came within 100 ms. -/
def State.rangeBusy (s : State) : State :=
  s.finishWhere (fun c => match c.wait? with
    | some (.range m t) => ticksMs 100 ≤ s.age t && !s.rangingOn m
    | _ => false) (fun _ => (.busy, []))

/-! ## The headland of a ranging round (R22, R175, R183, R184, R193, R242) -/

/-- R193, R241, R242: a result is delivered: its record, UWB_RESn, the counts, the event, and the replies that waited for it.
Left open: DESIGN CHOICE, assumption log 29. -/
def State.deliverRange (s : State) (r : RangeRound) (o : Outcome) : State :=
  let n := r.session
  let x := s.sess n
  let stamp := r.stamp.getD r.began
  let os := rangingRecord n x r o stamp s.free
  let s := s.draw
  let last := r.timed.getLast?
  let within := o.within x
  let rec_ : RangeRec :=
    { octets := os, closed := false, id := x.id, reason := o.reason, bound := o.bound, stamp := stamp,
      angle := signed 16 (pN os 22 2), angleOk := (match last with | some t => t.angleOk | none => false), ss := r.ss, within := within,
      test := x.test, horizon := x.horizon * x.interval * 32768 / 1000 }
  let news := match s.uwb.shown[n] with
    | some p => p.reason ≠ o.reason || p.within ≠ within
    | none => true
  let s := s.modUwb (fun u => { u with
    recs := u.recs.set n (some rec_)
    shown := u.shown.set n (some rec_)
    counts0 := if o.reason = 0 then bump u.counts0 0 else bump (bump u.counts0 0) 16 })
  let s := if within then { s with lf := { s.lf with idleSince := s.aon.calendar } } else s
  let s := if news || bit s.crd.cfg 6 then s.queueAll 2 os else s
  s.finishWhere (fun c => match c.wait? with | some (.range m _) => m = n | _ => false)
    (fun _ => (if o.reason = 0 then .ok else .rangeUncertain, os))

/-- R183, R184: why the session of a round closes at its headland. -/
def Uwb.closeReason (u : Uwb) (r : RangeRound) (x : Session) : Option Nat :=
  if x.closing then some 0
  else if r.erased then some 3
  else if r.stale then some 2
  else if u.disabled then some 7
  else if 32 ≤ x.missed then some 6
  else none

/-- R22: the headland of a ranging round; `deadline` says that its deadline brought it. Left open: DESIGN CHOICE, assumption log 29. -/
def State.rangeHeadland (s : State) (deadline : Bool) : State :=
  match s.uwb.round with
  | none => s.seqHeadland 1 deadline
  | some r =>
    let n := r.session
    let r := if r.ran && !r.isOver then { r with fail := some 13, isOver := true } else r
    let s := if r.cleared then s else if r.ran then s.deliverRange r (r.outcome (s.sess n) (fld s.uwb.cfg 2 8))
      else s.modSeq 1 (fun q => { q with counts := bumpBy q.counts 32 8 1 })
    let s := s.modSess n (fun x => { x with
      round := (x.round + 1) % 2 ^ 32
      missed := if r.ran && x.role = 1 then (if r.pollRx.isSome then 0 else if r.noPoll then x.missed + 1 else x.missed) else x.missed })
    let s := s.modUwb (fun u => { u with
      round := none
      radio := u.returnState
      nextPair := (r.index + 1) % 4
      cir := if bit u.cfg 29 && r.ran then some r.timed else u.cir })
    let s := match s.uwb.closeReason r (s.sess n) with
      | some k => s.closeSession n k
      | none => s
    (((((s.uwbCfgApply).uwbRegulate).coexFree 2).coexApplyAll).seqHeadland 1 deadline).boostDown

/-! ## Preparation and the slot sequence (R181, R185, R189 to R194) -/

/-- R180: the grid moves on by one interval. -/
def State.nextGrid (s : State) (n : Fin 8) : State :=
  s.modSess n (fun x => { x with anchor := (x.anchor + x.intervalTicks) % uwbWrap })

/-- A round of session `n` that has not begun to range. Left open: DESIGN CHOICE, assumption log 29. -/
def Session.newRound (x : Session) (n : Fin 8) (extra : Bool) (now : Word) (key : Octets) : RangeRound :=
  { session := n, extra := extra, stamp := none, began := now, index := x.round, grid := if extra then none else some x.anchor,
    macKey := key, stale := false, erased := false, ran := false, pollTx := none, pollRx := none, respRx := none, respTx := none,
    finalTx := none, finalRx := none, report := none, eps := 0, ss := false, loopOk := true, noPoll := false, fail := none, isOver := false,
    blanked := false, cleared := false }

/-- R184: what latching the two key slots of a session gives: the report MAC key, or the reason to close, or only KEY.
Left open: DESIGN CHOICE, assumption log 29. -/
def State.latchSession (s : State) (x : Session) : Except (Option Nat) Octets :=
  match s.latch x.stsSlot, s.latch x.macSlot with
  | .key _, .key k => .ok k
  | .erased, _ => .error (some 3)
  | .empty, _ => .error (some 3)
  | _, .erased => .error (some 3)
  | _, .empty => .error (some 3)
  | _, _ => .error none

/-- A round that gives a result without ranging, for a cause. -/
def State.rangeRefused (s : State) (r : RangeRound) (cause : Nat) : State :=
  let r := { r with ran := true, isOver := true, fail := some cause }
  let s := s.deliverRange r (r.outcome (s.sess r.session) (fld s.uwb.cfg 2 8))
  s.modSess r.session (fun x => { x with round := (x.round + 1) % 2 ^ 32 })

/-- R181, R184, R195: a round of a session starts: its keys are latched, the STS counter is taken, the first check runs, and the ranging
sequencer is entered. -/
def State.startRange (s : State) (n : Fin 8) (extra : Bool) (c : LoopCheck) : State :=
  let x := s.sess n
  match s.latchSession x with
  | .error k =>
    let s := (s.afterLatch x.stsSlot).afterLatch x.macSlot
    let s := s.rangeRefused (x.newRound n extra s.aon.tick []) 14
    match k with
    | some reason => s.closeSession n reason
    | none => s
  | .ok key =>
    let v := x.v.toNat % 2 ^ 32
    if 2 ^ 32 - 1 < v + x.stsBlocks then s.closeSession n 4
    else
      let r := { x.newRound n extra s.aon.tick key with blanked := s.coexBlanked 2 }
      let s := s.modSess n (fun x => { x with v := x.v + BitVec.ofNat 128 x.stsBlocks })
      let s := (s.coexSlot 2).coexAsk 2 true
      let s := s.modUwb (fun u => { u with round := some { r with blanked := s.coexBlanked 2 }, radio := if u.radio = 1 then 2 else 4 })
      let s := s.boostUp.seqEnter 1 n.val (b2n extra) (s.sq 1).image.entry0
      let (s, pass) := s.roundCheck c
      let s := s.modUwb (fun u => { u with round := u.round.map (fun r => { r with loopOk := pass }) })
      if s.uwb.disabled then s.modUwb (fun u => { u with round := u.round.map (fun r => { r with ran := true }) }) else s

/-- R181, R182: the preparation of a scheduled or an extra round. Left open: DESIGN CHOICE, assumption log 29. -/
def State.prepareRange (s : State) (n : Fin 8) (extra : Bool) (c : LoopCheck) : State :=
  let x := s.sess n
  let up := !s.sys.faultBoot && s.pwr.start.isNone && (s.pwr.state = .run || s.pwr.state = .idle)
  if !x.isOpen || !up then s
  else if extra then
    if s.uwb.round.isSome || !s.pwr.xoOk || !s.rangeAsked n || x.role = 1 || !s.seqReady 1 then s
    else if !s.uwb.calValid then s.rangeRefused (x.newRound n true s.aon.tick []) 6
    else s.startRange n true c
  else if s.uwb.round.isSome then
    (s.modUwb (fun u => { u with counts1 := bump u.counts1 16, flags := raiseFlag u.flags 7 })).nextGrid n
  else if !s.seqReady 1 || !s.pwr.xoOk then (s.modSeq 1 (fun q => { q with counts := bumpBy q.counts 32 8 1 })).nextGrid n
  else if !s.uwb.calValid then (s.rangeRefused (x.newRound n false s.aon.tick []) 6).nextGrid n
  else (s.startRange n false c).nextGrid n

/-- What a round waits for next. -/
inductive RangeStep where
  | txPoll | rxResponse | txFinal | rxPoll | txResponse | rxFinal | rxReport
  deriving DecidableEq, Repr

/-- R185: the next slot of the sequence. -/
def RangeRound.next (r : RangeRound) (x : Session) : RangeStep :=
  if x.role = 0 then
    if r.pollTx.isNone then .txPoll
    else if r.respRx.isNone then .rxResponse
    else if x.method = 1 && r.finalTx.isNone && !r.ss then .txFinal
    else .rxReport
  else
    if r.pollRx.isNone then .rxPoll
    else if r.respTx.isNone then .txResponse
    else if r.finalRx.isNone then .rxFinal
    else .rxReport

/-- The round in progress changed by `f`. -/
def State.modRange (s : State) (f : RangeRound → RangeRound) : State := s.modUwb (fun u => { u with round := u.round.map f })

/-- R292: the slot sequence ends: RANGE returns the reason, and the line of the result is latched. -/
def State.rangeOver (s : State) : State :=
  match s.uwb.round with
  | some r => (s.elementDone 1 0 (r.outcome (s.sess r.session) (fld s.uwb.cfg 2 8)).reason).line12 1
  | none => s

/-- The round ends without a bound, for a cause. -/
def State.rangeFail (s : State) (cause : Nat) : State :=
  (s.modRange (fun r => { r with fail := r.fail.or (some cause), isOver := true })).rangeOver

/-- R292: the RANGE instruction, with the session its RB names. -/
def State.rangeInstr (s : State) (rb : Word) (ra : Fin 8) : State :=
  let order : State := s.modSeq 1 (fun q => { q.setReg ra (put 0 8 3) with pc := q.pc + 1 })
  match s.uwb.round with
  | some r =>
    if rb.toNat ≠ r.session.val || !(s.sess r.session).isOpen || r.ran then order
    else
      let s := (s.modSeq 1 (fun q => { q with stall := .element ra })).modRange (fun r => { r with ran := true })
      if r.isOver then s.rangeOver
      else if (s.sess r.session).role = 1 then
        if s.coexRefused 2 then (s.uwbFlag 3).rangeFail 11
        else s.modUwb (fun u => { u with radio := if u.radio = 2 then 2 else 5 })
      else s
  | none => order

/-- R194: a device frame is skipped. -/
def State.txSkipped (s : State) : State := s.modUwb (fun u => { u with flags := raiseFlag u.flags 0, counts1 := bump u.counts1 0 })

/-- R194, R201, R202: why a device frame cannot be sent: its reason. `first` says that it is the first of the round. -/
def State.txRefusal (s : State) (r : RangeRound) (x : Session) (late first : Bool) : Option Nat :=
  if r.erased then some 14
  else if late || s.uwb.radio = 2 then some 5
  else if s.coexRefused 2 || (r.blanked && !first) || (r.blanked && first) then some 11
  else if !s.uwbDutyOk (chipsUs (airChips x.psr x.stsCfg x.stsLen x.rate 5)) then some 12
  else none

/-- R185, R194: a device frame's transmit time comes. `raw` is the count at which a POLL of an extra round leaves. -/
def State.frameDue (s : State) (raw : Nat) (late : Bool) : State :=
  match s.uwb.round with
  | none => s
  | some r =>
    let x := s.sess r.session
    let step := r.next x
    if !r.ran || r.isOver || !(step = .txPoll || step = .txFinal || step = .txResponse) then s
    else
      let first := step ≠ .txFinal
      match s.txRefusal r x late first with
      | some cause =>
        let s := s.txSkipped
        let s := if cause = 11 && first then s.uwbFlag 3 else if cause = 12 then s.uwbFlag 4 else s
        if step = .txFinal && cause ≠ 14 then s.modRange (fun r => { r with ss := true }) else s.rangeFail cause
      | none =>
        let s := s.uwbAddOn (chipsUs (airChips x.psr x.stsCfg x.stsLen x.rate 5))
        let s := s.modUwb (fun u => { u with radio := 5 })
        match step with
        | .txPoll =>
          let t := r.grid.getD ((raw + s.uwb.txDelay x.channel) % uwbWrap)
          s.modRange (fun r => { r with pollTx := some t, stamp := some s.aon.tick })
        | .txFinal =>
          s.modRange (fun r => { r with finalTx := r.respRx.map (fun a => ceil64 (a.ta + x.slotTicks)) })
        | _ => s.modRange (fun r => { r with respTx := r.pollRx.map (fun a => ceil64 (a.ta + x.slotTicks)) })

/-- R194: the synthesiser locks. -/
def State.synthLock (s : State) : State :=
  if s.uwb.radio = 2 then
    let rx := match s.uwb.round with | some r => r.ran && (s.sess r.session).role = 1 | none => false
    s.modUwb (fun u => { u with radio := if rx then 5 else 4 })
  else s

/-- R189: pair `p` is whole. -/
def pairUp (failed : BitVec 8) (p : Nat) : Bool := !failed.getLsbD p && !failed.getLsbD (p + 4)

/-- R189: the pair of an arrival: the first whole one from (r + n) mod 4. -/
def pairOf (failed : BitVec 8) (k : Nat) : Option Nat := ((List.range 4).map (fun i => (k + i) % 4)).find? (pairUp failed)

/-- R198: how many thresholds of 0.05, 0.15, 0.25, ... degrees a sine reaches: the angle in 0.1 degrees, to the nearest. The sine is
`num / den`, at most that of 60.05 degrees. -/
def asinCount (num den : Int) : Nat → Int → Int → Nat
  | 0, _, _ => 0
  | k + 1, si, co =>
    if si * den ≤ num * 1000000000000000 then
      asinCount num den k ((si * 999998476913288 + co * 1745328365898) / 1000000000000000)
        ((co * 999998476913288 - si * 1745328365898) / 1000000000000000) + 1
    else 0

/-- R198: the angle of an arrival in 0.1 degrees, where it is valid. Left open: DESIGN CHOICE, assumption log 29. -/
def Uwb.angleOf (u : Uwb) (x : Session) (a : Arrival) : Option Int :=
  let b := if x.channel = 9 then u.cal[3] else u.cal[1]
  let lam : Int := if x.channel = 9 then 37534 else 46196
  let d : Int := fld b 28 11
  let num := (a.dphi - signed 12 (fld b 16 12)) * lam
  let den := 4096 * d * 100
  let m : Int := num.natAbs
  if x.angle && bit u.cfg 28 && 0 < d && d * 200 ≤ lam && m ≤ den && 4 * (m * m) ≤ 3 * (den * den) && x.qmin ≤ a.q0 && x.qmin ≤ a.q1 then
    let k : Int := asinCount m den 600 872664515235 999999619228249
    some (if 0 ≤ num then k else -k)
  else none

/-- R199: the CIRs of an arrival, in block form: preamble and STS of each port. -/
def cirsOf (a : Arrival) : List Octets :=
  a.cirs.mapIdx (fun i l =>
    let n := if i % 2 = 0 then 1024 else 512
    blocks16 true ((l ++ List.replicate n (0, 0)).take n))

/-- R173, R189, R198: an arrival as the round keeps it. -/
def State.timedOf (s : State) (x : Session) (a : Arrival) (p : Nat) : Timed :=
  let d := s.uwb.rxDelay x.channel
  let th := s.uwb.angleOf x a
  { a := p, b := p + 4, ta := uwbSpan a.ta d, tb := uwbSpan a.tb d, q := a.q0, inside := a.inside, angle := th.getD 0, angleOk := th.isSome,
    cirs := cirsOf a }

/-- R187 to R197: a timed reception in the slot that expects it; `msg` is its MSG and `last` says that it is the last of the round. -/
def State.arrival (s : State) (want : RangeStep) (msg : Nat) (last : Bool) (a : Arrival) : State :=
  match s.uwb.round with
  | none => s
  | some r =>
    let x := s.sess r.session
    if !r.ran || r.isOver || r.next x ≠ want || !a.ours || (x.stsCfg ≠ 3 && a.msg ≠ msg) then s
    else if !a.clean then s.rangeFail 6
    else if a.fault then s.cipherFault.rangeFail 14
    else if s.quarantined then s.rangeFail 14
    else if r.blanked then s.rangeFail 11
    else match pairOf s.uwb.failed (r.index + r.timed.length) with
      | none => s.rangeFail 6
      | some p =>
        let t := s.timedOf x a p
        let s := s.modUwb (fun u => { u with nextPair := (pairOf u.failed (r.index + r.timed.length + 1)).getD u.nextPair })
        let s := s.modRange (fun r =>
          let r := { r with eps := if r.eps.natAbs < a.eps.natAbs then a.eps else r.eps }
          match want with
          | .rxPoll => { r with pollRx := some t, stamp := some s.aon.tick }
          | .rxResponse => { r with respRx := some t }
          | _ => { r with finalRx := some t })
        let s := if want = .rxPoll then s.modSess r.session (fun x => { x with anchor := (t.ta + x.intervalTicks) % uwbWrap }) else s
        if last then
          let (s, pass) := s.roundCheck a.loop
          let s := s.modRange (fun r => { r with loopOk := r.loopOk && pass })
          if s.uwb.disabled then s.rangeOver else s
        else s

/-- R186, R187: the flags a REPORT needs: both for a double-sided exchange, REPLY_VALID for a single-sided one. -/
def RangeRound.needs (r : RangeRound) (x : Session) : Nat := if x.method = 1 && !r.ss then 3 else 2

/-- R187: a REPORT comes: its MAC, its round and its flags are checked, and the round is over. -/
def State.reportIn (s : State) (ours fault : Bool) (os : Octets) : State :=
  match s.uwb.round with
  | none => s
  | some r =>
    let x := s.sess r.session
    if !r.ran || r.isOver || r.next x ≠ .rxReport || !ours then s
    else if fault then s.cipherFault.rangeFail 14
    else if s.quarantined then s.rangeFail 14
    else
      let fl := p8 os 15
      let need := r.needs x
      let mac := (cmac64 r.macKey (os.take 16)).toNat = p64 os 16
      if os.length ≠ 24 || p8 os 0 ≠ 4 || !mac || p32 os 1 ≠ r.index || fl % 4 &&& need ≠ need || fl / 4 ≠ 0 then s.rangeFail 7
      else (s.modRange (fun r => { r with report := some (pN os 5 5, pN os 10 5), isOver := true })).rangeOver

/-- R180, R194: a slot in which a phone frame is expected ends without a valid one. -/
def State.receiveSlotEnd (s : State) : State :=
  match s.uwb.round with
  | none => s
  | some r =>
    let step := r.next (s.sess r.session)
    if !r.ran || r.isOver || step = .txPoll || step = .txFinal || step = .txResponse then s
    else
      let s := if step = .rxPoll then s.modRange (fun r => { r with noPoll := true }) else s
      s.rangeFail 4

/-! ## CIR export (R199) -/

/-- R199: the estimator record of an arrival. -/
def Timed.estRecord (t : Timed) : Octets :=
  o8 t.a ++ o8 t.b ++ leOf 5 t.ta ++ leOf 5 t.tb ++ o8 (min t.q 255) ++ o8 (b2n t.inside) ++ [0, 0]

/-- UWB_CIR_READ (R199, R485). -/
def uwbCirRead (s : State) (_ : Fin 8) (c : Cmd) : State × Done :=
  let arr := p8 c.p 0
  let port := p8 c.p 1
  let kind := p8 c.p 2
  let n := p16 c.p 5
  if 1 < arr || (1 < port && kind ≠ 2) || 2 < kind || n = 0 || 1000 < n then refuse s .badParam
  else match s.uwb.cir with
    | none => refuse s .blank
    | some l => match l[arr]? with
      | none => refuse s .blank
      | some t =>
        let d := if kind = 2 then t.estRecord else t.cirs.getD (2 * port + kind) []
        okData s (o16 d.length ++ (d.drop (p16 c.p 3)).take n)

/-! ## UWB_ registers (R205) -/

/-- R205: the code of a preamble length. -/
def psrCode (psr : Nat) : Nat := if psr = 32 then 0 else if psr = 64 then 1 else if psr = 128 then 2 else if psr = 256 then 3 else 4

/-- UWB_SESSn. -/
def Session.word (x : Session) : Word :=
  if !x.isOpen then 0
  else flag 0 true ||| put 1 1 x.role ||| put 2 1 x.method ||| flag 3 (x.channel = 9) ||| put 4 2 x.stsCfg ||| put 6 1 x.rate
    ||| put 7 2 (x.code - 9) ||| put 9 3 (psrCode x.psr) ||| put 12 11 x.interval ||| put 23 12 x.limit ||| put 35 4 (x.horizon - 1)
    ||| flag 39 x.test

/-- UWB_RESn. -/
def resWord (r : Option RangeRec) : Word :=
  match r with
  | none => put 0 16 0xFFFF
  | some r =>
    put 0 16 r.bound ||| put 16 4 r.reason ||| put 20 12 (twos 12 r.angle) ||| flag 32 r.angleOk ||| flag 33 r.ss ||| flag 34 r.within

/-- The UWB_ registers, by offset in page 0x0600. -/
def uwbReg (s : State) (o : Nat) : Option Word :=
  let u := s.uwb
  match o with
  | 0x00 => some u.status
  | 0x01 => some u.flags
  | 0x02 => some u.cfg
  | 0x03 => some u.estWord
  | 0x04 => some u.counts0
  | 0x05 => some u.counts1
  | 0x06 => some (setFld s.nvm.regUwb 21 1 (b2n s.nvm.regLocked))
  | 0x08 => some s.uhf.coex[0].cfg
  | 0x09 => some s.uhf.coex[1].cfg
  | 0x10 => some u.cal[0]
  | 0x11 => some u.cal[1]
  | 0x12 => some u.cal[2]
  | 0x13 => some u.cal[3]
  | _ =>
    if 0x20 ≤ o && o < 0x28 then some (s.sess (Fin.ofNat 8 (o - 0x20))).word
    else if 0x30 ≤ o && o < 0x38 then some (resWord u.shown[Fin.ofNat 8 (o - 0x30)])
    else none

end Sys2Proof.Machine
end

