-- ==== Sys2Proof/Machine/Harvest.lean ====
section
/-!
DEFINITION. Harvest: receivers, release periods, sheaves, speed reports, locks and lock drivers, the always-on inputs, the HRV_ registers,
and the bodies of the HRV_ commands (spec/08_harvest.md, R28 to R33, R488, R510).
-/
namespace Sys2Proof.Machine

open Sys2Proof

/-- `s` with the harvest block changed. -/
def State.modHrv (s : State) (f : Hrv → Hrv) : State := { s with hrv := f s.hrv }

/-- Sets a flag of HRV_FLAGS. -/
def State.hrvFlag (s : State) (i : Nat) : State := s.modHrv (fun h => { h with flags := raiseFlag h.flags i })

/-- Receiver `n`. -/
def State.rx (s : State) (n : Fin 4) : Receiver := s.hrv.rx[n]

/-- The four receivers. -/
def allRx : List (Fin 4) := [0, 1, 2, 3]

/-- The mask of armed receivers. -/
def Hrv.armedMask (h : Hrv) : Nat := (allRx.map (fun n => if h.rx[n].armed then 2 ^ n.val else 0)).sum

/-- Whether a receiver is armed. -/
def Hrv.anyArmed (h : Hrv) : Bool := h.rx.toList.any Receiver.armed

/-! ## HRV_POLICY0 and HRV_POLICY1 (R279) -/

/-- CADENCE_MS. -/
def Hrv.cadence (h : Hrv) : Nat := fld h.policy0 0 10
/-- RAMP, in units of 0.5 km/h per second. -/
def Hrv.ramp (h : Hrv) : Nat := fld h.policy0 13 6
/-- VMAX. -/
def Hrv.vmax (h : Hrv) : Nat := fld h.policy1 16 16

/-- R13, R279: a value of HRV_POLICY0 sets a reserved bit or holds a reserved value. -/
def policy0Bad (v : Word) : Bool :=
  fld v 30 10 ≠ 0 || fld v 0 10 < 20 || 1000 < fld v 0 10 || fld v 11 2 < 2 || fld v 13 6 < 2 || 40 < fld v 13 6
    || fld v 19 10 < 10 || 600 < fld v 19 10

/-- R13, R279: a value of HRV_POLICY1 sets a reserved bit or holds a reserved value. -/
def policy1Bad (v : Word) : Bool := fld v 32 8 ≠ 0 || fld v 16 16 < 10 || 1000 < fld v 16 16

/-- R278: the policy registers take values, stored in the parameter pages. -/
def State.hrvPolicyWrite (s : State) (a b : Word) : State × Done :=
  if policy0Bad a || policy1Bad b then refuse s .badParam
  else
    let s := s.modHrv (fun h => { h with policy0 := a, policy1 := b })
    sealThen (s.storeWords (paramAddr 0x0802) [a, b]) []

/-- HRV_POLICY (R278). -/
def hrvPolicy (s : State) (_ : Fin 8) (c : Cmd) : State × Done := s.hrvPolicyWrite (pW c.p 0) (pW c.p 5)

/-- R278: a SYS_REG_WRITE of HRV_POLICY0 or HRV_POLICY1. -/
def State.hrvWrite (s : State) (o : Nat) (v : Word) : State × Done :=
  if o = 2 then s.hrvPolicyWrite v s.hrv.policy1
  else if o = 3 then s.hrvPolicyWrite s.hrv.policy0 v
  else refuse s .notPermitted

/-! ## Receivers and counters (R247 to R249, R257, R258) -/

/-- HRV_RXn_CFG. -/
def Receiver.cfgWord (r : Receiver) : Word := put 0 24 r.mac.toNat ||| flag 24 r.configured ||| flag 25 r.source

/-- HRV_RXn_ADDR. -/
def Receiver.addrWord (r : Receiver) : Word := put 0 24 (r.mac.toNat / 2 ^ 24)

/-- R249: the configuration of a receiver is stored in the parameter pages. -/
def State.storeRx (s : State) (n : Fin 4) : State :=
  (s.storeReg (0x0810 + n.val) (s.rx n).cfgWord).storeReg (0x0814 + n.val) (s.rx n).addrWord

/-- R249: the armed state of a receiver is stored in the parameter pages. -/
def State.storeArmed (s : State) (n : Fin 4) (on : Bool) : State :=
  let s := s.storeReg (0x081C + n.val) (put 0 1 (b2n on))
  s.modRx n (fun r => { r with ticket := s.nvm.ticket })

/-- HRV_RECEIVER_CONFIG (R247). -/
def hrvReceiverConfig (s : State) (_ : Fin 8) (c : Cmd) : State × Done :=
  let n : Fin 4 := Fin.ofNat 4 (p8 c.p 0)
  let source := pBit c.p 7 0
  if 3 < p8 c.p 0 || pBit c.p 1 0 || 1 < p8 c.p 7 then refuse s .badParam
  else if (s.rx n).unit ≠ .off then refuse s .wrongState
  else if source && allRx.any (fun m => m ≠ n && (s.rx m).source) then refuse s .badParam
  else
    let s := s.modRx n (fun r => { r with mac := BitVec.ofNat 48 (p48 c.p 1), configured := true, source := source })
    sealThen (s.storeRx n) []

/-- R257: the tally counter behind a receiver's counter. -/
def rxTally (n : Fin 4) : Fin 32 := Fin.ofNat 32 (3 + n.val)

/-- R258: the next block would take the counter past 0xFF_FFFF_FFFF. -/
def State.rxExhausted (s : State) (n : Fin 4) : Bool := 2 ^ 24 ≤ s.nvm.tally (rxTally n) + 1

/-- R257: the next block of a receiver's counter is reserved, unless it is under way or would pass the end. -/
def State.rxReserve (s : State) (n : Fin 4) : State :=
  if (s.rx n).reserving || s.rxExhausted n then s
  else (s.startTally (rxTally n) (.rx n)).modRx n (fun r => { r with reserving := true })

/-- R257: a reserved block is ready: it is used at once where no value remains, and otherwise follows the present one. -/
def State.rxBlock (s : State) (n : Fin 4) (value : Nat) : State :=
  s.modRx n (fun r =>
    if r.next < r.blockEnd then { r with reserving := false, nextBlock := some (value * 65536) }
    else { r with reserving := false, next := value * 65536, blockEnd := value * 65536 + 65536 })

/-- R248: STARTING: no value remains of an earlier block, and one is reserved. -/
def State.rxStarting (s : State) (n : Fin 4) : State :=
  (s.modRx n (fun r => { r with next := 0, blockEnd := 0, nextBlock := none })).rxReserve n

/-- R248, R258: why a receiver cannot be armed. -/
def State.armRefusal (s : State) (n : Fin 4) : Option Status :=
  let k := s.slot (10 + n.val)
  if !(s.rx n).configured then some .wrongState
  else if k.st = .empty then some .keyEmpty
  else if k.st ≠ .written then some .keyErased
  else if k.usage ≠ 6 then some .badParam
  else if s.rxExhausted n && (s.rx n).unit = .off then some .nonceExhausted
  else none

/-- R249: a command changed the armed state: the change is stored, and an answer of the moment waits for the seal. -/
def State.armStored (s : State) (n : Fin 4) (before : UnitState) (on : Bool) (d : Done) : State × Done :=
  if (s.rx n).unit = before then (s, d)
  else
    let s := s.storeArmed n on
    let s := { s with nvm := s.nvm.startCommit }
    match d with
    | .reply st os => (s, .await (.seal s.nvm.ticket st os))
    | .await w => (s, .await w)

/-- HRV_ARM: arm (R248). -/
def State.armRx (s : State) (k : Fin 8) (c : Cmd) (n : Fin 4) : State × Done :=
  match s.armRefusal n with
  | some st => refuse s st
  | none =>
    let before := (s.rx n).unit
    let (u, s, d) := s.unitCommand k c (.rx n) before true
    let s := s.modRx n (fun r => { r with unit := u })
    let s := if before = .off then s.rxStarting n else s
    s.armStored n before true d

/-- HRV_ARM: disarm (R248, R298): without release periods OFF is reached at once. -/
def State.disarmRx (s : State) (k : Fin 8) (c : Cmd) (n : Fin 4) : State × Done :=
  if (s.rx n).armed && (s.rx n).level ≠ 0 then refuse s .wrongState
  else
    let before := (s.rx n).unit
    if before = .on && (s.sq 2).unit ≠ .on then
      let s := (s.modRx n (fun r => { r with unit := .off })).storeArmed n false
      sealThen s []
    else
      let (u, s, d) := s.unitCommand k c (.rx n) before false
      (s.modRx n (fun r => { r with unit := u })).armStored n before false d

/-- HRV_ARM (R248, R488). -/
def hrvArm (s : State) (k : Fin 8) (c : Cmd) : State × Done :=
  let n : Fin 4 := Fin.ofNat 4 (p8 c.p 0)
  if 3 < p8 c.p 0 || 1 < p8 c.p 1 then refuse s .badParam
  else if p8 c.p 1 = 1 then s.armRx k c n
  else s.disarmRx k c n

/-- R63, R249: a receiver has reached ON or OFF: the replies follow the seal. -/
def State.rxReached (s : State) (n : Fin 4) (on : Bool) : State :=
  let t := (s.rx n).ticket
  let s := s.rewait (fun c => if c.wait? = some (.unit (.rx n) on) then some (.seal t .ok []) else none)
  s.reportDeferred (.rx n) on .ok

/-- R248: a receiver that drains reaches OFF, and STARTING again where an arm waits. -/
def State.rxOff (s : State) (n : Fin 4) : State :=
  let again := (s.rx n).unit = .restartPending
  let s := (s.modRx n (fun r => { r with unit := if again then .starting else .off })).rxReached n false
  if again then s.rxStarting n else s

/-- R248: STARTING ends once its block is ready: ON, with the last level taken as DENY. A receiver that drains while no period runs reaches
OFF (R298). -/
def State.rxReach (s : State) (n : Fin 4) : State :=
  let r := s.rx n
  match r.unit.reach with
  | some (u, true) =>
    if r.next < r.blockEnd then
      ((s.modRx n (fun r => { r with unit := u, first := true, level := 0, told := 0, lastCap := none, denySince := s.aon.tick })).critWritten
        (6 + n.val) 1).rxReached n true
    else s
  | some (_, false) => if (s.sq 2).unit ≠ .on && s.hrv.period.isNone then s.rxOff n else s
  | none => s

/-! ## Motion (R259 to R261) -/

/-- R26: the horizon of a motion fact: 3 release periods, in ticks. Left open: DESIGN CHOICE, assumption log 30. -/
def State.factFresh (s : State) (stamp : Word) : Bool := s.age stamp * 1000 ≤ 3 * s.hrv.cadence * 32768

/-- R262: the fresh speed, where there is one. -/
def State.freshSpeed (s : State) : Option Nat :=
  match s.hrv.fact with
  | some (v, t) => if s.factFresh t then some v else none
  | none => none

/-- R247: whether a receiver holds MOTION_SRC, and which. -/
def Hrv.source? (h : Hrv) : Option (Fin 4) := allRx.find? (fun n => h.rx[n].source)

/-- R261: whether the vehicle counts as moving. -/
def State.movingNow (s : State) : Bool :=
  match s.hrv.source?, s.freshSpeed with
  | some _, some v => decide (30 < v)
  | _, _ => true

/-- R255, R259: the nonce of a release packet. -/
def releaseNonce (self : Word) (n counter dir keygen : Nat) : Octets :=
  octs (beOf 5 self.toNat) ++ o8 n ++ octs (beOf 5 counter) ++ o8 dir ++ o8 keygen

/-- R253: the header of a release packet. -/
def releaseHeader (counter opcode len : Nat) : Octets := headerOctets 0x13 0 (counter % 65536) opcode 0 len

/-- R260: the checks of a speed report; the receiver and the counter it names. -/
def State.reportOk (s : State) (f : Frame) : Option (Fin 4 × Nat) :=
  let p := f.payload
  let n : Fin 4 := Fin.ofNat 4 (p8 p 12)
  let kg := p8 p 13
  let ctr := pN p 14 5
  let r := s.rx n
  let known := r.sent.any (fun x => x.1 = ctr && x.2.1 = kg && s.hrv.periods < x.2.2 + 3)
  let above := match r.reported with | some c => decide (c < ctr) | none => true
  if 3 < p8 p 12 || p.length < 29 || f.src ≠ r.mac || !r.source || !known || !above || p.take 12 ≠ releaseHeader ctr 2 9 then none
  else match s.latch (10 + n.val) with
    | .key k =>
      if (s.slot (10 + n.val)).gen % 256 = kg
          && (ccmOpen k (releaseNonce s.crd.self n.val ctr 2 kg) (p.take 21) [] (pRun p 21 8)).isSome then some (n, ctr)
      else none
    | _ => none

/-- R260: a speed report becomes a motion fact, or is dropped and counted. Left open: DEDUCED, assumption log 33. -/
def State.speedReport (s : State) (f : Frame) : State :=
  match s.reportOk f with
  | some (n, ctr) =>
    let v := p16 f.payload 19
    let s := s.modRx n (fun r => { r with reported := some ctr })
    s.modHrv (fun h => { h with
      speed := v
      fact := if v = 0xFFFF then none else some (v, s.aon.tick)
      counts1 := bump h.counts1 16 })
  | none => s.modHrv (fun h => { h with counts1 := bump h.counts1 0, flags := raiseFlag h.flags 2 })

/-! ## The release decision (R29 to R33, R264) -/

/-- R30, R31: a credential that satisfies the proximity clause: its rank, the age of its result, its zone policy's level and cap, its ticket
and whether it is revoked. -/
structure Cand where
  rank    : Nat
  age     : Nat
  id      : Word
  level   : Nat
  cap     : Nat
  ticket  : Option (Nat × Nat)
  revoked : Bool
  deriving DecidableEq, Repr

/-- R31: the rank of a class. -/
def classRank (cls : Nat) : Nat := if cls = 5 then 3 else if cls = 2 then 2 else 1

/-- R31: the order in which one credential decides. -/
def Cand.before (a b : Cand) : Bool :=
  b.rank < a.rank || (a.rank = b.rank && (a.age < b.age || (a.age = b.age && a.id < b.id)))

/-- The deciding credential of a list. -/
def Cand.best : List Cand → Option Cand
  | [] => none
  | a :: as => match Cand.best as with
    | some b => some (if b.before a then b else a)
    | none => some a

/-- The candidate a roster entry makes, with a result of an age. -/
def State.cand (s : State) (m : Member) (age : Nat) : Cand :=
  let pol := s.zonePol m
  { rank := classRank m.cls, age := age, id := m.id, level := fld pol 8 2, cap := fld pol 10 16, ticket := s.ticketOf m,
    revoked := m.revoked s.epoch }

/-- R30 clause 1, for an acceptance of the fresh set. -/
def State.nearKey (s : State) (obs : PeriodObs) (a : Acceptance) : State × List Cand :=
  let age := s.age a.stamp
  if s.crd.horizon < age || a.conflict || a.stale || obs.badIds.contains a.id then (s, [])
  else match s.find a.id with
    | (s, some (_, m)) =>
      if (m.cls = 1 || m.cls = 2 || m.cls = 5) && zoneAllowed (s.zonePol m) a.zone then (s, [s.cand m age]) else (s, [])
    | (s, none) => (s, [])

/-- R30 clause 1, R170, R226: for the newest record of a session. -/
def State.nearPhone (s : State) (obs : PeriodObs) (n : Fin 8) : State × List Cand :=
  match s.uwb.recs[n] with
  | none => (s, [])
  | some r =>
    let age := s.age r.stamp
    if r.closed || r.test || r.reason ≠ 0 || !r.within || !(s.sess n).isOpen || r.horizon < age || obs.badSess.contains n then (s, [])
    else match s.find r.id with
      | (s, some (_, m)) => if m.cls = 4 && 2 ≤ fld (s.zonePol m) 8 2 then (s, [s.cand m age]) else (s, [])
      | (s, none) => (s, [])

/-- R30 clause 1: every credential that satisfies it. Left open: DESIGN CHOICE, assumption log 30. -/
def State.candidates (s : State) (obs : PeriodObs) : State × List Cand :=
  let f (x : State × List Cand) (y : State × List Cand) : State × List Cand := (y.1, x.2 ++ y.2)
  let keys := s.crd.fresh.foldl (fun x a => f x (x.1.nearKey obs a)) (s, [])
  allSess.foldl (fun x n => f x (x.1.nearPhone obs n)) keys

/-- R32, R264: what the snapshot gives: the failing causes in order, the target level and cap, and the credential named. -/
structure Decision where
  causes : List Nat
  level  : Nat
  cap    : Nat
  id     : Word
  deriving DecidableEq, Repr

/-- R264: the reason. -/
def Decision.reason (d : Decision) : Nat := d.causes.headD 0

/-- R264, R265: the limit of a cause in seconds. -/
def causeLimit (wd cause : Nat) : Nat := if cause ≤ 3 then 120 else wd

/-- R265: the shortest limit among the causes failing, in seconds. -/
def Decision.limit (d : Decision) (wd : Nat) : Nat := d.causes.foldl (fun m c => min m (causeLimit wd c)) 600

/-- R30 to R32, R264: the decision over the candidates. -/
def State.decideOn (s : State) (cs : List Cand) : Decision :=
  let whole := cs.filter (fun c => c.ticket.isSome && !c.revoked)
  let pick := Cand.best (if whole.isEmpty then cs else whole)
  let near : List Nat := match pick with
    | none => [7]
    | some c => if !whole.isEmpty then [] else (if c.revoked then [4] else []) ++ (if c.ticket.isNone then [5] else [])
  let battery : List Nat := if bit s.hrv.policy0 10 && s.crd.batAuth.isNone then [6] else []
  let causes := (if s.sys.latch ≠ 0 then [1] else []) ++ (if s.hrv.lock then [2] else []) ++ (if s.crd.active then [3] else [])
    ++ near.filter (· < 6) ++ battery ++ near.filter (6 < ·)
  let id : Word := match pick with | some c => c.id | none => 0
  match causes, pick with
  | [], some c =>
    let t := c.ticket.getD (0, 0)
    { causes := [], level := min (min c.level t.1) (fld s.hrv.policy0 11 2), cap := min (min c.cap t.2) (fld s.hrv.policy1 0 16), id := id }
  | cs, _ => { causes := cs, level := 0, cap := 0, id := id }

/-! ## Level and cap for one receiver (R33, R251, R262, R263, R265) -/

/-- R262, R263: the lesser of the last cap sent and the fresh speed; VMAX where neither exists. -/
def startCap (last speed : Option Nat) (vmax : Nat) : Nat :=
  match last, speed with
  | some a, some b => min a b
  | some a, none => a
  | none, some b => b
  | none, none => vmax

/-- R262: what a cap may fall by in `dt` ticks, in 0.1 km/h. Left open: DESIGN CHOICE, assumption log 30. -/
def rampFall (ramp dt : Nat) : Nat := ramp * 5 * dt / 32768

/-- R263: the cap of a WINDDOWN `dt` ticks after its start. Left open: DESIGN CHOICE, assumption log 30. -/
def windCap (c0 ramp dt : Nat) : Nat := c0 - (ramp * 5 * dt + 32767) / 32768

/-- R33, R251: what a period sends a receiver; `dt` is the time since the previous period. -/
def State.releaseFor (s : State) (d : Decision) (dt : Nat) (r : Receiver) : Release :=
  let moving := s.hrv.moving
  let last := if r.level = 0 then none else r.lastCap
  let c0 := startCap last s.freshSpeed s.hrv.vmax
  let x : Release :=
    { level := 0, cap := 0, reason := d.reason, t0 := r.t0, c0 := r.c0, final := decide (r.unit ≠ .on), counter := 0, keygen := 0 }
  if r.unit ≠ .on then x
  else if 2 ≤ d.level then
    { x with level := d.level, cap := if moving then max d.cap (c0 - rampFall s.hrv.ramp dt) else d.cap }
  else if r.level = 1 then
    let e := s.age r.t0
    if 65536 ≤ e && (!moving || ticksOf (d.limit (fld s.hrv.policy0 19 10)) ≤ e) then x
    else { x with level := 1, cap := windCap r.c0 s.hrv.ramp e }
  else if 2 ≤ r.level && moving then { x with level := 1, cap := c0, t0 := s.aon.tick, c0 := c0 }
  else x

/-! ## Composition (R253 to R258, R272, R273) -/

/-- The period in progress changed by `f`. -/
def State.modPeriod (s : State) (f : Period → Period) : State := s.modHrv (fun h => { h with period := h.period.map f })

/-- R273: a sheaf is ABANDONED. Left open: DESIGN CHOICE, assumption log 30. -/
def State.abandonSheaf (s : State) (n : Fin 4) : State :=
  let s := s.modPeriod (fun p => { p with sheaf := p.sheaf.set n .abandoned })
  let s := s.modRx n (fun r => { r with missed := satSucc r.missed 7 })
  s.modHrv (fun h => { h with counts0 := bump h.counts0 16, flags := raiseFlag h.flags 1 })

/-- R257: the block in hand, or the one reserved in the background where it is used up. -/
def Receiver.openBlock (r : Receiver) : Receiver :=
  if r.next < r.blockEnd then r
  else match r.nextBlock with
    | some b => { r with next := b, blockEnd := b + 65536, nextBlock := none }
    | none => r

/-- R257, R258: the next counter value of a receiver is taken; a block that runs low is followed by another. -/
def State.takeCounter (s : State) (n : Fin 4) : State × Option Nat :=
  let s := s.modRx n Receiver.openBlock
  let r := s.rx n
  if r.next < r.blockEnd then
    let s := s.modRx n (fun r => { r with next := r.next + 1 })
    let r := s.rx n
    (if r.blockEnd - r.next < 4096 && r.nextBlock.isNone then s.rxReserve n else s, some (r.next - 1))
  else if s.rxExhausted n && !r.reserving then
    (((s.hrvFlag 3).modRx n (fun r => { r with unit := .off })).storeArmed n false, none)
  else ((s.rxReserve n).hrvFlag 4, none)

/-- R254: the clear parameters of a sheaf. -/
def sheafClear (n keygen counter : Nat) : Octets := o8 n ++ o8 keygen ++ leOf 5 counter

/-- R254: the encrypted parameters of a sheaf. -/
def sheafBody (x : Release) (cadence : Nat) (id : Word) (flags : Nat) : Octets :=
  o8 x.level ++ o16 x.cap ++ o16 (3 * cadence) ++ o8 x.reason ++ wordOctets id ++ o8 flags

/-- R253, R255: the Ethernet payload of a sheaf. -/
def sheafPayload (key : Octets) (self : Word) (n counter keygen : Nat) (body : Octets) : Octets :=
  let aad := releaseHeader counter 1 19 ++ sheafClear n keygen counter
  aad ++ ccmSeal key (releaseNonce self n counter 1 keygen) aad body 8

/-- R250, R255, R272, R273: the sheaf of one armed receiver is composed, or ABANDONED. Left open: DESIGN CHOICE, assumption log 30. -/
def State.compose (s : State) (obs : PeriodObs) (late : Bool) (d : Decision) (dt : Nat) (n : Fin 4) : State :=
  if !(s.rx n).armed then s
  else
    let x := s.releaseFor d dt (s.rx n)
    let slot := 10 + n.val
    let s := s.modPeriod (fun p => { p with plan := p.plan.set n (some x), sheaf := p.sheaf.set n .abandoned })
    if (s.slot slot).st ≠ .written then (s.hrvFlag 3).abandonSheaf n
    else match s.takeCounter n with
      | (s, none) => s.abandonSheaf n
      | (s, some ctr) =>
        if s.quarantined then s.abandonSheaf n
        else if obs.fault.getLsbD n.val then s.cipherFault.abandonSheaf n
        else match s.latch slot with
          | .key key =>
            let kg := (s.slot slot).gen % 256
            let s := s.modRx n (fun r => { r with keygen := kg })
            if obs.composer.getLsbD n.val then s.abandonSheaf n
            else
              let flags := b2n s.hrv.moving + 2 * b2n late + 4 * b2n (s.rx n).first
              let pay := sheafPayload key s.crd.self n.val ctr kg (sheafBody x s.hrv.cadence d.id flags)
              s.modPeriod (fun p => { p with
                plan := p.plan.set n (some { x with counter := ctr, keygen := kg })
                sheaf := p.sheaf.set n (.held pay) })
          | _ => (s.afterLatch slot).abandonSheaf n

/-- R277: EV_RELEASE_CHANGE, for the receivers whose composed sheaf carries another level than the one before it.
Left open: DESIGN CHOICE, assumption log 30. -/
def State.releaseEvent (s : State) (d : Decision) : State :=
  match s.hrv.period with
  | none => s
  | some p =>
    let diff := allRx.filter (fun n => match p.sheaf[n], p.plan[n] with
      | .held _, some x => x.level ≠ (s.rx n).told
      | _, _ => false)
    match diff with
    | [] => s
    | n :: _ =>
      let old := (s.rx n).told
      let x := p.plan[n].getD { level := 0, cap := 0, reason := 0, t0 := 0, c0 := 0, final := false, counter := 0, keygen := 0 }
      let mask := (diff.map (fun n => 2 ^ n.val)).sum
      let s := diff.foldl (fun s n => s.modRx n (fun r => { r with told := (p.plan[n].map (·.level)).getD r.told })) s
      s.raise 4 (o8 mask ++ o8 old ++ o8 x.level ++ o8 x.reason ++ o16 x.cap ++ wordOctets d.id ++ o8 (b2n s.hrv.moving))

/-! ## Remote lock (R266, R267) -/

/-- R267: the calendar value by which DENY will be sent at the latest, over the receivers in WINDDOWN. -/
def State.latestDeny (s : State) (p : Period) (limit : Nat) : Word :=
  let left := allRx.map (fun n => match p.plan[n] with
    | some x => if x.level = 1 then ticksOf limit - s.age x.t0 else 0
    | none => 0)
  s.aon.calendar + BitVec.ofNat 40 ((left.foldl max 0 + 127) / 128)

/-- R267: what this period answers to the locks that waited for it. Left open: DESIGN CHOICE, assumption log 31. -/
def State.lockReplies (s : State) (d : Decision) : State :=
  match s.hrv.period with
  | none => s
  | some p =>
    let wind := allRx.any (fun n => match p.plan[n] with | some x => x.level = 1 | none => false)
    let none_ := allRx.all (fun n => p.plan[n].isNone)
    let data := [1] ++ wordOctets (s.latestDeny p (d.limit (fld s.hrv.policy0 19 10)))
    s.rewait (fun c => match c.wait? with
      | some (.period t) => some (if wind then .seal t .lockDeferred data else if none_ then .seal t .ok [] else .periodEnd t)
      | _ => none)

/-- HRV_LOCK and the clear of the lock (R266, R267, R298, R488). Left open: DESIGN CHOICE, assumption log 31. -/
def hrvLock (s : State) (_ : Fin 8) (c : Cmd) : State × Done :=
  let on := p8 c.p 0 = 1
  let actB := pBit c.p 1 0
  if 1 < p8 c.p 0 || 1 < p8 c.p 1 then refuse s .badParam
  else
    let s := s.modHrv (fun h => { h with
      lock := on
      wantB := on && (h.wantB || actB)
      drivers := if on then h.drivers else h.drivers.set 1 { h.drivers[1] with waiting := h.drivers[1].waiting && h.drivers[1].byHost } })
    let s := (s.critWritten 4 1).storeReg 0x0800 (flag 0 on)
    if on && s.hrv.anyArmed && (s.sq 2).unit = .on then
      (s, .await (.period s.nvm.ticket))
    else sealThen s []

/-! ## Lock drivers (R97, R274 to R276) -/

/-- Driver `n`. -/
def State.driver (s : State) (n : Fin 2) : Driver := s.hrv.drivers[n]

/-- `s` with driver `n` changed. -/
def State.modDriver (s : State) (n : Fin 2) (f : Driver → Driver) : State :=
  s.modHrv (fun h => { h with drivers := h.drivers.set n (f h.drivers[n]) })

/-- R275: every last level has been DENY for 30 s. -/
def State.denyLong (s : State) : Bool := allRx.all (fun n => (s.rx n).level = 0 && ticksOf 30 ≤ s.age (s.rx n).denySince)

/-- R275: whether a drive is allowed. Left open: DESIGN CHOICE, assumption log 31. -/
def State.driveAllowed (s : State) (n : Fin 2) (dir : Nat) : Bool :=
  let deny := !s.aboveDeny
  let still (limit : Nat) : Bool := match s.hrv.source? with
    | none => s.denyLong
    | some _ => match s.freshSpeed with | some v => decide (v ≤ limit) | none => false
  if n = 0 && dir = 1 then deny && still 30
  else if n = 1 && dir = 0 then deny && still 9
  else true

/-- R276: the reply of a drive. -/
def driveReply (result peak ms : Nat) : Octets := o8 result ++ o16 peak ++ o16 ms

/-- R276: a drive ends, or did not begin, with a result. -/
def State.driveEnd (s : State) (n : Fin 2) (result : Nat) (current : Nat) : State :=
  let d := s.driver n
  let peak := max d.peak current
  let ms := if d.running then s.age d.began * 1000 / 32768 else 0
  let s := s.modDriver n (fun d => { d with
    running := false
    waiting := false
    now := 0
    peak := peak
    ended := if d.running then some s.aon.tick else d.ended
    lastDir := if d.running then d.dir else d.lastDir })
  let s := s.modHrv (fun h => { h with lastResult := result, wantB := h.wantB && !(n = 1 && d.dir = 0 && result = 0) })
  let s := if result ≠ 0 then s.hrvFlag 5 else s
  s.finishWait (.drive n) .ok (driveReply result (if d.running then peak else 0) ms)

/-- R276: a drive begins, unless VLF is below 6.0 V. -/
def State.driveBegin (s : State) (n : Fin 2) (vlfOk : Bool) : State :=
  if vlfOk then s.modDriver n (fun d => { d with running := true, waiting := false, began := s.aon.tick, peak := 0, now := 0 })
  else s.driveEnd n 3 0

/-- R97, R274: whether a drive can begin now: no plough round, and neither driver driven. -/
def State.driveFree (s : State) : Bool := s.lf.round.isNone && !s.driving

/-- HRV_ACTUATE (R97, R274, R275). Left open: DESIGN CHOICE, assumption log 31. -/
def hrvActuate (s : State) (_ : Fin 8) (c : Cmd) : State × Done :=
  let n : Fin 2 := Fin.ofNat 2 (p8 c.p 0)
  let dir := p8 c.p 1
  let ms := p16 c.p 2
  let ilim := p8 c.p 4
  if 1 < p8 c.p 0 || 1 < dir || ms < 10 || 2000 < ms || ilim < 4 || 20 < ilim then refuse s .badParam
  else if (s.driver n).running || (s.driver n).waiting then refuse s .busy
  else if !s.driveAllowed n dir then refuse s .wrongState
  else
    let other := (s.driver (1 - n)).waiting
    let s := s.modDriver n (fun d => { d with waiting := true, byHost := true, dir := dir, maxMs := ms, ilim := ilim })
    if s.driveFree && !other then
      if (coilObs c.obs).1 then (s.driveBegin n true, .await (.drive n))
      else okData ((s.driveEnd n 3 0)) (driveReply 3 0 0)
    else (s, .await (.drive n))

/-- R97, R274: a drive that waited begins. Left open: DESIGN CHOICE, assumption log 31. -/
def State.driveStart (s : State) (n : Fin 2) (vlfOk : Bool) : State :=
  let d := s.driver n
  if !d.waiting || !s.driveFree || !(s.pwr.state = .run || s.pwr.state = .idle) || s.pwr.start.isSome then s
  else if !s.driveAllowed n d.dir then
    (s.modDriver n (fun d => { d with waiting := false })).finishWait (.drive n) .wrongState []
  else s.driveBegin n vlfOk

/-- R276: MAX_MS passes. -/
def State.driveTimeout (s : State) (n : Fin 2) (current : Nat) : State :=
  let d := s.driver n
  if d.running && d.maxMs * 32768 ≤ (s.age d.began + 1) * 1000 then s.driveEnd n 1 current else s

/-- R276: the current has been at ILIM for 20 ms. -/
def State.driveStall (s : State) (n : Fin 2) (current : Nat) : State :=
  let d := s.driver n
  if d.running && 20 * 32768 ≤ (s.age d.began + 1) * 1000 && d.ilim * 50 ≤ current then s.driveEnd n 2 current else s

/-- R266: the drive of LOCKB that ACTUATE_B asked for is tried at a period; its MAX_MS and ILIM are the device's.
Left open: DESIGN CHOICE, assumption log 31. -/
def State.tryLockB (s : State) : State :=
  if s.hrv.wantB && s.hrv.lock && !(s.driver 1).running && !(s.driver 1).waiting && s.driveAllowed 1 0 then
    s.modDriver 1 (fun d => { d with
      waiting := true
      byHost := false
      dir := 0
      maxMs := max 10 (min 2000 Config.lockDriveMs)
      ilim := max 4 (min 20 Config.lockDriveLimit) })
  else s

/-! ## Release periods (R21, R250, R277, R298) -/

/-- R250: a release period starts: the snapshot, the decision, and the composition of every sheaf. Left open: DESIGN CHOICE, assumption log 30. -/
def State.startPeriod (s : State) (late : Bool) (obs : PeriodObs) : State :=
  let s := if late then s.modHrv (fun h => { h with lateDue := false, counts0 := bump h.counts0 0, flags := raiseFlag h.flags 0 }) else s
  let s := (s.critReads [4, 5, 6, 7, 8, 9]).lockCheck
  let s := s.seqEnter 2 s.hrv.armedMask (b2n late) (s.sq 2).image.entry0
  let dt := match s.hrv.lastAt with | some t => s.age t | none => 0
  let s := s.modHrv (fun h => { h with
    periods := h.periods + 1
    lastAt := some s.aon.tick
    moving := s.movingNow
    period := some { began := s.aon.tick, late := late, sheaf := Vector.replicate 4 .none, nextRx := 0, plan := Vector.replicate 4 none,
                     number := h.periods + 1 } })
  let (s, cs) := s.candidates obs
  let d := s.decideOn cs
  let s := s.modHrv (fun h => { h with reason := d.reason })
  let s := allRx.foldl (fun s n => s.compose obs late d dt n) s
  (((s.line12 2).releaseEvent d).lockReplies d).tryLockB

/-- R250: whether release periods run in the present state of the device. -/
def State.periodsRun (s : State) : Bool :=
  (s.pwr.state = .run || s.pwr.state = .idle) && s.pwr.start.isNone && !s.sys.faultBoot && s.pwr.admits

/-- R250, R369: the release-period trigger fires; a change of CADENCE_MS counts from the first point after a headland.
Left open: DESIGN CHOICE, assumption log 5, 30. -/
def State.cadencePoint (s : State) (obs : PeriodObs) : State :=
  if !s.trigDue 15 || !s.periodsRun then s
  else
    let per := if s.hrv.period.isNone then s.hrv.cadence * 1000000 else (s.trig 15).period
    let s := s.modTrig 15 (fun t => { t with period := per, nextNs := t.nextNs + per, fires := satSucc t.fires 0xFFFF, late := false })
    if (s.sq 2).unit ≠ .on then s.modSeq 2 (fun q => { q with counts := bumpBy q.counts 32 8 1 })
    else if s.hrv.period.isSome then s.modHrv (fun h => { h with lateDue := true })
    else s.startPeriod false obs

/-- R21: a period whose cadence point fell before its predecessor's headland starts after that headland. -/
def State.latePeriod (s : State) (obs : PeriodObs) : State :=
  if s.hrv.lateDue && s.hrv.period.isNone && s.periodsRun && (s.sq 2).unit = .on then s.startPeriod true obs else s

/-- R293: EMIT hands the sheaf of a receiver to the network port. -/
def State.emitInstr (s : State) (rb : Word) (ra : Fin 8) : State :=
  let answer (code : Nat) : State := s.modSeq 2 (fun q => { q.setReg ra (put 0 8 code) with pc := q.pc + 1 })
  match s.hrv.period with
  | none => answer 5
  | some p =>
    let n : Fin 4 := Fin.ofNat 4 rb.toNat
    if 4 ≤ rb.toNat || p.sheaf[n] = .none then answer 5
    else if n.val < p.nextRx then answer 3
    else
      let s := s.modPeriod (fun p => { p with nextRx := n.val + 1 })
      match p.sheaf[n] with
      | .held pay =>
        let s := s.modPeriod (fun p => { p with sheaf := p.sheaf.set n .emitted })
        (s.queueFrame { kind := .sheaf n, dst := (s.rx n).mac, ether := 0x88B5, payload := pay }).modSeq 2 (fun q => { q with stall := .element ra })
      | _ => s.modSeq 2 (fun q => { q.setReg ra (put 0 8 7) with pc := q.pc + 1 })

/-- R250, R263: a sheaf has been sent: the receiver's last level, cap and WINDDOWN are those it carried. -/
def State.sheafSent (s : State) (n : Fin 4) : State :=
  match s.hrv.period with
  | none => s
  | some p => match p.plan[n] with
    | none => s
    | some x =>
      let now := s.aon.tick
      let keep := s.hrv.periods
      let s := s.modPeriod (fun p => { p with sheaf := p.sheaf.set n .sent })
      let s := s.modRx n (fun r => { r with
        level := x.level
        reason := x.reason
        cap := x.cap
        lastCap := if x.level = 0 || x.cap = 0xFFFF then none else some x.cap
        t0 := x.t0
        c0 := x.c0
        first := false
        missed := 0
        denySince := if x.level = 0 && r.level ≠ 0 then now else r.denySince
        sent := r.sent.filter (fun y => keep < y.2.2 + 3) ++ [(x.counter, x.keygen, p.number)] })
      let low := allRx.find? (fun m => p.plan[m].isSome)
      let s := if low = some n then s.modHrv (fun h => { h with capNow := x.cap }) else s
      ((s.critWritten (6 + n.val) 1).rideCheck).elementDone 2 0 0

/-- R250: every sheaf of the period has been sent or is ABANDONED. -/
def Period.isOver (p : Period) : Bool := p.sheaf.toList.all (fun x => match x with | .held _ => false | .emitted => false | _ => true)

/-- R294: a composed sheaf that EMIT has not handed over. Left open: DESIGN CHOICE, assumption log 30. -/
def Period.withheld (p : Period) : Bool := p.sheaf.toList.any (fun x => match x with | .held _ => true | _ => false)

/-- R22, R23: a sheaf is on the wire. Left open: DESIGN CHOICE, assumption log 30. -/
def State.sheafOnWire (s : State) : Bool := match s.ntc.onWire with | some f => (match f.kind with | .sheaf _ => true | _ => false) | none => false

/-- R21 to R23, R248, R267, R273, R278, R294: the headland of a release period; `fault` says that a WITHHELD fault is to be judged.
Left open: DESIGN CHOICE, assumption log 30. -/
def State.periodHeadland (s : State) (deadline : Bool) : State :=
  match s.hrv.period with
  | none => s.seqHeadland 2 deadline
  | some p =>
    let s := s.modNtc (fun n => { n with queue := n.queue.filter (fun f => match f.kind with | .sheaf _ => false | _ => true) })
    let s := allRx.foldl (fun s n => match p.sheaf[n] with
      | .held _ => s.abandonSheaf n
      | .emitted => s.abandonSheaf n
      | _ => s) s
    let pc := (s.sq 2).pc
    let s := s.modHrv (fun h => { h with period := none, done := h.rx.map (·.level) })
    let s := if p.withheld then
        (s.fallBack 2 4 pc).modSeq 2 (fun q => { q with counts := bumpBy q.counts 16 8 1 })
      else s
    let s := s.seqHeadland 2 deadline
    let s := allRx.foldl (fun s n => match p.plan[n] with
      | some x => if x.final && ((s.rx n).unit = .stopping || (s.rx n).unit = .restartPending) then s.rxOff n else s
      | none => s) s
    s.rewait (fun c => match c.wait? with
      | some (.periodEnd t) => some (.seal t .ok [])
      | _ => none)

/-! ## Always-on inputs and tamper (R268, R269, R510) -/

/-- R510: how many samples in a row a level needs. -/
def debounceN (ms : Nat) : Nat := (ms * 1024 + 999) / 1000 + 1

/-- R510: one sample of an input. Left open: DESIGN CHOICE, assumption log 31. -/
def Debounce.sample (d : Debounce) (n : Nat) (v : Bool) : Debounce :=
  let run := if v = d.last && 0 < d.run then min (d.run + 1) 1000 else 1
  { last := v, run := run, level := if n ≤ run then some v else d.level }

/-- An event raised while no command can be accepted follows the next return to work. -/
def State.raiseLater (s : State) (code : Nat) (data : Octets) : State :=
  if (s.pwr.state = .run || s.pwr.state = .idle) && s.pwr.start.isNone then s.raise code data
  else { s with sys := { s.sys with later := s.sys.later ++ [(code, data)] } }

/-- R269: EV_TAMPER. -/
def State.tamperEvent (s : State) (source kind : Nat) (level : Bool) : State :=
  s.raiseLater 5 (o8 source ++ o8 kind ++ o8 (b2n level) ++ [0])

/-- R268: a tamper latch is set, in its triplicated word. -/
def State.latchTamper (s : State) (k : Nat) : State :=
  State.critWritten { s with sys := { s.sys with latch := s.sys.latch ||| BitVec.ofNat 4 (2 ^ k) } } 5 1

/-- R268: whether a tamper input is active. -/
def Tamper.active (t : Tamper) : Bool := t.input.level = some t.high

/-- R268, R401: one sample of a tamper input; an enabled input that becomes active latches, and wakes. -/
def State.sampleTamper (s : State) (k : Fin 2) (v : Bool) : State :=
  let t := s.sys.tamper[k]
  let t' := { t with input := t.input.sample (debounceN t.debounce) v }
  let s := { s with sys := { s.sys with tamper := s.sys.tamper.set k t' } }
  if t.enable && !t.active && t'.active then
    ((s.latchTamper k.val).tamperEvent k.val 0 v).wake (2 + k.val) 0
  else s

/-- R269: whether a drive of lock `k` explains a change to a position. -/
def State.explained (s : State) (k : Fin 2) (locked : Bool) : Bool :=
  let d := s.driver k
  let goal (dir : Nat) : Bool := decide (dir = 0) = locked
  (d.running && goal d.dir) || (match d.ended with | some t => s.age t * 1000 ≤ 200 * 32768 && goal d.lastDir | none => false)

/-- R269, R276: one sample of a position input, and the current of its drive. -/
def State.samplePos (s : State) (k : Fin 2) (v : Bool) (current : Nat) : State :=
  let p := s.sys.pos[k]
  let p' := p.sample (debounceN 10) v
  let s := { s with sys := { s.sys with pos := s.sys.pos.set k p' } }
  let s := if p.level.isSome && p'.level ≠ p.level && !s.explained k (!v) then
      let s := s.hrvFlag 6
      if bit s.hrv.policy0 29 then (s.latchTamper (2 + k.val)).tamperEvent (2 + k.val) 0 v else s.tamperEvent (2 + k.val) 1 v
    else s
  let d := s.driver k
  if d.running then
    let s := s.modDriver k (fun d => { d with now := current, peak := max d.peak current })
    if p'.level = some (decide (d.dir = 1)) then s.driveEnd k 0 current else s
  else s

/-- R510: the inputs are sampled once in 32 ticks, in every state but OFF. -/
def State.inputSample (s : State) (t0 t1 a b : Bool) (ia ib : Nat) : State :=
  let due := match s.sys.sampled with | some t => 32 ≤ s.age t | none => true
  if !due || s.pwr.state = .off then s
  else
    let s := { s with sys := { s.sys with sampled := some s.aon.tick } }
    (((s.sampleTamper 0 t0).sampleTamper 1 t1).samplePos 0 a ia).samplePos 1 b ib

/-! ## HRV_ registers (R279) -/

/-- HRV_RXn_STATUS. -/
def Receiver.status (r : Receiver) : Word :=
  put 0 3 r.unit.code ||| put 3 2 r.level ||| put 5 4 r.reason ||| put 9 16 r.cap ||| put 25 8 r.keygen ||| put 33 3 r.missed

/-- A sum of words over the receivers, each from bit `lo` of its own field. -/
def rxFields (h : Hrv) (f : Receiver → Nat) (lo len : Nat) : Word :=
  allRx.foldl (fun w n => w ||| put (lo + len * n.val) len (f h.rx[n])) 0

/-- HRV_STATE. -/
def State.hrvState (s : State) : Word :=
  let h := s.hrv
  rxFields h (·.unit.code) 0 3 ||| rxFields h (·.level) 12 2 ||| flag 20 (h.rx.toList.any (fun r => r.level = 1)) ||| flag 21 h.moving
    ||| flag 22 h.lock ||| flag 23 (s.sys.latch ≠ 0) ||| put 24 4 h.reason

/-- HRV_WIND: of the lowest-numbered receiver in WINDDOWN. Left open: DESIGN CHOICE, assumption log 31. -/
def Hrv.windWord (h : Hrv) : Word :=
  match h.rx.toList.find? (fun r => r.level = 1) with
  | some r =>
    put 0 16 r.c0 ||| put 16 16 h.capNow ||| flag 32 true
      ||| put 33 7 (min 127 ((match h.lastAt with | some t => (t - r.t0).toNat | none => 0) / 32768))
  | none => put 16 16 h.capNow

/-- HRV_LOCKS. -/
def State.locksWord (s : State) : Word :=
  flag 0 (s.sys.pos[(0 : Fin 2)].level = some false) ||| flag 1 (s.sys.pos[(1 : Fin 2)].level = some false)
    ||| flag 2 (s.driver 0).running ||| flag 3 (s.driver 1).running ||| put 4 11 (max (s.driver 0).now (s.driver 1).now)
    ||| put 15 3 s.hrv.lastResult

/-- HRV_MOTION. -/
def State.motionWord (s : State) : Word :=
  put 0 16 s.hrv.speed ||| flag 16 s.freshSpeed.isSome ||| flag 17 s.hrv.moving
    ||| (match s.hrv.source? with | some n => put 18 2 n.val ||| flag 20 true | none => 0)

/-- HRV_RXn_CTR. -/
def Receiver.nextCounter (r : Receiver) : Nat := if r.next < r.blockEnd then r.next else r.nextBlock.getD r.next

/-- The HRV_ registers, by offset in page 0x0800. -/
def hrvReg (s : State) (o : Nat) : Option Word :=
  let h := s.hrv
  let r : Receiver := s.rx (Fin.ofNat 4 o)
  match o with
  | 0 => some s.hrvState
  | 1 => some h.flags
  | 2 => some h.policy0
  | 3 => some h.policy1
  | 4 => some h.windWord
  | 5 => some s.locksWord
  | 6 => some s.motionWord
  | 7 => some h.counts0
  | 8 => some h.counts1
  | _ =>
    if 0x10 ≤ o && o < 0x14 then some r.cfgWord
    else if 0x14 ≤ o && o < 0x18 then some r.addrWord
    else if 0x18 ≤ o && o < 0x1C then some (BitVec.ofNat 40 r.nextCounter)
    else if 0x1C ≤ o && o < 0x20 then some r.status
    else none

/-- The HRV_ registers in address order. -/
def hrvAddrs : List Nat := span 0 9 ++ span 0x10 16

/-- R278: the result of HRV_STATUS. -/
def State.hrvStatusData (s : State) : Octets := (hrvAddrs.map (fun o => wordOctets ((hrvReg s o).getD 0))).flatten

/-- HRV_STATUS (R278): captured between periods. Left open: DESIGN CHOICE, assumption log 31. -/
def hrvStatus (s : State) (_ : Fin 8) (_ : Cmd) : State × Done :=
  if s.hrv.period.isSome then (s, .await .betweenPeriods) else okData s s.hrvStatusData

/-- The headland of a release period, and the status reads that waited for it. -/
def State.harvestHeadland (s : State) (deadline : Bool) : State :=
  let s := s.periodHeadland deadline
  s.finishWait .betweenPeriods .ok s.hrvStatusData

end Sys2Proof.Machine
end

