-- ==== Sys2Proof/Machine/Plough.lean ====
section
/-!
DEFINITION. The plough's rounds: poll and ride points, presence polls, full rounds, their LF elements, UHF collection and the frames it
hears, and the headland with its records (spec/01_release_chain.md R18 to R27, spec/04_lf_field_tract.md R104 to R126,
spec/05_uhf_receive_tract.md R142 to R158, R240 to R242, R404).
-/
namespace Sys2Proof.Machine

open Sys2Proof

/-- The round in progress changed by `f`. -/
def State.modRound (s : State) (f : PloughRound → PloughRound) : State := s.modLf (fun l => { l with round := l.round.map f })

/-- An element instruction of sequencer `n` answers at once: its result word goes to RA, and the program goes on (R290). -/
def State.answer (s : State) (n : Fin 3) (ra : Fin 8) (code val : Nat) : State :=
  s.modSeq n (fun q => { q.setReg ra (put 0 8 code ||| put 8 8 val) with pc := q.pc + 1 })

/-! ## Positions and lengths (R105 to R109, R113, R144) -/

/-- N of the plan latched. -/
def Lf.slots (l : Lf) : Nat := planCount l.plan1

/-- The coil in burst slot `k`. -/
def Lf.slotCoil (l : Lf) (k : Nat) : Fin 12 := Fin.ofNat 12 (planSlot l.plan0 l.plan1 k)

/-- The burst slots of the plan. -/
def Lf.slotList (l : Lf) : List Nat := List.range l.slots

/-- R105, R107: how long an element lasts, in carrier periods. Left open: DESIGN CHOICE, assumption log 23. -/
def Element.periods : Element → Nat
  | .wake => 1146
  | .challenge => 3456
  | .slot _ => 64
  | .confirm _ => 3200

/-- R125: the carrier periods with a coil driven: every frame bit has one half on. Left open: DESIGN CHOICE, assumption log 23. -/
def Element.onPeriods : Element → Nat
  | .wake => 698
  | .challenge => 1728
  | .slot _ => 64
  | .confirm _ => 1600

/-- R109: the length of the burst in carrier periods. Left open: DESIGN CHOICE, assumption log 23. -/
def burstPeriods (n : Nat) : Nat := n * 80 - 16

/-- R18: the deadline of a plough round, in µs. -/
def PloughRound.deadlineUs (r : PloughRound) : Nat := if r.full then 500000 else 40000

/-- R114: whether something of this many carrier periods can complete before the round's deadline. -/
def State.fits (s : State) (r : PloughRound) (periods : Nat) : Bool :=
  (s.age (s.sq 0).entered * 1000000 + 32767) / 32768 + s.lf.us periods ≤ r.deadlineUs

/-- R113, R147: tS_0 in carrier periods after the wake burst's start. -/
def primaryPeriods (n : Nat) : Nat := 1146 + 256 + 3456 + 64 + burstPeriods n + 128

/-- R144: the length of a UHF slot in ns. -/
def Plan.slotNs (p : Plan) : Nat := 384000000000 / rateOf p.rate + 512000

/-! ## Starting a round (R104, R116 to R119, R126, R160, R281) -/

/-- A plough round as it starts. -/
def State.newRound (s : State) (full : Bool) (cause : Nat) (rb : BitVec 64) : PloughRound :=
  { full := full, cause := cause, stamp := s.aon.tick, next := 0, refused := false, onAir := none, driven := 0, mask := 0,
    listening := false, sc := 0, rb := rb, key := none, gen := 0, erased := false, stale := false, zones := s.crd.zones, ctr0 := [],
    coil := Vector.replicate 12 7, silent := 0, accs := [], rejs := [], lost := 0, k := 0, m := 0, hint := false, confirms := 0,
    denied := false, deadline := false, cleared := false }

/-- R406: the tract has the carrier: the low-power synthesiser in SLEEP, the oscillator elsewhere. -/
def State.carrierUp (s : State) : Bool := s.pwr.state = .sleep || s.pwr.xoOk

/-- Whether a plough round can start now: the unit is ON, the sequencer can be entered, and no round and no lock drive is in the way.
Left open: DESIGN CHOICE, assumption log 25. -/
def State.ploughFree (s : State) : Bool := s.lf.unit = .on && s.seqReady 0 && s.lfGap && s.carrierUp

/-- R112: a presence poll starts. -/
def State.pollStart (s : State) : State :=
  (s.modLf (fun l => { l with round := some (s.newRound false 0 0), due := none })).seqEnter 0 1 0 (s.sq 0).image.entry0

/-- R116, R119, R120, R123: a poll point of the grid in force outside RIDE. Left open: DESIGN CHOICE, assumption log 5. -/
def State.pollPoint (s : State) : State :=
  if s.lf.unit ≠ .on || s.lf.ride || !s.atPoint || s.pwr.state = .deep || s.pwr.state = .off || s.sys.faultBoot then s
  else
    let s := s.pollStopCheck
    if s.lf.unit ≠ .on then s
    else if !s.ploughFree then s.lfSkipped
    else if !s.lf.known then s.modLf (fun l => { l with due := some 3 })
    else s.pollStart

/-- R102, R128: some frame coil can be used. -/
def Lf.anyFrameCoil (l : Lf) : Bool := allCoils.any (fun n => l.frameMask.getLsbD n.val && (l.coil n).enabled && !(l.coil n).excluded)

/-- R126: the on-time that a full round is checked for at its start: wake frame, challenge, burst and one confirm. -/
def State.fullOnUs (s : State) : Nat :=
  let n := s.lf.slotList.countP (fun k => s.lf.drivable (s.lf.slotCoil k))
  s.lf.us 698 + s.lf.us 1728 + n * s.lf.us 64 + s.lf.us 1600

/-- R118, R141, R282: a full round starts. -/
def State.fullStart (s : State) (cause : Nat) : State :=
  let s := s.planApply
  let rb := s.random
  let s := s.useRandom
  let s := s.modLf (fun l => { l with round := some (s.newRound true cause rb), roundNo := l.roundNo + 1, want := none, due := none })
  s.seqEnter 0 2 cause (s.sq 0).image.entry1

/-- R404: a wake by PRESENT turns out to be followed by work: EV_WAKE is raised after all. Left open: DESIGN CHOICE, assumption log 25. -/
def State.visitOver (s : State) : State :=
  if s.pwr.presentVisit then
    State.queueAll { s with pwr := { s.pwr with presentVisit := false } } 1 s.pwr.wake.octets
  else s

/-- A full round that was due does not start. Left open: DESIGN CHOICE, assumption log 25. -/
def State.fullDropped (s : State) : State := (s.modLf (fun l => { l with want := none, due := none })).visitOver

/-- R18, R104, R126, R160, R317, R343: a full round is due: it starts, waits, or is dropped. Left open: DESIGN CHOICE, assumption log 5, 25. -/
def State.fullTry (s : State) (cause : Nat) : State :=
  if s.uhf.unit = .starting || s.uhf.unit = .stopPending then s.modLf (fun l => { l with due := some cause })
  else if s.uhf.unit ≠ .on || s.drbgBlocked.isSome then s.lfSkipped.fullDropped
  else if !s.lf.known then s.modLf (fun l => { l with due := some cause })
  else if !s.lf.anyFrameCoil then s.fullDropped
  else if !s.dutyOk s.fullOnUs then s.dutyDenied.fullDropped
  else s.fullStart cause

/-- R117, R119: a ride point. Left open: DESIGN CHOICE, assumption log 5. -/
def State.ridePoint (s : State) : State :=
  if s.lf.unit ≠ .on || !s.lf.ride || !s.atPoint || s.pwr.state = .deep || s.pwr.state = .off || s.sys.faultBoot then s
  else if !s.ploughFree || s.pwr.state = .sleep then s.lfSkipped
  else s.fullTry 0

/-- The cause of the full round that waits: PRESENT or FULL_NOW first, then one that waits for a unit or for the start-up diagnosis. -/
def Lf.waiting? (l : Lf) : Option Nat :=
  match l.want with
  | some c => some c
  | none => match l.due with
    | some 3 => none
    | d => d

/-- R118, R160: a full round starts after a PRESENT result, on FULL_NOW, or once what it waited for has come. While the unit starts, or a
round or a lock drive is in the way, it goes on waiting; while the unit is OFF no full round runs. Left open: DESIGN CHOICE, assumption log 25. -/
def State.fullRoundStart (s : State) : State :=
  match s.lf.waiting? with
  | none => s
  | some cause =>
    if s.lf.unit = .starting || s.lf.unit = .restartPending || s.pwr.start.isSome || !s.pwr.admits || !s.lfGap then s
    else if !(s.pwr.state = .run || s.pwr.state = .idle) then s
    else if s.lf.unit ≠ .on then s.fullDropped
    else if !s.ploughFree then s.lfSkipped.fullDropped
    else s.fullTry cause

/-- R104: the start-up diagnosis is done: a poll that waited for it starts, or a full round. -/
def State.startDue (s : State) : State :=
  match s.lf.due with
  | some 3 => if s.lf.known && s.ploughFree then s.pollStart else s
  | some _ => if s.lf.known then s.fullRoundStart else s
  | none => s

/-- R118: the holdoff ends. -/
def State.holdoffEnd (s : State) : State := if s.inHoldoff then s else s.modLf (fun l => { l with holdoff := none })

/-! ## Elements (R95, R96, R114, R125, R290, R291) -/

/-- The coils of the plan in a mask that have no outcome yet take one: COIL_FAULT where they may not be driven, or else a reason (R115).
Left open: DESIGN CHOICE, assumption log 24. -/
def State.markPlan (s : State) (mask : BitVec 12) (reason : Nat) : State :=
  let mark (v : Vector Nat 12) (k : Nat) : Vector Nat 12 :=
    let n := s.lf.slotCoil k
    let c := s.lf.coil n
    if v[n] = 7 && mask.getLsbD n.val then v.set n (if c.excluded || !c.enabled then 1 else reason) else v
  s.modRound (fun r => { r with coil := s.lf.slotList.foldl mark r.coil })

/-- Every coil. -/
def everyCoil : BitVec 12 := BitVec.allOnes 12

/-- A refused element: its code, and every later element of the round is out of order (R291). A poll whose wake frame was refused may
still listen. Left open: DESIGN CHOICE, assumption log 24. -/
def State.refuseElem (s : State) (ra : Fin 8) (code : Nat) (w : Bool) : State :=
  (s.modRound (fun r => { r with refused := true, next := if w && !r.full then 3 else r.next })).answer 0 ra code 0

/-- An element goes on air. -/
def State.goOnAir (s : State) (e : Element) (set : BitVec 12) (ra : Fin 8) : State :=
  let s := (s.addOn (s.lf.us e.onPeriods)).modRound (fun r => { r with onAir := some e, driven := set })
  s.modSeq 0 (fun q => { q with stall := .element ra })

/-- R95, R102: the coils a frame goes out on, whether or not their strips are hot. -/
def Lf.frameSet (l : Lf) (mask : BitVec 12) : BitVec 12 :=
  l.frameMask &&& mask &&& coilMask (fun n => (l.coil n).enabled && !(l.coil n).excluded)

/-- The coils whose strips are not hot. -/
def Lf.coolMask (l : Lf) : BitVec 12 := coilMask (fun n => !l.isHot n)

/-- The checks of an LF frame, in order: its position, the coils, VLF and duty; what passes goes on air after `prep`.
Left open: DESIGN CHOICE, assumption log 24. -/
def State.tryFrame (s : State) (r : PloughRound) (e : Element) (mask : BitVec 12) (ra : Fin 8) (late vlfOk : Bool)
    (prep : State → State) : State :=
  let w := decide (e = .wake)
  let all := s.lf.frameSet mask
  let set := all &&& s.lf.coolMask
  if late || !s.fits r e.periods then (s.markPlan everyCoil 6).refuseElem ra 2 w
  else if all = 0 then (s.markPlan everyCoil 1).refuseElem ra 6 w
  else if set = 0 then (s.markPlan everyCoil 4).refuseElem ra 4 w
  else if !vlfOk then ((s.lfFlag 1).markPlan everyCoil 2).refuseElem ra 4 w
  else if !s.dutyOk (s.lf.us e.onPeriods) then (s.dutyDenied.markPlan everyCoil 5).refuseElem ra 1 w
  else (prep s).goOnAir e set ra

/-- R26, R218, R286: the wake burst starts: t = 0, the stamp, the key and the field map of a full round. -/
def State.wakeBurst (s : State) (full : Bool) : State :=
  let now := s.aon.tick
  let key := match s.latch 8 with | .key k => some k | _ => none
  let id := if full then fld s.lf.wakeId 16 16 else fld s.lf.wakeId 0 16
  let s := s.modSeq 0 (fun q => { q with began := now })
  let s := s.modRound (fun r => { r with
    stamp := now
    key := if full then key else none
    gen := (s.slot 8).gen
    zones := s.crd.zones
    ctr0 := [] })
  let s := s.modLf (fun l => { l with frame := wakeFrame id })
  if full then (s.afterLatch 8).boostUp else s

/-- R114, R219: the confirm of the next accepted credential. -/
def State.confirmBits (s : State) (r : PloughRound) (a : Acceptance) : State :=
  let k := kCred (r.key.getD []) a.id a.cls a.epoch
  s.modLf (fun l => { l with frame := confirmFrame r.confirms a.id (confirmMac k r.rb a.body) })

/-- R291: SEND_LF: KIND 0 wake, 1 challenge, 2 confirm, on a mask of coils. -/
def State.sendLfInstr (s : State) (kind : Nat) (mask : BitVec 12) (ra : Fin 8) (late vlfOk : Bool) : State :=
  match s.lf.round with
  | none => s.answer 0 ra 3 0
  | some r =>
    if r.refused then s.answer 0 ra 3 0
    else match kind with
      | 0 => if r.next ≠ 0 then s.refuseElem ra 3 false
             else s.tryFrame r .wake mask ra false vlfOk (fun s => s.wakeBurst r.full)
      | 1 => if r.next ≠ 1 || !r.full then s.refuseElem ra 3 false
             else s.tryFrame r .challenge mask ra late vlfOk
               (fun s => s.modLf (fun l => { l with frame := challengeFrame l.slots r.rb l.roundNo }))
      | _ => if r.next ≠ 4 || r.listening || !r.full then s.refuseElem ra 3 false
             else match r.accs[r.confirms]? with
               | some a => if 8 ≤ r.confirms then s.answer 0 ra 5 0
                           else s.tryFrame r (.confirm r.confirms) mask ra late vlfOk (fun s => s.confirmBits r a)
               | none => s.answer 0 ra 5 0

/-- R115: the outcome of one coil of the burst, whose slot carries no carrier. Left open: DESIGN CHOICE, assumption log 24. -/
def State.silentSlot (s : State) (n : Fin 12) (reason : Nat) : State :=
  s.modRound (fun r => { r with coil := r.coil.set n reason, silent := r.silent ||| BitVec.ofNat 12 (2 ^ n.val) })

/-- R166, R164: the burst has ended: a requester asserts REQ and PRI for the collection, and an armed capture of its kind starts. -/
def State.burstEnd (s : State) : State :=
  let s := s.modRound (fun r => { r with onAir := none, driven := 0, next := 3 })
  ((s.coexAsk 1 true).captureStart 1).elementDone 0 0 0

/-- R96, R102, R109, R291: the slots of the burst from a slot on: those that carry no carrier are passed, and the next one is driven. -/
def State.slotsFrom (s : State) (mask : BitVec 12) (vlfOk : Bool) : List Nat → State
  | [] => s.burstEnd
  | k :: ks =>
    let n := s.lf.slotCoil k
    let c := s.lf.coil n
    if !mask.getLsbD n.val then (s.silentSlot n 7).slotsFrom mask vlfOk ks
    else if c.excluded || !c.enabled then (s.silentSlot n 1).slotsFrom mask vlfOk ks
    else if s.lf.isHot n then (s.silentSlot n 4).slotsFrom mask vlfOk ks
    else if !vlfOk then ((s.lfFlag 1).silentSlot n 2).slotsFrom mask vlfOk ks
    else
      let s := s.addOn (s.lf.us 64)
      s.modRound (fun r => { r with onAir := some (.slot k), driven := BitVec.ofNat 12 (2 ^ n.val) })

/-- R109, R291: BURST. -/
def State.burstInstr (s : State) (mask : BitVec 12) (ra : Fin 8) (late vlfOk : Bool) : State :=
  match s.lf.round with
  | none => s.answer 0 ra 3 0
  | some r =>
    let ks := s.lf.slotList.filter (fun k => mask.getLsbD (s.lf.slotCoil k).val)
    let ok := ks.filter (fun k => (s.lf.coil (s.lf.slotCoil k)).enabled && !(s.lf.coil (s.lf.slotCoil k)).excluded)
    let cool := ok.filter (fun k => !s.lf.isHot (s.lf.slotCoil k))
    if r.refused then s.answer 0 ra 3 0
    else if r.next ≠ 2 || !r.full then s.refuseElem ra 3 false
    else if late || !s.fits r (burstPeriods s.lf.slots) then (s.markPlan mask 6).refuseElem ra 2 false
    else if ok.isEmpty then (s.markPlan mask 1).refuseElem ra 6 false
    else if cool.isEmpty then (s.markPlan mask 4).refuseElem ra 4 false
    else if !vlfOk then ((s.lfFlag 1).markPlan mask 2).refuseElem ra 4 false
    else if !s.dutyOk (cool.length * s.lf.us 64) then (s.dutyDenied.markPlan mask 5).refuseElem ra 1 false
    else
      let s := s.modSeq 0 (fun q => { q with stall := .element ra })
      (s.modRound (fun r => { r with mask := mask })).slotsFrom mask true s.lf.slotList

/-- R112, R113, R166, R291: LISTEN opens collection, or the vigil receiver's listening. Left open: DESIGN CHOICE, assumption log 24. -/
def State.listenInstr (s : State) (sc : Nat) (ra : Fin 8) (late : Bool) : State :=
  match s.lf.round with
  | none => s.answer 0 ra 3 0
  | some r =>
    if r.full && r.refused then s.answer 0 ra 3 0
    else if r.next ≠ 3 then s.refuseElem ra 3 false
    else if late then s.refuseElem ra 2 false
    else
      let denied := s.coexRefused 1
      let s := if denied then s.uhfFlag 6 else s
      let s := s.modRound (fun r => { r with listening := true, next := 4, sc := sc, denied := r.denied || denied })
      let s := if r.full then s.modUhf (fun u => { u with collected := some s.lf.roundNo }) else s
      (s.coexSlot 1).modSeq 0 (fun q => { q with stall := .element ra })

/-! ## The headland (R22, R115, R122, R240 to R242, R404) -/

/-- R241: the header of a full round. -/
def State.roundHeader (s : State) (r : PloughRound) : Octets :=
  let failed := r.accs.isEmpty && r.rejs.any (·.counted)
  let flags := b2n failed + 2 * b2n (!r.accs.isEmpty) + 4 * b2n (0 < r.m) + 8 * b2n r.denied + 16 * b2n r.deadline
  let coils := (List.finRange 12).map (fun n => BitVec.ofNat 8 ((s.lf.coil n).cls + 8 * r.coil[n]))
  [0] ++ o8 flags ++ o16 s.lf.roundNo.toNat ++ wordOctets r.stamp ++ o8 (min r.accs.length 255) ++ o8 (min r.rejs.length 255) ++ coils
    ++ leOf 8 r.lost.toNat ++ [0]

/-- R230 to R232, R240, R242: the results of a full round. -/
def State.fullResults (s : State) (r : PloughRound) : State :=
  let hdr := s.roundHeader r
  let all := hdr ++ (r.accs.map Acceptance.record).flatten ++ (r.rejs.map Rejection.record).flatten
  let s := r.accs.foldl State.freshen s
  let s := s.modCrd (fun c => { c with latest := all })
  let s := if r.accs.isEmpty && r.rejs.isEmpty then s else s.queueAll 2 (roundEvent hdr r.accs r.rejs)
  let s := s.lockRound r.accs r.rejs
  if r.cause = 1 && r.accs.isEmpty then s.modLf (fun l => { l with holdoff := some s.aon.tick }) else s

/-- R397, R398, R404: the re-entry to SLEEP after a full round that began with a wake by PRESENT and accepted nothing. -/
def State.reEnter (s : State) : State :=
  if !s.pwr.presentVisit then s
  else if s.aboveDeny || !s.pwr.canWake || 2 ≤ s.floor || s.pwr.entry.isSome || s.pwr.start.isSome then s.visitOver
  else
    let e : PwrEntry :=
      { target := .sleep, force := false, retain := 0, waitMs := 0, began := s.aon.tick, done := s.aon.tick, phase := .claims,
        latched := none, byHost := false }
    { s with pwr := { s.pwr with entry := some e } }

/-- R22: the headland of a plough round falls. Left open: DESIGN CHOICE, assumption log 24. -/
def State.ploughClose (s : State) (deadline : Bool) : State :=
  match s.lf.round with
  | none => s.seqHeadland 0 deadline
  | some r0 =>
    let s := if r0.full && r0.next ≤ 2 then s.markPlan everyCoil (if deadline || r0.deadline then 6 else 7) else s
    let s := s.modRound (fun r => { r with onAir := none, driven := 0, listening := false, deadline := r.deadline || deadline })
    let r := s.lf.round.getD r0
    let s := s.coexFree 1
    let s := s.modLf (fun l => { l with round := none })
    let s := if r.full && !r.cleared then s.fullResults r else s
    let s := (s.lfApplyAll.lfRegulate).uhfRegulate
    let s := if r.full then s.planApply else s
    let s := (((s.coexApplyAll).captureStart 0).seqHeadland 0 deadline).boostDown
    if r.full then (if r.accs.isEmpty then s.reEnter else s.visitOver) else s

/-- R22, R295: a plough round ends; an element on air finishes first. -/
def State.ploughHeadland (s : State) (deadline : Bool) : State :=
  match s.lf.round with
  | some r =>
    if r.onAir.isSome then
      let s := s.modRound (fun r => { r with deadline := r.deadline || deadline, listening := false })
      s.modSeq 0 (fun q => { q with ending := true, counts := if deadline then bumpBy q.counts 24 8 1 else q.counts })
    else s.ploughClose deadline
  | none => s.ploughClose deadline

/-! ## The end of an element (R96, R98, R105) -/

/-- The element on air is over, and a headland that waited for it falls. -/
def State.ploughGoesOn (s : State) : State := if (s.sq 0).ending then s.ploughClose false else s

/-- R105: an element ends: its coils are measured, and what follows it in the round comes next. `vlfOk` is VLF at the start of the next slot. -/
def State.elementEnd (s : State) (vlfOk : Bool) (l : List CoilMeas) : State :=
  match s.lf.round with
  | none => s
  | some r => match r.onAir with
    | none => s
    | some e =>
      let s := s.measureAll r.driven l
      let s := s.modRound (fun r => { r with onAir := none, driven := 0 })
      let s := match e with
        | .wake =>
          let s := s.modRound (fun r => { r with next := if r.full then 1 else 3 })
          (if r.full then s else s.coexAsk 1 false).elementDone 0 0 0
        | .challenge => (s.modRound (fun r => { r with next := 2 })).elementDone 0 0 0
        | .slot k =>
          let n := s.lf.slotCoil k
          let s := if r.driven = 0 then s else s.modRound (fun r => { r with coil := r.coil.set n 0 })
          if (s.sq 0).ending then s else s.slotsFrom r.mask vlfOk (s.lf.slotList.drop (k + 1))
        | .confirm j =>
          let sent (i : Nat) (a : Acceptance) : Acceptance := if i = j then { a with confirmed := true } else a
          (s.modRound (fun r => { r with confirms := j + 1, accs := r.accs.mapIdx sent })).elementDone 0 0 0
      s.ploughGoesOn

/-- R96: the element on air stops, and the coils it drove are ABANDONED with a reason. A slot of the burst keeps its place, silent.
Left open: DESIGN CHOICE, assumption log 24. -/
def State.stopElement (s : State) (reason : Nat) : State :=
  match s.lf.round with
  | none => s
  | some r => match r.onAir with
    | none => s
    | some (.slot k) => (s.modRound (fun r => { r with driven := 0 })).silentSlot (s.lf.slotCoil k) reason
    | some _ =>
      let s := s.markPlan r.driven reason
      let s := s.modRound (fun r => { r with onAir := none, driven := 0, refused := true, next := if r.full then r.next else 3 })
      (s.elementDone 0 4 0).ploughGoesOn

/-- R96: the VLF limiter trips. -/
def State.vlfTrip (s : State) : State :=
  match s.lf.round with
  | some r => if r.onAir.isSome && r.driven ≠ 0 then (s.lfFlag 0).stopElement 3 else s
  | none => s

/-- R96: a strip's drivers exceed their limit, or have cooled. -/
def State.driverHot (s : State) (strip : Fin 3) (hot : Bool) : State :=
  let b := BitVec.ofNat 3 (2 ^ strip.val)
  if !hot then s.modLf (fun l => { l with hot := l.hot &&& ~~~b })
  else
    let s := (s.modLf (fun l => { l with hot := l.hot ||| b })).lfFlag 5
    match s.lf.round with
    | some r =>
      let left := r.driven &&& s.lf.coolMask
      if r.onAir.isNone || left = r.driven then s
      else if left = 0 then s.stopElement 4
      else (s.markPlan (r.driven &&& ~~~left) 4).modRound (fun r => { r with driven := left })
    | none => s

/-! ## Presence (R112, R118, R158) -/

/-- R157, R158: a presence burst with a word, starting at an offset in µs from the expected start of a copy: a match makes the poll PRESENT.
Left open: DESIGN CHOICE, assumption log 25. -/
def State.presence (s : State) (word : BitVec 16) (offset : Int) : State :=
  match s.lf.round with
  | some r =>
    if r.full || !r.listening || !bit s.uhf.vigil 35 || word.toNat ≠ fld s.lf.wakeId 0 16 || 64 < offset.natAbs then s
    else
      let s := (s.elementDone 0 0 1).ploughClose false
      if s.inHoldoff then s.lfSkipped
      else if s.pwr.state = .sleep && !s.pwr.enabled 5 then s
      else (s.modLf (fun l => { l with want := some 1 })).wake 5 0
  | none => s

/-! ## Collection (R148 to R154) -/

/-- R143: the CRC-16 of a response body holds. -/
def crc16Ok (b : Octets) : Bool := crcMsb 16 0x1021 0xFFFF (b.take 39) = beNum (nums (pRun b 39 2))

/-- R145: the channel a key responds on. -/
def keyChannel (rb : BitVec 64) (b : Octets) (count : Nat) : Nat := (crc32c (octs (beOf 8 rb.toNat) ++ pRun b 1 5)).toNat % count

/-- R149, steps 3 to 7: the first check a frame fails. -/
inductive Heard where
  | window | crc | shape | channel | passed
  deriving DecidableEq, Repr

/-- R148, R149: the checks of a frame that is clean and in sync. -/
def Plan.hear (p : Plan) (rb : BitVec 64) (f : RxFrame) : Heard :=
  let b := f.body
  let k := f.slot.val
  if 3000 < f.offset.natAbs then .window
  else if b.length ≠ 41 || !crc16Ok b then .crc
  else if p8 b 0 ≠ 16 + k then .shape
  else if keyChannel rb b p.count ≠ f.lane.val then .channel
  else if k ≠ 0 && k ≠ 1 + p8 b 13 % p.sc then .channel
  else .passed

/-- R220, R150: a frame that reaches the credential check. -/
def State.creditFrame (s : State) (r : PloughRound) (f : RxFrame) : State :=
  match s.checkFrame r f with
  | (s, .accept a) => s.modRound (fun r => { r with accs := r.accs ++ [a] })
  | (s, .reject x) => s.modRound (fun r => { r with rejs := r.rejs ++ [x] })
  | (s, .copy) => s.modUhf (fun u => { u with counts1 := bump u.counts1 16 })
  | (s, .conflict) =>
    let id := bodyId f.body
    let s := s.modCrd (fun c => { c with flags := raiseFlag c.flags 0 })
    (s.modUhf (fun u => { u with counts2 := bump u.counts2 0 })).modRound (fun r => { r with
      accs := r.accs.map (fun (a : Acceptance) => if a.id = id then { a with conflict := true } else a) })
  | (s, .abandon) => s.abandonLane f.lane.val

/-- R149: a lane has heard a frame. A frame of a slot that is not scheduled, or of a slot that is over, is not heard.
Left open: DESIGN CHOICE, assumption log 26. -/
def State.responseFrame (s : State) (f : RxFrame) : State :=
  match s.lf.round, s.uhf.plan with
  | some r, some p =>
    let k := f.slot.val
    if !r.full || !r.listening || p.count ≤ f.lane.val || r.lost.getLsbD f.lane.val || !f.synced then s
    else if k < r.k || (k ≠ 0 && r.m < k) then s
    else
      let s := if r.k < k then s.coexSlot 1 else s
      let s := s.modRound (fun r => { r with k := k })
      if !f.clean then s.abandonLane f.lane.val
      else match p.hear r.rb f with
        | .window => s.modUhf (fun u => { u with counts0 := bump u.counts0 0 })
        | .crc =>
          let hint := k = 0 && !s.coexBlanked 1
          (s.modUhf (fun u => { u with counts0 := bump u.counts0 16 })).modRound (fun r => { r with hint := r.hint || hint })
        | .shape => s.modUhf (fun u => { u with counts0 := bump u.counts0 16 })
        | .channel => s.modUhf (fun u => { u with counts1 := bump u.counts1 0 })
        | .passed => s.creditFrame r f
  | _, _ => s

/-- R153: the greatest number of second-chance slots that leaves room for one confirm. -/
def State.chances (s : State) (r : PloughRound) (p : Plan) : Nat :=
  let lead := (r.stamp - (s.sq 0).entered).toNat * 1000000000 / 32768
  let t0 := lead + primaryPeriods s.lf.slots * 1000000000 / s.lf.carrier
  (List.range (p.sc + 1)).foldl (fun m k => if t0 + (k + 1) * p.slotNs + 512000 + 25600000 ≤ 500000000 then k else m) 0

/-- R153, R291: the primary slot ends: the indications are judged, and second-chance slots are scheduled. -/
def State.primaryEnd (s : State) (residual : Nat) (unsynced : Bool) : State :=
  match s.lf.round, s.uhf.plan with
  | some r, some p =>
    if !r.full || !r.listening || r.k ≠ 0 || r.m ≠ 0 then s
    else
      let seen := !s.coexBlanked 1 && (fld s.uhf.roundCfg 0 5 ≤ residual || unsynced)
      let hint := r.hint || seen
      let wanted : Bool := r.sc ≠ 2 && 0 < p.sc && (hint || bit s.uhf.roundCfg 5 || r.sc = 1)
      let m := if wanted then s.chances r p else 0
      let s := s.modRound (fun r => { r with hint := hint, m := m, k := if 0 < m then 1 else 0 })
      if 0 < m then (s.modUhf (fun u => { u with counts2 := bump u.counts2 16 })).coexSlot 1 else s
  | _, _ => s

/-- R154: collection closes, or the listening of a poll ends. -/
def State.collectionClose (s : State) (clipped : Bool) : State :=
  match s.lf.round with
  | some r =>
    if !r.listening then s
    else
      let s := if clipped && r.full then s.uhfFlag 3 else s
      let s := s.modRound (fun r => { r with listening := false })
      if r.full then ((s.coexFree 1).line12 0).elementDone 0 0 (min 255 r.accs.length)
      else (s.line12 0).elementDone 0 0 0
  | none => s

end Sys2Proof.Machine
end

