-- ==== Sys2Proof/Machine/Tilth.lean ====
section
/-!
DEFINITION. The instructions of the Tilth sequencers, their faults, and the deadlines of rounds (spec/09_tilth_sequencers.md R281 to R299,
R18, R22). A sequencer's instruction runs when its program stands at it; its fields come from the program word.
-/
namespace Sys2Proof.Machine

open Sys2Proof

/-- The word a sequencer stands at, where it is in a round, nothing holds it up, and the word's OP is the one named. -/
def State.fetchOp (s : State) (n : Fin 3) (op : Nat) : Option Word :=
  let q := s.sq n
  if q.inRound && q.stall = .none && !q.ending then
    match q.image.code[q.pc]? with
    | some w => if tOp w = op then some w else none
    | none => none
  else none

/-- `s` with sequencer `n` changed, where it stands at an instruction with this OP. -/
def State.runOp (s : State) (n : Fin 3) (op : Nat) (f : Word → State) : State :=
  match s.fetchOp n op with
  | some w => f w
  | none => s

/-- The program goes on at the next instruction. -/
def Seq.next' (q : Seq) : Seq := { q with pc := q.pc + 1 }

/-- R283: register `r`. -/
def Seq.reg (q : Seq) (r : Fin 8) : Word := q.regs[r]

/-- R284: an immediate of 26 bits, sign-extended. -/
def tImm (w : Word) : Word := BitVec.ofNat 40 (twos 40 (signed 26 (fld w 0 26)))

/-- R283: the operand of an instruction: the immediate, or RB. -/
def Seq.operand (q : Seq) (w : Word) : Word := if tI w then tImm w else q.reg (tRb w)

/-! ## Rounds and faults (R18, R22, R295, R296, R299) -/

/-- R22, R295: the round of a sequencer ends; what is on air finishes first. -/
def State.endRound (s : State) (n : Fin 3) (deadline : Bool) : State :=
  if n = 0 then s.ploughHeadland deadline
  else if n = 1 then s.rangeHeadland deadline
  else if s.sheafOnWire && s.hrv.period.isSome then
    s.modSeq 2 (fun q => { q with ending := true, counts := if deadline then bumpBy q.counts 24 8 1 else q.counts })
  else s.harvestHeadland deadline

/-- R299: a program faults with a cause at an instruction: the round ends, and the default program is installed. -/
def State.runFault (s : State) (n : Fin 3) (cause pc : Nat) : State :=
  let s := (s.fallBack n cause pc).modSeq n (fun q => { q with counts := bumpBy q.counts 16 8 1 })
  s.endRound n false

/-- R299: RUN_OFF: execution has passed the last instruction; the index recorded is that of the last instruction.
Left open: DESIGN CHOICE, assumption log 24. -/
def State.runOff (s : State) (n : Fin 3) : State :=
  let q := s.sq n
  if q.inRound && q.stall = .none && !q.ending && q.image.code.length ≤ q.pc then s.runFault n 3 (q.pc - 1) else s

/-- R18: the deadline of the round of a sequencer, in ms. Left open: DESIGN CHOICE, assumption log 32. -/
def State.deadlineMs (s : State) (n : Fin 3) : Nat :=
  if n = 0 then (if s.fullRound then 500 else 40) else if n = 1 then 20 else min 15 s.hrv.cadence

/-- R22, R295: the deadline of a round has come. Left open: DESIGN CHOICE, assumption log 5, 32. -/
def State.roundDeadline (s : State) (n : Fin 3) : State :=
  let q := s.sq n
  if q.inRound && !q.ending && s.deadlineMs n * 32768 ≤ (s.age q.entered + 1) * 1000 then s.endRound n true else s

/-- R296: HALT stops the sequencer as SEQ_STOP would, with STOP_CAUSE 1. -/
def State.haltSeq (s : State) (n : Fin 3) : State :=
  let u := (s.sq n).unit
  let s := if u = .restartPending then s.reportDeferred (.seq n) true .wrongState else s
  s.modSeq n (fun q => { q with unit := if u = .on || u = .restartPending then .stopping else u, stopHalt := true })

/-! ## Arithmetic and flow (R284) -/

/-- SET. -/
def Seq.setInstr (q : Seq) (w : Word) : Seq :=
  let v := if !tI w then q.reg (tRb w) else if bit w 26 then setFld (q.reg (tRa w)) 26 14 (fld w 0 14) else tImm w
  (q.setReg (tRa w) v).next'

/-- ADD. -/
def Seq.addInstr (q : Seq) (w : Word) : Seq := (q.setReg (tRa w) (q.reg (tRa w) + q.operand w)).next'

/-- CMP. -/
def Seq.cmpInstr (q : Seq) (w : Word) : Seq :=
  let a := q.reg (tRa w)
  let b := q.operand w
  { q with eq := a = b, lt := a < b, slt := a.slt b, pc := q.pc + 1 }

/-- Whether COND of a BRANCH holds. -/
def Seq.cond (q : Seq) : Nat → Bool
  | 0 => true | 1 => q.eq | 2 => !q.eq | 3 => q.lt | 4 => !q.lt | 5 => q.slt | 6 => !q.slt | _ => false

/-- BRANCH. -/
def Seq.branchInstr (q : Seq) (w : Word) : Seq := { q with pc := if q.cond (fld w 24 3) then fld w 0 9 else q.pc + 1 }

/-- LOOP. -/
def Seq.loopInstr (q : Seq) (w : Word) : Seq :=
  let v := q.reg (tRa w) - 1
  { q.setReg (tRa w) v with pc := if v = 0 then q.pc + 1 else fld w 0 9 }

/-- CALL, with room on the stack. -/
def Seq.callInstr (q : Seq) (w : Word) : Seq := { q with stack := (q.pc + 1) :: q.stack, pc := fld w 0 9 }

/-- CALL (R284, R299). -/
def State.callInstr (s : State) (n : Fin 3) (w : Word) : State :=
  if 4 ≤ (s.sq n).stack.length then s.runFault n 1 (s.sq n).pc else s.modSeq n (fun q => q.callInstr w)

/-- RET (R284, R299). -/
def State.retInstr (s : State) (n : Fin 3) : State :=
  match (s.sq n).stack with
  | [] => s.runFault n 2 (s.sq n).pc
  | i :: is => s.modSeq n (fun q => { q with pc := i, stack := is })

/-- R285: the value of a source of GET; one that does not apply to the current round reads 0. Left open: DESIGN CHOICE, assumption log 25. -/
def State.getValue (s : State) (n : Fin 3) (source : Nat) : Nat :=
  let full : Option PloughRound := if n = 0 then (match s.lf.round with | some r => if r.full then some r else none | none => none) else none
  match source with
  | 0x00 => s.aon.tick.toNat
  | 0x01 => s.age (s.sq n).began
  | 0x02 => match full with | some r => r.accs.length | none => 0
  | 0x03 => match full with | some r => r.rejs.length | none => 0
  | 0x04 => match full with | some r => b2n r.hint | none => 0
  | 0x05 => if n = 0 then s.lf.slots else 0
  | 0x08 => s.uwb.openMask
  | 0x10 => s.hrv.armedMask
  | 0x11 =>
    match if n = 2 then s.hrv.period else none with
    | some p => (allRx.map (fun m => match p.sheaf[m] with | .none => 0 | .abandoned => 0 | _ => 2 ^ m.val)).sum
    | none => 0
  | 0x12 => (allRx.map (fun m => s.hrv.done[m] * 4 ^ m.val)).sum
  | 0x20 => match s.pwr.state with | .run => 0 | .idle => 1 | _ => 2
  | _ => 0

/-- GET. -/
def State.getInstr (s : State) (n : Fin 3) (w : Word) : State :=
  let v := BitVec.ofNat 40 (s.getValue n (fld w 0 8))
  s.modSeq n (fun q => (q.setReg (tRa w) v).next')

/-! ## Waits and signals (R286 to R289) -/

/-- R286: how many of a unit pass in a second. -/
def State.unitRate (s : State) (unit : Nat) : Nat :=
  match unit with | 0 => s.lf.carrier | 1 => 1000000 | 2 => 32768 | _ => 2496000000

/-- R286: `count` units have certainly passed after `a` ticks. -/
def State.surelyPast (s : State) (unit count a : Nat) : Bool := count * 32768 + s.unitRate unit ≤ a * s.unitRate unit

/-- R286: `count` units can have passed after `a` ticks. -/
def State.maybePast (s : State) (unit count a : Nat) : Bool :=
  if unit = 2 then count ≤ a else count * 32768 < (a + 1) * s.unitRate unit

/-- WAIT_TIME (R286). Within the one tick that the tick count leaves open, `passed` says whether an absolute time had passed. -/
def State.waitTime (s : State) (n : Fin 3) (w : Word) (passed : Bool) : State :=
  let q := s.sq n
  let unit := fld w 25 2
  let count := if tI w then fld w 0 24 else fld (q.reg (tRb w)) 0 24
  if bit w 24 then
    let a := s.age q.began
    let late := s.surelyPast unit count a || (s.maybePast unit count a && passed)
    if late then s.modSeq n (fun q => (q.setReg (tRa w) 1).next')
    else s.modSeq n (fun q => { q with stall := .time unit count q.began })
  else s.modSeq n (fun q => { q with stall := .time unit count s.aon.tick })

/-- WAIT_TIME_END (R286). -/
def State.waitTimeEnd (s : State) (n : Fin 3) : State :=
  let q := s.sq n
  match q.stall, q.image.code[q.pc]? with
  | .time unit count since, some w =>
    if q.inRound && !q.ending && s.maybePast unit count (s.age since) then
      s.modSeq n (fun q => { (q.setReg (tRa w) 0).next' with stall := .none })
    else s
  | _, _ => s

/-- WAIT_EVENT (R288). -/
def Seq.waitEvent (q : Seq) (w : Word) : Seq :=
  let mask := BitVec.ofNat 16 (fld w 0 16)
  match lowestLine (q.lines &&& mask) with
  | some k => ({ q with lines := q.lines &&& ~~~(BitVec.ofNat 16 (1 <<< k)) }.setReg (tRa w) (BitVec.ofNat 40 k)).next'
  | none => { q with stall := .event mask (tRa w) }

/-- SIGNAL (R289). -/
def State.signalInstr (s : State) (n : Fin 3) (w : Word) : State :=
  let t : Fin 3 := Fin.ofNat 3 (fld w 0 2)
  let s := s.modSeq n Seq.next'
  if (s.sq t).unit = .off then s else s.modSeq t (fun q => q.latchLine (fld w 2 2))

/-! ## Elements (R290 to R293) -/

/-- The mask of SEND_LF and BURST. -/
def Seq.coilOperand (q : Seq) (w : Word) : BitVec 12 := BitVec.ofNat 12 (if tI w then fld w 0 12 else fld (q.reg (tRb w)) 0 12)

/-- SEND_LF (R291). -/
def State.sendLf (s : State) (late vlfOk : Bool) : State :=
  s.runOp 0 0x18 (fun w => s.sendLfInstr (fld w 25 2) ((s.sq 0).coilOperand w) (tRa w) late vlfOk)

/-- BURST (R291). -/
def State.burst (s : State) (late vlfOk : Bool) : State :=
  s.runOp 0 0x19 (fun w => s.burstInstr ((s.sq 0).coilOperand w) (tRa w) late vlfOk)

/-- LISTEN (R291). -/
def State.listen (s : State) (late : Bool) : State := s.runOp 0 0x1A (fun w => s.listenInstr (fld w 24 2) (tRa w) late)

/-- RANGE (R292). -/
def State.range (s : State) : State := s.runOp 1 0x1B (fun w => s.rangeInstr ((s.sq 1).reg (tRb w)) (tRa w))

/-- EMIT (R293). -/
def State.emit (s : State) : State := s.runOp 2 0x1C (fun w => s.emitInstr ((s.sq 2).reg (tRb w)) (tRa w))

/-- A frame of a sheaf has been sent: the receiver's last level, and the headland where it ends the period or one waited for it (R23, R250). -/
def State.sheafOut (s : State) (n : Fin 4) : State :=
  let s := s.sheafSent n
  if (s.sq 2).ending || (match s.hrv.period with | some p => p.isOver | none => false) then s.harvestHeadland false else s

end Sys2Proof.Machine
end

