-- ==== Sys2Proof/Machine/Host.lean ====
section
/-!
DEFINITION. Host contexts: sessions, roles, claims and events, and the ports that carry packets (spec/02_command_protocol.md, R481),
with the bodies of the HST_ commands.
-/
namespace Sys2Proof.Machine

open Sys2Proof

/-! ## Sessions (R54, R58) -/

/-- R54, R55: a fresh role nonce; none can be drawn while the DRBG is in ERROR or the tract in quarantine. -/
def State.freshNonce (s : State) (n : Fin 8) : State :=
  match s.drbgBlocked with
  | some _ => s.modCtx n (fun c => { c with nonce := 0, nonceLive := false })
  | none =>
    let v := s.random
    s.useRandom.modCtx n (fun c => { c with nonce := v, nonceLive := true })

/-- The nonce of a context as result data. -/
def State.nonceData (s : State) (n : Fin 8) : Octets := leOf 8 (s.ctx n).nonce.toNat

/-- R58: what ends with a context's session: role, claim, events, event mask and passwords. -/
def Ctx.ended (c : Ctx) : Ctx := { c with role := .observer, claim := 0, events := [], lost := 0, mask := 0, pwForce := 0 }

/-- R58, R301, R334, R480: a session ends, with the staging, the firmware transfer and the cipher contexts it owned. -/
def State.endSession (s : State) (n : Fin 8) : State :=
  let s := s.modCtx n Ctx.ended
  let s := match s.seq.stage with | some g => if g.ctx = n then s.dropStaging else s | none => s
  let s := match s.sys.fw with
    | some f => if f.ctx = n then { s with sys := { s.sys with fw := none } } else s
    | none => s
  let free : CphCtx → CphCtx := fun x => if x.inUse && x.owner = n then x.freed else x
  { s with
    hst := { s.hst with deferred := s.hst.deferred.filter (fun d => d.ctx ≠ n) }
    cph := { s.cph with ctxs := s.cph.ctxs.map free } }

/-- R58: a waiting command is discarded without a reply. -/
def State.discardWaiting (s : State) (n : Fin 8) (c : Cmd) : State :=
  let s := s.journalDone n c .wrongState true
  (s.modCtx n (fun x => x.noteStatus c.seq .wrongState)).unpend n c.seq

/-- R58: a completed command whose reply is not delivered. -/
def State.discardDone (s : State) (n : Fin 8) (c : Cmd) : State := s.discardReply n c

/-- Whether a waiting output packet is a reply to a context. -/
def Packet.isReplyOf (p : Packet) (n : Fin 8) : Bool := decide (p.kind = .reply) && decide (p.ctx = n) && p.frees

/-- Whether a waiting frame is a reply to a context. -/
def TxFrame.isReplyOf (f : TxFrame) (n : Fin 8) : Bool :=
  match f.kind with | .reply c _ frees => decide (c = n) && frees | _ => false

/-- A port without the replies of a context. A packet that is being clocked out goes out whole, and ends nothing. -/
def PortState.withoutReplies (q : PortState) (n : Fin 8) : PortState :=
  let keep (p : Packet) : Option Packet :=
    if p.isReplyOf n then (if q.selected then some { p with frees := false } else none) else some p
  { q with out := q.out.filter (fun p => !p.isReplyOf n), cur := q.cur.bind keep }

/-- R58: at the acceptance of HST_OPEN on the port that holds the context, or of HST_CLOSE: commands not dispatched are discarded,
dispatched ones run on without a reply, and undelivered replies are discarded. -/
def State.sessionCut (s : State) (n : Fin 8) : State :=
  let cs := (s.ctx n).cmds
  let s := (cs.filter Cmd.isWaiting).foldl (fun s c => s.discardWaiting n c) s
  let s := (cs.filter (fun c => decide (c.phase = .done) || decide (c.phase = .sent))).foldl (fun s c => s.discardDone n c) s
  let drop : Cmd → Cmd := fun c => if c.inFlight then { c with dropped := true } else c
  let s := s.modCtx n (fun x => { x with cmds := x.cmds.map drop })
  let ports := s.hst.ports.map (fun q => q.withoutReplies n)
  { s with
    hst := { s.hst with ports := ports }
    ntc := { s.ntc with queue := s.ntc.queue.filter (fun f => !f.isReplyOf n) } }

/-- R54: the parameters of an HST_OPEN for a context that no other port holds: whether they are good. -/
def openParams (c : Cmd) (n : Fin 8) : Bool :=
  let key := p8 c.p 2
  let mac := p48 c.p 3
  p8 c.p 0 = n.val && p8 c.p 1 ≤ 1 &&
    (match c.port with | .net => mac = c.dst.toNat | _ => key = 0 && mac = 0)

/-- HST_OPEN (R54, R58): `c.dst` is the source address of the frame on the network port. Left open: DESIGN CHOICE, assumption log 15. -/
def hstOpen (s : State) (n : Fin 8) (c : Cmd) : State × Done :=
  if !openParams c n then refuse s .badParam
  else if (s.ctx n).isOpen && (s.ctx n).port ≠ c.port then refuse s .busy
  else
    let s := s.endSession n
    let opened : Ctx → Ctx := fun x =>
      { x with isOpen := true, port := c.port, push := p8 c.p 1 = 1, mac := BitVec.ofNat 48 (p48 c.p 3),
               keySlot := BitVec.ofNat 8 (p8 c.p 2) }
    let s := (s.modCtx n opened).freshNonce n
    okData s (s.nonceData n)

/-- HST_CLOSE (R58): the session ends and the context is closed; its duplicate filter and mark are cleared (R85, R87).
Left open: DESIGN CHOICE, assumption log 15. -/
def hstClose (s : State) (n : Fin 8) (_ : Cmd) : State × Done :=
  let s := s.endSession n
  okDone (s.modCtx n (fun x =>
    { x with isOpen := false, push := false, filter := [], filterLost := 0, kept := [], mark := 0, markWarned := false }))

/-! ## Roles (R55, R56) -/

/-- R56, R316, R343: why a proof cannot be checked for want of a live nonce. Left open: DESIGN CHOICE, assumption log 15. -/
def State.noNonce (s : State) : Status := (s.drbgBlocked).getD .wrongState

/-- R55: what an attempt that passed the first checks comes to: the status, and the state after it. Left open: DESIGN CHOICE, assumption log 5, 15. -/
def State.roleAttempt (s : State) (n : Fin 8) (c : Cmd) (role : Role) : State × Status :=
  let k := role.code
  let slot := s.slot k
  let grant (s : State) : State × Status := (s.modCtx n (fun x => { x with role := role }), .ok)
  if k = 0 then grant s
  else if slot.st = .empty && (c.port = .spiA || c.port = .spiB) then grant s
  else match slot.st with
    | .empty => (s, .keyEmpty)
    | .erased => (s, .keyErased)
    | .lost => (s, .keyErased)
    | .written =>
      let x := s.ctx n
      if !x.nonceLive then (s, s.noNonce)
      else if s.cph.katModes.getLsbD 0 then (s, .selfTestFail)
      else match s.latch k with
        | .key key =>
          if (cmac key (leOf 8 x.nonce.toNat ++ o8 n.val ++ o8 k)).take 8 = pRun c.p 1 8 then grant s
          else (s.proofFailed n, .authFail)
        | l => (s.afterLatch k, l.status)

/-- HST_SET_ROLE (R55, R56, R474): every attempt uses the nonce up, and a fresh one goes with the reply where R474 allows data.
Left open: DESIGN CHOICE, assumption log 15. -/
def hstSetRole (s : State) (n : Fin 8) (c : Cmd) : State × Done :=
  match Role.ofCode (p8 c.p 0) with
  | none => refuse (s.freshNonce n) .badParam
  | some role =>
    if role = .battery && c.port ≠ .net then refuse (s.freshNonce n) .notPermitted
    else
      let (s, st) := if (s.ctx n).roleTries.active s.aon.tick then (s, .busy) else s.roleAttempt n c role
      let s := s.freshNonce n
      (s, .reply st (match st with | .faultDetected => [] | _ => s.nonceData n))

/-- R55: the role a command is accepted under: the context's, or, while the reply to an HST_SET_ROLE is outstanding, the role before it. -/
def Ctx.roleNow (c : Ctx) : Role :=
  match c.cmds.find? (fun x => decide (x.op = .hstSetRole)) with
  | some x => x.role
  | none => c.role

/-- R56: the back-off ends once its 60 s have passed. -/
def State.roleBackoffEnd (s : State) (n : Fin 8) : State := s.modCtx n (fun c => { c with roleTries := c.roleTries.expire s.aon.tick })

/-! ## Claims (R65, R66) -/

/-- HST_CLAIM (R65). -/
def hstClaim (s : State) (n : Fin 8) (c : Cmd) : State × Done :=
  let f := p8 c.p 0
  if f = 0 || 3 < f then refuse s .badParam else okDone (s.modCtx n (fun x => { x with claim := f }))

/-- HST_UNCLAIM (R65). -/
def hstUnclaim (s : State) (n : Fin 8) (_ : Cmd) : State × Done := okDone (s.modCtx n (fun x => { x with claim := 0 }))

/-- CLAIM_LEASE_LAPSE (R65): a claim lapses once no command of its context has been accepted for the lease. -/
def State.claimLapse (s : State) (n : Fin 8) : State :=
  let c := s.ctx n
  if c.claim ≠ 0 && ticksOf (fld s.hst.claimLease 0 12) ≤ s.age c.renewed then s.modCtx n (fun x => { x with claim := 0 }) else s

/-! ## Events (R67 to R70) -/

/-- R481: one event of a reply to HST_EVENT_READ: CODE, EVENT_SEQ, FLAGS, LEN and the octets of R51. -/
def eventOctets (e : Event) (lost : Nat) : Octets :=
  let body := wordOctets e.stamp ++ o8 lost ++ [0, 0] ++ e.data
  o16 e.code ++ o16 e.seq.toNat ++ o8 (if lost = 0 then 0 else 4) ++ o16 body.length ++ body

/-- R481: as many whole events, oldest first, as fit in the octets left; the first of them carries the lost count.
Left open: DESIGN CHOICE, assumption log 16. -/
def takeEvents : Nat → Nat → Nat → List Event → Nat × Octets
  | 0, _, _, _ => (0, [])
  | _, _, _, [] => (0, [])
  | m + 1, room, lost, e :: es =>
    let o := eventOctets e lost
    if room < o.length then (0, [])
    else
      let (k, os) := takeEvents m (room - o.length) 0 es
      (k + 1, o ++ os)

/-- HST_EVENT_READ (R68, R481). Left open: DESIGN CHOICE, assumption log 16. -/
def hstEventRead (s : State) (n : Fin 8) (c : Cmd) : State × Done :=
  let x := s.ctx n
  let m := p8 c.p 0
  if m = 0 || 8 < m then refuse s .badParam
  else if x.push then refuse s .wrongState
  else
    let (k, os) := takeEvents m 1016 x.lost x.events
    let s := s.modCtx n (fun x => { x with events := x.events.drop k, lost := if k = 0 then x.lost else 0 })
    okData s (o8 k ++ os)

/-- HST_EVENT_MASK (R67, R481). -/
def hstEventMask (s : State) (n : Fin 8) (c : Cmd) : State × Done :=
  let m := BitVec.ofNat 16 (p16 c.p 0)
  if m &&& 0xE001 ≠ 0 then refuse s .badParam else okDone (s.modCtx n (fun x => { x with mask := m }))

/-! ## Output packets (R42, R43, R49, R51, R68) -/

/-- R406, R509: whether a port can carry packets: the balls of SPI and UART-C need VDDIO, UART-C and the network port the oscillator. -/
def State.portUp (s : State) (p : Port) : Bool :=
  match p with
  | .spiA => s.sys.vddio
  | .spiB => s.sys.vddio
  | .uartC => s.sys.vddio && s.pwr.xoOk
  | .net => s.ntc.link && s.phyOn s.anyArmed

/-- R403, R405: packets pass in RUN and IDLE only, once commands are accepted. -/
def State.hears (s : State) (p : Port) : Bool :=
  (s.pwr.state = .run || s.pwr.state = .idle) && s.pwr.start.isNone && s.portUp p

/-- R51, R68: the event packet of the lowest context in PUSH delivery on a port that has an event. Left open: DESIGN CHOICE, assumption log 8. -/
def State.pushPacket (s : State) (p : Port) : Option Packet :=
  let mk (n : Fin 8) : Option Packet :=
    let c := s.ctx n
    if c.isOpen && c.push && c.port = p then
      c.events.head?.map (fun e =>
        { kind := .event, ctx := n, high := 0, seq := e.seq, code := BitVec.ofNat 16 e.code, trunc := decide (0 < c.lost),
          params := c.eventParams e, frees := false })
    else none
  allCtx.findSome? mk

/-- R42, R68: the packet a port sends next: a waiting reply, and otherwise an event. -/
def State.nextPacket (s : State) (p : Port) : Option Packet :=
  match (s.port p).out with
  | x :: _ => some x
  | [] => s.pushPacket p

/-- R42: the device starts the next output packet on an SPI port. Left open: DESIGN CHOICE, assumption log 15. -/
def State.startOutput (s : State) (p : Port) : State :=
  let x := s.nextPacket p
  s.modPort p (fun q => { q with cur := x, out := q.out.drop 1 })

/-- R69: an event packet has gone: the event leaves its context's queue, and the lost count it carried is taken off. -/
def State.eventGone (s : State) (x : Packet) : State :=
  let gone : Ctx → Ctx := fun c =>
    match c.events with
    | e :: r => if e.seq = x.seq then { c with events := r, lost := c.lost - p8 x.params 5 } else c
    | [] => c
  s.modCtx x.ctx gone

/-- R60: a packet has been delivered: a reply ends its command, an event leaves its queue. -/
def State.packetGone (s : State) (x : Packet) : State :=
  match x.kind with
  | .reply => if x.frees then s.unpend x.ctx x.seq else s
  | .event => s.eventGone x

/-- CHIP_SELECT_FALL (R40, R42, R401): the mode is taken from SCK, an output packet starts, and a sleeping device wakes. -/
def State.selectFall (s : State) (p : Port) (sckHigh : Bool) : State :=
  if p = .uartC || p = .net || !s.sys.vddio then s
  else
    let s := s.modPort p (fun q => { q with selected := true, mode3 := sckHigh })
    if s.hears p then (if (s.port p).cur.isNone then s.startOutput p else s)
    else s.wake (if p = .spiA then 6 else 7) 0

/-- CHIP_SELECT_RISE (R41, R42): a partial input packet is discarded and counted; an incomplete output packet is kept whole. -/
def State.selectRise (s : State) (p : Port) (part : Nat) : State :=
  if !(s.port p).selected || p = .uartC || p = .net then s
  else
    let s := s.modPort p (fun q => { q with selected := false })
    if 0 < part && s.hears p then s.portErr p 16 else s

/-- OUTPUT_PACKET_DELIVERED (R42, R44, R60): the last CRC octet has been clocked out, or sent on UART-C. On SPI the next packet then
starts within the same assertion; with none, none starts later in it. -/
def State.delivered (s : State) (p : Port) : State :=
  if !s.hears p then s
  else match p with
    | .net => s
    | .uartC =>
      match s.nextPacket p with
      | none => s
      | some x => State.packetGone (s.modPort p (fun q => { q with out := q.out.drop 1 })) x
    | _ =>
      match (s.port p).cur with
      | none => s
      | some x =>
        if (s.port p).selected then
          let s := State.packetGone (s.modPort p (fun q => { q with cur := none })) x
          s.startOutput p
        else s

/-- R43: a port asserts ATTN: a packet waits, or a context in PULL delivery has an event. -/
def State.attn (s : State) (p : Port) : Bool :=
  let q := s.port p
  q.cur.isSome || (s.nextPacket p).isSome ||
    allCtx.any (fun n => let c := s.ctx n; c.isOpen && !c.push && c.port = p && !c.events.isEmpty)

/-- R43: what an ATTN ball shows: driven high or low, or released. -/
inductive BallLevel where
  | low | high | released
  deriving DecidableEq, Repr

/-- R43, R509: the level of ATTN_A (false) or ATTN_B (true) under HST_SPI_CFG. Left open: DESIGN CHOICE, assumption log 16. -/
def State.attnLevel (s : State) (b : Bool) : BallLevel :=
  let lo := if b then 2 else 0
  let on := s.attn (if b then .spiB else .spiA)
  let od := bit s.hst.spiCfg (lo + 1)
  let high := if bit s.hst.spiCfg lo then on else !on
  if !s.sys.vddio then .released
  else if high then (if od then .released else .high) else .low

/-- R42, R49: the octets an SPI port or UART-C clocks out for its packet; MORE says that a further packet of the context waits. -/
def State.portOctets (s : State) (p : Port) : Octets :=
  match (s.port p).cur with
  | none => []
  | some x => s.packetOctets p 0 x ((s.port p).out.any (fun y => y.ctx = x.ctx) || (s.ctx x.ctx).hasMore)

/-! ## HST_ registers (R72) -/

/-- HST_CTXn_STATUS. -/
def State.ctxStatus (s : State) (n : Fin 8) : Word :=
  let c := s.ctx n
  flag 0 c.isOpen ||| put 1 3 (portIx c.port).val ||| put 4 3 c.role.code ||| flag 7 c.push ||| put 8 3 c.cmds.length
    ||| put 11 6 c.events.length ||| put 17 8 c.lost ||| put 25 2 c.claim ||| flag 27 (c.roleTries.active s.aon.tick)

/-- R57, R72: HST_ROLE_MASK of a role. -/
def roleMask (r : Role) : Word := (List.range 15).foldl (fun w k => w ||| put (2 * k) 2 (r.mask k)) 0

/-- The roles in the order of their mask registers. -/
def maskRoles : List Role := [.fleet, .drive, .display, .service, .battery, .observer]

/-- R72: reads a register of the host block, by its offset in the page. -/
def hstReg (s : State) (o : Nat) : Option Word :=
  if o < 8 then some (s.ctxStatus (Fin.ofNat 8 o))
  else if o < 16 then
    let c := s.ctx (Fin.ofNat 8 o)
    some (put 0 16 c.lastSeq.toNat ||| put 16 16 c.evSeq.toNat)
  else match o with
    | 0x10 => some s.hst.claimLease
    | 0x11 => some s.hst.uartCfg
    | 0x12 => some s.hst.spiCfg
    | 0x14 => some (put 0 5 s.flights ||| put 5 3 s.hst.rrNext.val)
    | 0x18 => some (s.port .spiA).err
    | 0x19 => some (s.port .spiB).err
    | 0x1A => some (s.port .uartC).err
    | 0x1B => some (s.port .net).err
    | _ => if 0x20 ≤ o && o ≤ 0x25 then some (roleMask (maskRoles.getD (o - 0x20) .observer)) else none

/-- R44, R72: SYS_REG_WRITE to HST_CLAIM_LEASE, HST_UART_CFG or HST_SPI_CFG. -/
def State.hstWrite (s : State) (n : Fin 8) (c : Cmd) (o : Nat) (v : Word) : State × Done :=
  match o with
  | 0x10 =>
    if fld v 0 12 = 0 || 3600 < fld v 0 12 then refuse s .badParam
    else okDone { s with hst := { s.hst with claimLease := v } }
  | 0x11 =>
    if fld v 0 22 < 115200 || 3000000 < fld v 0 22 then refuse s .badParam
    else okDone { s with hst := { s.hst with uartCfg := v, baudBy := some (n, c.seq) } }
  | _ => okDone { s with hst := { s.hst with spiCfg := v } }

end Sys2Proof.Machine
end

