-- ==== Sys2Proof/Machine/Journal.lean ====
section
/-!
DEFINITION. Reading the almanac: the JRN_ commands and registers (spec/03_almanac.md R85 to R92, R481).
-/
namespace Sys2Proof.Machine

open Sys2Proof

/-- The numbers in the non-volatile ring, by slot, where a slot holds an entry. -/
def State.nvSeqs (s : State) : List (Nat × Nat) :=
  (List.range 8192).filterMap (fun k =>
    match s.nvm.work.get (nvRingAddr k) with
    | some w => if w = erased then none else some (w.toNat, k)
    | none => none)

/-- R92: the oldest number in the non-volatile ring; 0 when it is empty. -/
def State.oldestNv (s : State) : Word :=
  match s.nvSeqs with
  | [] => 0
  | x :: r => BitVec.ofNat 40 (r.foldl (fun m y => min m y.1) x.1)

/-- R92: the newest number in the non-volatile ring; 0 when it is empty. -/
def State.newestNv (s : State) : Word := BitVec.ofNat 40 (s.nvSeqs.foldl (fun m y => max m y.1) 0)

/-- The 25 octets of the entry in a slot of the non-volatile ring, where all of it can be read. -/
def State.nvEntry (s : State) (k : Nat) : Option Octets :=
  let ws := (span (nvRingAddr k) 5).map s.nvm.work.get
  if ws.any Option.isNone then none else some ((ws.map (fun w => wordOctets (w.getD 0))).flatten)

/-- The entry with a number, from the non-volatile ring. -/
def State.nvFind (s : State) (seq : Nat) : Option Octets :=
  match s.nvSeqs.find? (fun x => x.1 = seq) with
  | some x => s.nvEntry x.2
  | none => none

/-- The number of the i-th oldest entry of the working ring; where its own word is lost, from a neighbour (R77: numbers rise by one).
Left open: DESIGN CHOICE, assumption log 17. -/
def State.slotSeq (s : State) (i : Nat) : Option Nat :=
  match s.ringSeq i with
  | some w => some w.toNat
  | none =>
    match (if i = 0 then none else s.ringSeq (i - 1)) with
    | some w => some (w.toNat + 1)
    | none => if i + 1 < s.jrn.count then (s.ringSeq (i + 1)).map (fun w => w.toNat - 1) else none

/-- R90: reads the entry at a position of the working ring; a poisoned one is replaced by its non-volatile copy.
Left open: DESIGN CHOICE, assumption log 17. -/
def State.readEntry (s : State) (i : Nat) : State × Option Octets :=
  let seq := s.slotSeq i
  let (s, ws) := s.readWords 2 (ringAddr (s.jrn.slotOf i)) 5
  if ws.all Option.isSome then (s, some ((ws.map (fun w => wordOctets (w.getD 0))).flatten))
  else (s, seq.bind s.nvFind)

/-- R89, R90: reads entries of the working ring until `room` are found: how many were omitted, and the entries. -/
def State.readEntries (s : State) : Nat → List Nat → State × Nat × List Octets
  | _, [] => (s, 0, [])
  | 0, _ => (s, 0, [])
  | room + 1, i :: is =>
    match s.readEntry i with
    | (s, some o) =>
      let (s, k, os) := s.readEntries room is
      (s, k, o :: os)
    | (s, none) =>
      let (s, k, os) := s.readEntries (room + 1) is
      (s, k + 1, os)

/-- A list of (number, slot) in rising order, at most `n` long, with one more in its place. -/
def insertSeq (n : Nat) (x : Nat × Nat) (l : List (Nat × Nat)) : List (Nat × Nat) :=
  (l.filter (fun y => y.1 < x.1) ++ [x] ++ l.filter (fun y => x.1 < y.1)).take n

/-- JRN_READ (R89, R90). -/
def jrnRead (s : State) (_ : Fin 8) (c : Cmd) : State × Done :=
  let from_ := (pW c.p 0).toNat
  let m := p8 c.p 5
  if m = 0 || 40 < m then refuse s .badParam
  else
    let old := s.oldestWm.toNat
    let inNv := s.nvSeqs.filter (fun x => from_ ≤ x.1 && (s.jrn.count = 0 || x.1 < old))
    let slots := inNv.foldl (fun l x => insertSeq m x l) []
    let nv := slots.filterMap (fun x => s.nvEntry x.2)
    let is := (List.range s.jrn.count).filter (fun i => match s.slotSeq i with | some q => decide (from_ ≤ q) | none => true)
    let (s, k, wm) := s.readEntries (m - nv.length) is
    okData s (o8 (nv.length + wm.length) ++ o8 (min k 255) ++ o8 nv.length ++ (nv ++ wm).flatten)

/-- JRN_STATUS (R88). -/
def jrnStatus (s : State) (_ : Fin 8) (_ : Cmd) : State × Done :=
  okData s (wordOctets s.newest ++ wordOctets s.oldestWm ++ wordOctets s.newest ++ wordOctets s.oldestNv ++ wordOctets s.newestNv
    ++ o16 s.jrn.count ++ o16 s.jrn.nvCount ++ wordOctets s.jrn.startSeq ++ o8 s.jrn.startKind)

/-- R91: the position in the working ring of the newest entry of a context and host sequence. -/
def State.findHost (s : State) (ctx seq : Nat) : Option Nat :=
  (List.range s.jrn.count).reverse.find? (fun i =>
    let a := ringAddr (s.jrn.slotOf i)
    match s.mem.peek (a + 2), s.mem.peek (a + 3) with
    | some w, some f => decide (fld w 32 3 = ctx) && decide (fld w 16 16 = seq) && !bit f 18
    | _, _ => false)

/-- JRN_LOOKUP (R91). Left open: DESIGN CHOICE, assumption log 17. -/
def jrnLookup (s : State) (_ : Fin 8) (c : Cmd) : State × Done :=
  let mode := p8 c.p 0
  let seq := (pW c.p 1).toNat
  let ctx := p8 c.p 6
  let answer (i : Nat) : State × Done :=
    match s.readEntry i with
    | (s, some o) => okData s (o8 0 ++ o)
    | (s, none) => refuse s .poisoned
  if 1 < mode || 7 < ctx then refuse s .badParam
  else if mode = 1 then
    match s.findHost ctx (p16 c.p 7) with
    | some i => answer i
    | none => refuse s .blank
  else match (List.range s.jrn.count).find? (fun i => s.slotSeq i = some seq) with
    | some i => answer i
    | none =>
      match s.nvFind seq with
      | some o => okData s (o8 1 ++ o)
      | none => refuse s .blank

/-- JRN_MARK (R85). -/
def jrnMark (s : State) (n : Fin 8) (c : Cmd) : State × Done :=
  let m := pW c.p 0
  if s.newest < m then refuse s .badParam
  else
    let s := s.modCtx n (fun x => { x with mark := m, markWarned := false })
    okDone (s.checkMark n)

/-- R92: reads a register of the journal block, by its offset in the page. -/
def jrnReg (s : State) (o : Nat) : Option Word :=
  match o with
  | 0 => some s.newest
  | 1 => some s.oldestWm
  | 2 => some s.oldestNv
  | 3 => some s.newestNv
  | 4 => some s.jrn.startSeq
  | 5 => some (put 0 12 s.jrn.count ||| put 12 14 s.jrn.nvCount ||| put 26 3 s.jrn.startKind ||| flag 29 s.jrn.exhausted)
  | _ => if 8 ≤ o && o < 16 then some (s.ctx (Fin.ofNat 8 o)).mark else none

end Sys2Proof.Machine
end

