-- ==== Sys2Proof/Machine/Timers.lean ====
section
/-!
DEFINITION. The timer tract (spec/12_timers.md, R493): increments, links in their fixed order, matches, and the bodies of the TMR_
commands.
-/
namespace Sys2Proof.Machine

open Sys2Proof

/-- The 32 timers, in order. -/
def allTimers : List (Fin 32) := List.finRange 32

/-- Timer `n`. -/
def State.tim (s : State) (n : Fin 32) : Timer := s.tmr.timers[n]

/-- `s` with timer `n` replaced. -/
def State.setTim (s : State) (n : Fin 32) (t : Timer) : State :=
  { s with tmr := { s.tmr with timers := s.tmr.timers.set n t } }

/-! ## The fields of TMRn_CFG (R391) -/

/-- R379: MODE. -/
def Timer.mode (t : Timer) : Nat := fld t.cfg 0 2
/-- R378: SRC. -/
def Timer.src (t : Timer) : Nat := fld t.cfg 2 2
/-- R378: the prescaler minus 1. -/
def Timer.prescale (t : Timer) : Nat := fld t.cfg 4 16
/-- R378: SRC_SEL. -/
def Timer.srcSel (t : Timer) : Nat := fld t.cfg 20 5
/-- R378: SRC_EVT. -/
def Timer.srcEvt (t : Timer) : Nat := fld t.cfg 25 2
/-- R380: LINK. -/
def Timer.link (t : Timer) : Nat := fld t.cfg 27 2
/-- R380: LINK_TIMER. -/
def Timer.linkTimer (t : Timer) : Nat := fld t.cfg 29 5
/-- R380: LINK_EVT. -/
def Timer.linkEvt (t : Timer) : Nat := fld t.cfg 34 2

/-- R380: a GATE link holds the timer: its master's run bit is 0. -/
def State.gated (s : State) (n : Fin 32) : Bool :=
  (s.tim n).link = 1 && !(s.tim (Fin.ofNat 32 (s.tim n).linkTimer)).run

/-! ## Events and merging (R385) -/

/-- R385: the event data: what the merged events were, how many, and the latest count and compare. -/
def tmrData (n bits merged : Nat) (count cmp : Word) : Octets :=
  o8 n ++ o8 bits ++ o8 merged ++ [0] ++ wordOctets count ++ wordOctets cmp

/-- R385: a context's queue holds at most one EV_TMR_MATCH for each timer; a further one updates it. Left open: DESIGN CHOICE, assumption log 19. -/
def Ctx.queueTimer (c : Ctx) (stamp : Word) (n bits : Nat) (count cmp : Word) : Ctx :=
  let same (e : Event) : Bool := e.code = 9 && decide (p8 e.data 0 = n)
  if c.events.any same then
    { c with events := c.events.map (fun e =>
        if same e then { e with data := tmrData n (p8 e.data 1 ||| bits) (satSucc (p8 e.data 2) 255) count cmp } else e) }
  else c.queueEvent 9 stamp (tmrData n bits 1 count cmp)

/-- R385: EV_TMR_MATCH goes to every open context that enables it. Left open: DESIGN CHOICE, assumption log 19. -/
def State.timerEvent (s : State) (n bits : Nat) (count cmp : Word) : State :=
  { s with hst := { s.hst with ctx := s.hst.ctx.map (fun c =>
      if c.takes 9 then c.queueTimer s.aon.calendar n bits count cmp else c) } }

/-! ## Increments and links (R379 to R384) -/

/-- One match or overflow of a timer. -/
structure Hit where
  n   : Fin 32
  ovf : Bool
  deriving DecidableEq, Repr

/-- R380: whether an event selection (1 match, 2 overflow, 3 either) takes a hit. -/
def Hit.selected (h : Hit) (evt : Nat) : Bool := if h.ovf then evt = 2 || evt = 3 else evt = 1 || evt = 3

/-- R384: the effects of a match or overflow other than its links. Left open: DESIGN CHOICE, assumption log 19. -/
def State.hitEffects (s : State) (h : Hit) (late : Bool) : State :=
  let t := s.tim h.n
  let s := { s with tmr := { s.tmr with
      matched := if h.ovf then s.tmr.matched else raiseFlag s.tmr.matched h.n.val
      isOver := if h.ovf then raiseFlag s.tmr.isOver h.n.val else s.tmr.isOver
      late := if late then raiseFlag s.tmr.late h.n.val else s.tmr.late } }
  let s := s.timerLines h.n.val
  let s := if bit s.pwr.wakeTmr h.n.val then s.wake 4 h.n.val else s
  if bit t.cfg 36 then
    s.timerEvent h.n.val ((if h.ovf then 2 else 1) + (if late then 4 else 0)) t.count t.cmp
  else s

/-- R379: one increment; it answers whether it matched and whether it overflowed. Left open: DESIGN CHOICE, assumption log 19. -/
def Timer.increment (t : Timer) : Timer × Bool × Bool :=
  let c := t.count + 1
  let m : Bool := decide (c = t.cmp)
  ({ t with
      count := if m && t.mode = 1 then 0 else c
      run := t.run && !(m && t.mode = 2)
      late := t.late && !m
      phase := 0 }, m, decide (c = 0))

/-- R378, R381 step 2: a source event reaches a timer; a stopped or held timer takes none. Left open: DESIGN CHOICE, assumption log 19. -/
def State.feed (s : State) (held : Fin 32 → Bool) (n : Fin 32) : State × List Hit :=
  let t := s.tim n
  if !t.run || held n then (s, [])
  else if t.phase < t.prescale then (s.setTim n { t with phase := t.phase + 1 }, [])
  else
    let (t', m, o) := t.increment
    let hits : List Hit := (if m then [{ n := n, ovf := false }] else []) ++ (if o then [{ n := n, ovf := true }] else [])
    (hits.foldl (fun s h => s.hitEffects h false) (s.setTim n t'), hits)

/-- A source event reaches several timers, in order. -/
def State.feedAll (s : State) (held : Fin 32 → Bool) : List (Fin 32) → State × List Hit
  | [] => (s, [])
  | n :: ns =>
    let (s, h) := s.feed held n
    let (s, h') := s.feedAll held ns
    (s, h ++ h')

/-- R381 step 4: the timers whose CLOCK link takes a hit. -/
def State.clocked (s : State) (h : Hit) : List (Fin 32) :=
  allTimers.filter (fun j => (s.tim j).src = 2 && (s.tim j).srcSel = h.n.val && h.selected (s.tim j).srcEvt)

/-- R381 step 4: the CLOCK links of some hits, down the chain; a chain of links is at most 31 long. -/
def State.clockLinks (s : State) (held : Fin 32 → Bool) : Nat → List Hit → State × List Hit
  | 0, hs => (s, hs)
  | _ + 1, [] => (s, [])
  | fuel + 1, hs =>
    let (s, new) := s.feedAll held (hs.map s.clocked).flatten
    let (s, all) := s.clockLinks held fuel new
    (s, hs ++ all)

/-- R380: whether a timer's link of a kind takes one of the hits. -/
def Timer.linked (t : Timer) (kind : Nat) (hs : List Hit) : Bool :=
  t.link = kind && hs.any (fun h => h.n.val = t.linkTimer && h.selected t.linkEvt)

/-- R387: START of one timer: the run bit, the prescaler's phase, and a one-shot's count. -/
def Timer.start (t : Timer) : Timer := { t with run := true, phase := 0, count := if t.mode = 2 then 0 else t.count }

/-- R381 steps 5 and 6: RESET links, and then START links. -/
def State.resetStart (s : State) (hs : List Hit) : State :=
  let f : Timer → Timer := fun t => if t.linked 2 hs then { t with count := 0 } else t
  let g : Timer → Timer := fun t => if t.linked 3 hs then t.start else t
  { s with tmr := { s.tmr with timers := (s.tmr.timers.map f).map g } }

/-- R381: one source event is processed whole for the timers it feeds; every GATE is taken before it. -/
def State.sourceEvent (s : State) (fed : List (Fin 32)) : State :=
  let gates := allTimers.filter s.gated
  let held (n : Fin 32) : Bool := gates.contains n
  let (s, hs) := s.feedAll held fed
  let (s, hs) := s.clockLinks held 32 hs
  s.resetStart hs

/-- R381: an always-on tick, for the timers. -/
def State.timerTick (s : State) : State := s.sourceEvent (allTimers.filter (fun n => (s.tim n).src = 0))

/-- R378, R381: an edge on a GPIO pin, for the timers it feeds. -/
def State.gpioEdge (s : State) (pin : Nat) (rising : Bool) : State :=
  s.sourceEvent (allTimers.filter (fun n =>
    (s.tim n).src = 1 && (s.tim n).srcSel = pin && ((s.tim n).srcEvt = 3 || (s.tim n).srcEvt = (if rising then 1 else 2))))

/-- R381, R384: the match or overflow of timer `n` that its next source event brings, processed as that event; nothing where none is due.
Left open: DESIGN CHOICE, assumption log 5. -/
def State.timerDue (s : State) (n : Fin 32) (ovf : Bool) : State :=
  let t := s.tim n
  let c := t.count + 1
  if t.run && !s.gated n && t.phase = t.prescale && (if ovf then c = 0 else c = t.cmp) then s.sourceEvent [n] else s

/-! ## Commands (R386 to R388) -/

/-- R380: the masters a configuration points to. -/
def Timer.masters (t : Timer) : List Nat :=
  (if t.src = 2 then [t.srcSel] else []) ++ (if t.link ≠ 0 then [t.linkTimer] else [])

/-- R380: whether links lead from `n` back to itself; a path without a repeat has at most 32 steps. -/
def State.loops (s : State) (n : Nat) : Nat → List Nat → Bool
  | 0, _ => false
  | fuel + 1, at_ =>
    if at_.contains n then true
    else s.loops n fuel ((at_.map (fun k => (s.tim (Fin.ofNat 32 k)).masters)).flatten.eraseDups)

/-- R14, R378 to R380: a configuration holds a reserved encoding, a self link, a loop, or a periodic compare of 0. -/
def State.badTimer (s : State) (n : Fin 32) (cfg cmp : Word) : Bool :=
  let t := { Timer.reset with cfg := cfg }
  fld cfg 37 3 ≠ 0 || t.mode = 3 || t.src = 3
    || (t.src = 0 && (t.srcSel ≠ 0 || t.srcEvt ≠ 0))
    || (t.src = 1 && (15 < t.srcSel || t.srcEvt = 0))
    || (t.src = 2 && t.srcEvt = 0)
    || (2 ≤ t.link && t.linkEvt = 0)
    || (t.mode = 1 && cmp = 0)
    || s.loops n.val 33 t.masters

/-- R386: configures a timer: its configuration and compare, and a count of 0. -/
def State.configTimer (s : State) (n : Fin 32) (cfg cmp : Word) : State × Done :=
  if s.badTimer n cfg cmp then refuse s .badParam
  else if (s.tim n).run then refuse s .wrongState
  else okDone (s.setTim n { (s.tim n) with cfg := cfg, cmp := cmp, count := 0 })

/-- TMR_CONFIG (R386). Left open: DESIGN CHOICE, assumption log 18. -/
def tmrConfig (s : State) (_ : Fin 8) (c : Cmd) : State × Done :=
  let k := p8 c.p 0
  let f := p8 c.p 6
  if h : k < 32 then
    if 1 < f then refuse s .badParam
    else s.configTimer ⟨k, h⟩ (pW c.p 1) (if f = 1 then pW c.p 7 else BitVec.allOnes 40)
  else refuse s .badParam

/-- R383: a match fired under IMMEDIATE_IF_PASSED. -/
def State.lateMatch (s : State) (n : Fin 32) (c : Word) : State :=
  let t := s.tim n
  let gates := allTimers.filter s.gated
  let s := s.setTim n { t with cmp := c, late := true, count := if t.mode = 1 then 0 else t.count, run := t.run && t.mode ≠ 2 }
  let h : Hit := { n := n, ovf := false }
  let s := s.hitEffects h true
  let (s, hs) := s.clockLinks (fun j => gates.contains j) 32 [h]
  s.resetStart hs

/-- TMR_SET_COMPARE (R383). -/
def tmrSetCompare (s : State) (_ : Fin 8) (c : Cmd) : State × Done :=
  let k := p8 c.p 0
  let f := p8 c.p 1
  let v := pW c.p 2
  if h : k < 32 then
    let n : Fin 32 := ⟨k, h⟩
    let t := s.tim n
    if 1 < f || (t.mode = 1 && v = 0) then refuse s .badParam
    else
      let d := v - t.count
      let r := wordOctets t.count ++ wordOctets d
      if d.toNat ≤ 2 ^ 39 then okData (s.setTim n { t with cmp := v }) r
      else if f = 1 then okData (s.lateMatch n v) r
      else (s, .reply .cmpBehind r)
  else refuse s .badParam

/-- TMRn_STATUS (R391). -/
def State.timerStatus (s : State) (n : Fin 32) : Word :=
  flag 0 (s.tim n).run ||| flag 1 (s.gated n) ||| flag 2 (s.tim n).late

/-- TMR_READ (R388). -/
def tmrRead (s : State) (_ : Fin 8) (c : Cmd) : State × Done :=
  if h : p8 c.p 0 < 32 then
    let t := s.tim ⟨p8 c.p 0, h⟩
    okData s (wordOctets t.count ++ wordOctets t.cmp ++ wordOctets (s.timerStatus ⟨p8 c.p 0, h⟩) ++ wordOctets t.cfg)
  else refuse s .badParam

/-- TMR_READ_PAIR (R388). -/
def tmrReadPair (s : State) (_ : Fin 8) (c : Cmd) : State × Done :=
  if h : p8 c.p 0 < 32 ∧ p8 c.p 1 < 32 then
    okData s (wordOctets (s.tim ⟨p8 c.p 0, h.1⟩).count ++ wordOctets (s.tim ⟨p8 c.p 1, h.2⟩).count ++ wordOctets s.aon.tick)
  else refuse s .badParam

/-- TMR_CONTROL (R387): one action on every timer of the mask. -/
def tmrControl (s : State) (_ : Fin 8) (c : Cmd) : State × Done :=
  let mask := BitVec.ofNat 32 (p32 c.p 0)
  let act : Option (Timer → Timer) := match p8 c.p 4 with
    | 0 => some Timer.start
    | 1 => some (fun t => { t with run := false })
    | 2 => some (fun t => { t with count := 0 })
    | _ => none
  match act with
  | none => refuse s .badParam
  | some f => okDone { s with tmr := { s.tmr with timers := s.tmr.timers.mapFinIdx (fun i t _ => if mask.getLsbD i then f t else t) } }

/-- TMR_SNAPSHOT_ALL (R388). -/
def tmrSnapshotAll (s : State) (_ : Fin 8) (_ : Cmd) : State × Done :=
  okData s ((s.tmr.timers.toList.map (fun t => wordOctets t.count)).flatten ++ wordOctets s.aon.tick)

/-- A word whose bit n is a property of timer n. -/
def timerMask (f : Fin 32 → Bool) : Word :=
  allTimers.foldl (fun w n => w ||| flag n.val (f n)) 0

/-- The TMR_ registers, by offset in page 0x0C00 (R391). -/
def tmrReg (s : State) (r : Nat) : Option Word :=
  let t := s.tim (Fin.ofNat 32 r)
  match r with
  | 0 => some (timerMask (fun n => (s.tim n).run))
  | 1 => some s.tmr.matched
  | 2 => some s.tmr.isOver
  | 3 => some s.tmr.late
  | 4 => some (timerMask s.gated)
  | _ =>
    if 0x20 ≤ r && r < 0x40 then some t.cfg
    else if 0x40 ≤ r && r < 0x60 then some t.count
    else if 0x60 ≤ r && r < 0x80 then some t.cmp
    else if 0x80 ≤ r && r < 0xA0 then some (s.timerStatus (Fin.ofNat 32 r))
    else none

end Sys2Proof.Machine
end

