-- ==== Sys2Proof/Machine/System.lean ====
section
/-!
DEFINITION. The system block: identity, reset and self-test, the firmware transfer, the tamper inputs and the ball registers, with the
bodies of their SYS_ commands (R476 to R480, R268, R501 to R512). Registers by address stand in Registers.lean.
-/
namespace Sys2Proof.Machine

open Sys2Proof

/-- SYS_NOP. -/
def sysNop (s : State) (_ : Fin 8) (_ : Cmd) : State × Done := okDone s

/-- The result data of SYS_IDENTIFY (R476). -/
def State.identity (s : State) : Octets :=
  o16 0x4160 ++ [Config.grade, Config.dieRev] ++ o32 s.sys.fwVersion ++ o8 s.sys.fwSlot ++ leOf 8 Config.serial.toNat
    ++ leOf 6 Config.mac.toNat ++ o8 (b2n s.sys.faultBoot)

/-- SYS_IDENTIFY. -/
def sysIdentify (s : State) (_ : Fin 8) (_ : Cmd) : State × Done := okData s s.identity

/-- R397: the code of a power state. -/
def PState.code : PState → Nat
  | .run => 0 | .idle => 1 | .sleep => 2 | .deep => 3 | .off => 4

/-- R476: the SUMMARY bits. Left open: DESIGN CHOICE, assumption log 16. -/
def State.summary (s : State) : Word :=
  flag 0 s.aon.uncertain ||| flag 1 s.crd.active ||| flag 2 s.hrv.lock ||| flag 3 (s.sys.latch ≠ 0) ||| flag 4 s.quarantined
    ||| flag 5 s.uwb.disabled ||| flag 6 (s.cph.drbg = .error) ||| flag 7 s.pwr.xoFail ||| flag 8 (s.nvm.poolFree ≤ 16)
    ||| flag 9 (s.seq.seqs.toList.any (·.fallback)) ||| flag 10 s.mem.retireAdvised ||| flag 11 s.jrn.exhausted

/-- The result data of SYS_STATUS (R476). -/
def State.statusData (s : State) : Octets :=
  o8 s.pwr.state.code ++ o8 (b2n s.sys.faultBoot) ++ o32 s.summary.toNat ++ wordOctets s.mem.checker ++ wordOctets s.aon.tick
    ++ wordOctets s.aon.calendar

/-- SYS_STATUS. -/
def sysStatus (s : State) (_ : Fin 8) (_ : Cmd) : State × Done := okData s s.statusData

/-- SYS_RESET (R479): the restart follows the delivery of the reply. -/
def sysReset (s : State) (_ : Fin 8) (_ : Cmd) : State × Done :=
  if s.aboveDeny then refuse s .wrongState else okDone { s with sys := { s.sys with restart := some 1 } }

/-! ## Self-test (R478) -/

/-- What a self-test observes: the failing tests, their failing units, and whether a gap came for the loop-back check. -/
def selfObs : Obs → BitVec 5 × List Word × Bool
  | .selfTest f d gap => (f, d, gap)
  | _ => (0, [], true)

/-- R343: a passing entropy test re-instantiates a DRBG that is in ERROR. -/
def State.entropyPassed (s : State) : State :=
  if s.cph.drbg = .error then State.reseeded { s with cph := { s.cph with entropyOk := true } } else s

/-- R478: the tests of a mask run: the status and the result data. -/
def State.selfTest (s : State) (mask : Nat) (obs : Obs) : State × Status × Octets :=
  let (bad, detail, gap) := selfObs obs
  if 16 ≤ mask && !gap then (s, .busy, [])
  else
    let ran := BitVec.ofNat 5 mask
    let failed := ran &&& bad
    let passed := ran &&& ~~~bad
    let s := if passed.getLsbD 2 then { s with cph := { s.cph with katModes := 0 } } else s
    let s := if passed.getLsbD 3 then s.entropyPassed else s
    match (List.range 5).find? (fun i => failed.getLsbD i) with
    | none => (s, .ok, o16 passed.toNat ++ o16 0)
    | some i => (s, .selfTestFail, o8 i ++ o16 failed.toNat ++ wordOctets (detail.getD i 0))

/-- SYS_SELF_TEST (R478): with the loop-back check it waits for a gap between ranging rounds. -/
def sysSelfTest (s : State) (_ : Fin 8) (c : Cmd) : State × Done :=
  let mask := p16 c.p 0
  if 32 ≤ mask then refuse s .badParam
  else if 16 ≤ mask then (s, .await (.work c.obs))
  else
    let (s, st, d) := s.selfTest mask c.obs
    (s, .reply st d)

/-! ## The firmware transfer (R480) -/

/-- SYS_FW_BEGIN. Left open: DESIGN CHOICE, assumption log 16, 22. -/
def sysFwBegin (s : State) (n : Fin 8) (c : Cmd) : State × Done :=
  let other := match s.sys.fw with | some f => decide (f.ctx ≠ n) | none => false
  if other then refuse s .busy
  else if p32 c.p 4 < s.sys.fwVersion then refuse s .badParam
  else
    let f : FwXfer := { ctx := n, size := p32 c.p 0, version := p32 c.p 4, received := 0, image := [], last := s.aon.tick }
    okDone { s with sys := { s.sys with fw := some f } }

/-- SYS_FW_CHUNK. Left open: DESIGN CHOICE, assumption log 22. -/
def sysFwChunk (s : State) (n : Fin 8) (c : Cmd) : State × Done :=
  match s.sys.fw with
  | none => refuse s .wrongState
  | some f =>
    let data := c.p.drop 4
    if f.ctx ≠ n then refuse s .wrongState
    else if p32 c.p 0 ≠ f.received || f.size < f.received + data.length then refuse s .badParam
    else
      let f := { f with received := f.received + data.length, image := f.image ++ data, last := s.aon.tick }
      okData { s with sys := { s.sys with fw := some f } } (o32 f.received)

/-- SYS_FW_COMMIT (R479, R480): whether the signature verifies is an observation. Left open: DESIGN CHOICE, assumption log 22. -/
def sysFwCommit (s : State) (n : Fin 8) (c : Cmd) : State × Done :=
  if s.aboveDeny then refuse s .wrongState
  else match s.sys.fw with
    | none => refuse s .wrongState
    | some f =>
      if f.ctx ≠ n || f.received ≠ f.size then refuse s .wrongState
      else if c.obs ≠ .verdict true then refuse s .authFail
      else okDone { s with sys := { s.sys with fw := none, fwNext := some f.version, restart := some 2 } }

/-- FW_TRANSFER_TIMEOUT (R480): 60 s without a chunk. -/
def State.fwTimeout (s : State) : State :=
  match s.sys.fw with
  | some f => if ticksOf 60 ≤ s.age f.last then { s with sys := { s.sys with fw := none } } else s
  | none => s

/-! ## Tamper inputs (R268) -/

/-- R268: the word of the parameter pages that keeps the settings of a tamper input (layout: the model's). -/
def Tamper.word (t : Tamper) : Word := flag 0 t.enable ||| flag 1 t.high ||| put 2 8 t.debounce

/-- R268: an input's settings from their stored word. -/
def Tamper.ofWord (t : Tamper) (w : Word) : Tamper := { t with enable := bit w 0, high := bit w 1, debounce := fld w 2 8 }

/-- R268: disabled, POL 1, debounce 10 ms. -/
def tamperDefault : Word := put 1 1 1 ||| put 2 8 10

/-- The register number under which the settings of input `k` are stored. -/
def tamperStore (k : Nat) : Nat := 0x0048 + k

/-- R268: the bits of the latch that the CLEAR of an input clears: its own, and that of the position input beside it. -/
def latchBits (k : Nat) : BitVec 4 := BitVec.ofNat 4 (5 * 2 ^ k)

/-- R476: LATCHED and LEVEL of a tamper input. -/
def State.tamperData (s : State) (k : Fin 2) : Octets :=
  o8 (b2n (s.sys.latch &&& latchBits k.val ≠ 0)) ++ o8 (b2n ((s.sys.tamper[k]).input.level.getD false))

/-- R268: CLEAR of a tamper latch. Left open: DESIGN CHOICE, assumption log 16. -/
def State.clearTamper (s : State) (k : Fin 2) : State :=
  if s.sys.latch &&& latchBits k.val = 0 then s
  else
    let s := { s with sys := { s.sys with latch := s.sys.latch &&& ~~~latchBits k.val } }
    (s.critWritten 5 1).tamperEvent k.val 2 ((s.sys.tamper[k]).input.level.getD false)

/-- SYS_TAMPER_CONFIG (R268). -/
def sysTamperConfig (s : State) (_ : Fin 8) (c : Cmd) : State × Done :=
  let op := p8 c.p 1
  let s := s.critReads [5]
  if h : p8 c.p 0 < 2 then
    let k : Fin 2 := ⟨p8 c.p 0, h⟩
    let t := s.sys.tamper[k]
    if op = 0 then
      if 1 < p8 c.p 2 || 1 < p8 c.p 3 || p8 c.p 4 = 0 then refuse s .badParam
      else
        let t : Tamper := { enable := p8 c.p 2 = 1, high := p8 c.p 3 = 1, debounce := p8 c.p 4, input := Debounce.reset }
        let s := { s with sys := { s.sys with tamper := s.sys.tamper.set k t } }
        sealThen (s.storeReg (tamperStore k.val) t.word) (s.tamperData k)
    else if op = 1 then
      if t.enable && t.active then refuse s .wrongState
      else
        let s := s.clearTamper k
        sealThen s (s.tamperData k)
    else refuse s .badParam
  else refuse s .badParam

/-! ## Ball registers (R507, R511, R512) -/

/-- R511: the levels at the 16 pins: what SYS_GPIO_OUT drives, and elsewhere what stands outside. Left open: DESIGN CHOICE, assumption log 16. -/
def Sys.pins (y : Sys) : BitVec 16 :=
  let dir := BitVec.ofNat 16 (fld y.gpioDir 0 16)
  (BitVec.ofNat 16 (fld y.gpioOut 0 16) &&& dir) ||| (y.gpioExt &&& ~~~dir)

/-- R512: edges that a write drives onto pins are counted as any others, while VDDIO is present (R509). -/
def State.pinEdges (s : State) (old : BitVec 16) : State :=
  if s.sys.vddio then
    (List.range 16).foldl (fun s i =>
      let now := s.sys.pins.getLsbD i
      if now = old.getLsbD i then s else s.gpioEdge i now) s
  else s

/-- R511, R507: reads a register of the system block, by its address. -/
def sysReg (s : State) (o : Nat) : Option Word :=
  match o with
  | 0x40 => some s.sys.gpioDir
  | 0x41 => some s.sys.gpioOut
  | 0x42 => some (put 0 16 s.sys.pins.toNat)
  | 0x43 => some s.sys.gpioPull
  | 0x44 => some (flag 0 s.sys.debugLock)
  | _ => none

/-- R511: a write to SYS_GPIO_DIR, SYS_GPIO_OUT or SYS_GPIO_PULL. -/
def State.gpioWrite (s : State) (o : Nat) (v : Word) : State × Done :=
  let old := s.sys.pins
  match o with
  | 0x40 => okDone (State.pinEdges { s with sys := { s.sys with gpioDir := v } } old)
  | 0x41 => okDone (State.pinEdges { s with sys := { s.sys with gpioOut := v } } old)
  | _ =>
    if (List.range 16).any (fun i => fld v (2 * i) 2 = 3) then refuse s .badParam
    else okDone { s with sys := { s.sys with gpioPull := v } }

/-- R507: a write to SYS_DEBUG_LOCK whose reserved bits are good. -/
def State.debugLockWrite (s : State) (c : Cmd) (v : Word) : State × Done :=
  if c.role ≠ .fleet || s.sys.debugLock then refuse s .notPermitted
  else if !bit v 0 then okDone s
  else
    let s := { s with sys := { s.sys with debugLock := true } }
    sealThen ((s.storeReg 0x0044 1).critWritten 43 1) []

/-- GPIO_EDGE (R381, R512): the level outside a pin changes. -/
def State.gpioChange (s : State) (pin : Fin 16) (level : Bool) : State :=
  let m := BitVec.ofNat 16 (2 ^ pin.val)
  let old := s.sys.pins
  let ext := if level then s.sys.gpioExt ||| m else s.sys.gpioExt &&& ~~~m
  State.pinEdges { s with sys := { s.sys with gpioExt := ext } } old

/-- VDDIO_CHANGE (R509): without VDDIO every ball of its domain is high impedance: no packet passes and no edge is counted. -/
def State.vddioChange (s : State) (present : Bool) : State :=
  let s := { s with sys := { s.sys with vddio := present } }
  if present then s else { s with hst := { s.hst with ports := s.hst.ports.map (fun q => { q with selected := false }) } }

end Sys2Proof.Machine
end

