-- ==== Sys2Proof/Machine/Power.lean ====
section
/-!
DEFINITION. Power states: the PWR_ commands, entry to a state, the power-down commit, and the loss of supplies
(spec/13_power_states.md, R454 to R459). The return to work is in Sys2Proof/Machine/Starts.lean.
-/
namespace Sys2Proof.Machine

open Sys2Proof

/-- `s` with the power block changed. -/
def State.modPwr (s : State) (f : Pwr → Pwr) : State := { s with pwr := f s.pwr }

/-- Raises a bit of PWR_FLAGS. -/
def State.pwrFlag (s : State) (i : Nat) : State := s.modPwr (fun p => { p with flags := raiseFlag p.flags i })

/-- The power state of a STATE code. -/
def PState.ofCode (c : Nat) : PState :=
  match c with | 0 => .run | 1 => .idle | 2 => .sleep | 3 => .deep | _ => .off

/-! ## Entering a state (R397 to R400) -/

/-- R65, R398: a claim forbids a state. -/
def State.claimForbids (s : State) (t : PState) : Bool := s.floor ≠ 0 && decide (3 - s.floor < t.code)

/-- R396, R400: IDLE is reached at once; a wake latched while the claims were waited for ends it at once. Left open: DESIGN CHOICE, assumption log 34. -/
def State.enterIdle (s : State) (force : Bool) (latched : Option (Nat × Nat)) : State :=
  let s := s.modPwr (fun p => { p with
    state := .idle
    visit := s.aon.tick
    forced := force
    onBkup := false
    entry := none
    boost := p.boost || s.fullRound || s.uwb.round.isSome })
  match latched with
  | some (src, timer) =>
    let s := (s.leaveIdle src timer).modPwr (fun p => { p with wake := { p.wake with flags := p.wake.flags ||| 1 } })
    s.pwrFlag 0
  | none => s

/-- R399 step 3: entry begins: dispatch stops, no new round starts, and a battery exchange is abandoned. Left open: DESIGN CHOICE, assumption log 34. -/
def State.beginEntry (s : State) (e : PwrEntry) : State :=
  let s := s.modPwr (fun p => { p with entry := some { e with phase := .drain } })
  let s := s.rewait (fun c => match c.wait? with
    | some .claims => some .entry
    | some (.period t) => some (.seal t .ok [])
    | _ => none)
  let s := s.batteryAbort .wrongState
  let s := s.modHrv (fun h => { h with lateDue := false })
  let s := s.modLf (fun l => { l with want := none, due := none })
  if s.uwb.round.isNone then s.closeAll 1 else s

/-- R397: a PWR_ENTER that is refused with BUSY or WRONG_STATE sets ENTRY_REFUSED. -/
def State.entryRefused (s : State) (st : Status) : State × Done := refuse (s.pwrFlag 7) st

/-- PWR_ENTER (R397, R398). Left open: DESIGN CHOICE, assumption log 34. -/
def pwrEnter (s : State) (_ : Fin 8) (c : Cmd) : State × Done :=
  let force := pBit c.p 1 0
  let w := p16 c.p 3
  let t := PState.ofCode (p8 c.p 0)
  if 4 < p8 c.p 0 || 1 < p8 c.p 1 || 60000 < w then refuse s .badParam
  else if (c.role = .drive && t ≠ .idle) || (force && !(c.role = .fleet || c.role = .service)) then refuse s .notPermitted
  else if 2 ≤ t.code && (s.aboveDeny || !s.pwr.xo32) then s.entryRefused .wrongState
  else if (t = .sleep || t = .deep) && !s.pwr.canWake then s.entryRefused .wrongState
  else if t = .off && !bit s.pwr.wakeCfg 0 then s.entryRefused .wrongState
  else if s.pwr.entry.isSome then s.entryRefused .busy
  else if t = s.pwr.state then okDone s
  else if t = .run then okDone (s.leaveIdle 11 0)
  else
    let forbids := !force && s.claimForbids t
    let e : PwrEntry :=
      { target := t, force := force, retain := BitVec.ofNat 8 (p8 c.p 2), waitMs := w, began := s.aon.tick, done := s.aon.tick,
        phase := .claims, latched := none, byHost := true }
    if forbids && w = 0 then s.entryRefused .busy
    else if forbids then (s.modPwr (fun p => { p with entry := some e }), .await .claims)
    else if t = .idle then okDone (s.enterIdle force none)
    else (s.beginEntry e, .await .entry)

/-- ENTRY_BEGIN (R398, R399): no claim forbids the state any more. -/
def State.entryBegin (s : State) : State :=
  match s.pwr.entry with
  | some e =>
    if e.phase ≠ .claims || (!e.force && s.claimForbids e.target) then s
    else if e.target = .idle then (s.enterIdle e.force e.latched).finishWait .claims .ok []
    else s.beginEntry e
  | none => s

/-- CLAIM_WAIT_TIMEOUT (R397, R400, R404): WAIT_MS has passed and a claim still forbids the state: the entry is refused, and what it latched
is dropped. Left open: DESIGN CHOICE, assumption log 5. -/
def State.claimTimeout (s : State) : State :=
  match s.pwr.entry with
  | some e =>
    if e.phase = .claims && !e.force && s.claimForbids e.target && ticksMs e.waitMs ≤ s.age e.began then
      let s := (s.modPwr (fun p => { p with entry := none })).pwrFlag 7
      let s := s.finishWait .claims .busy []
      if e.byHost then s else s.visitOver
    else s
  | none => s

/-! ## Tally increments (R458) -/

/-- TALLY_INCREMENT_DONE (R458): the increment under way ends, and what waited for its value follows; `jump` is how many further bits read
as programmed (R459). -/
def State.tallyDone (s : State) (jump : Nat) : State :=
  match s.nvm.tallyOps with
  | [] => s
  | o :: r =>
    let t := s.nvm.tallies[o.counter].step jump
    let v := t.value
    let ts := s.nvm.tallies.set o.counter t
    let ts := match r with | x :: _ => ts.set x.counter ts[x.counter].opened | [] => ts
    let s := { s with nvm := { s.nvm with tallies := ts, tallyOps := r } }
    match o.use with
    | .block =>
      let b := if v < 2 ^ 24 then some ((v - 1) * 65536 + 1) else none
      { s with jrn := { s.jrn with reserving := false, nextBlock := b } }
    | .epoch => s.epochAdvanced.finishWait (.tally o.number) .ok (leOf 3 v)
    | .ctxEpoch => s.renewSlot0
    | .rx k => s.rxBlock k v
    | .user => s.finishWait (.tally o.number) .ok (wordOctets (BitVec.ofNat 40 v))

/-- R454: every increment that is under way or waits finishes. Left open: DESIGN CHOICE, assumption log 35. -/
def State.talliesDone (s : State) : Nat → State
  | 0 => s
  | fuel + 1 => if s.nvm.tallyOps.isEmpty then s else (s.tallyDone 0).talliesDone fuel

/-! ## The power-down commit (R83, R453 to R455, R545) -/

/-- R83: every security entry still PENDING goes to the non-volatile ring, with PENDING set and STATUS 0xFFFF.
Left open: DESIGN CHOICE, assumption log 17. -/
def State.pendingSecurity (s : State) : State :=
  allCtx.foldl (fun s n =>
    ((s.ctx n).cmds.filter (fun c => c.entry.pending && c.entry.security && decide (c.entry.seq ≠ 0))).foldl
      (fun s c => s.secure n c c.entry) s) s

/-- R453: commits until the write buffer is empty. -/
def State.commitAll (s : State) : Nat → State
  | 0 => s
  | fuel + 1 =>
    if s.nvm.bufPages.isEmpty && s.nvm.backlog.isEmpty then s
    else (State.commitDone { s with nvm := s.nvm.startCommit } []).commitAll fuel

/-- R454: what a shadow generation saves. -/
def State.shadowNow (s : State) : Shadow :=
  { lockFails := s.crd.fails, lockLevel := s.crd.level, lockActive := s.crd.active, lockEnd := s.crd.lockEnd, lockNonce := s.crd.nonce,
    nonceLive := s.crd.nonceLive, tamper := s.sys.latch, calendar := s.aon.calendar, lastAttest := s.aon.lastAttest,
    idleSince := s.lf.idleSince, counters := s.crd.ctrLog }

/-- R455: a new complete generation of the shadow ring, which holds four. -/
def Nvm.shadowSaved (n : Nvm) (v : Shadow) : Nvm :=
  let g := ((n.shadows.head?.map (·.gen)).getD 0) + 1
  { n with shadows := ({ gen := g, complete := true, val := v } :: n.shadows).take 4 }

/-- R413: the residency counters are saved. Left open: DESIGN CHOICE, assumption log 9. -/
def State.storeResidency (s : State) : State :=
  let w := s.pwr.wrap
  s.storeWords (paramAddr 0x0108) (s.pwr.res.toList ++ [put 0 8 w[0] ||| put 8 8 w[1] ||| put 16 8 w[2] ||| put 24 8 w[3]])

/-- R454: the power-down commit: increments finish, the write buffer and a shadow generation are sealed. Left open: DESIGN CHOICE, assumption log 35. -/
def State.powerDownCommit (s : State) : State :=
  let s := s.pendingSecurity
  let s := (s.talliesDone (s.nvm.tallyOps.length)).storeResidency
  let s := s.commitAll (2 * s.nvm.backlog.length + 4)
  { s with nvm := s.nvm.shadowSaved s.shadowNow }

/-- The pages a waiting write will put into the buffer. -/
def BufWrite.pages (b : BufWrite) : List Nat := b.cells.map (fun kv => kv.1 / 128)

/-- R453: the pages a power-down commit seals, in order. -/
def Nvm.commitPages (n : Nvm) : List Nat :=
  let waiting : List Nat := (n.backlog.map BufWrite.pages).flatten
  sealOrder ((n.bufPages ++ waiting).eraseDups)

/-- R411: the power-down commit on hold-up energy, which VHOLD_LOW can cut short. Left open: DESIGN CHOICE, assumption log 35. -/
def State.brownoutCommit (s : State) : State :=
  let s := ((s.pendingSecurity).talliesDone s.nvm.tallyOps.length).storeResidency
  let before := s.nvm
  let keys := s.cph.pend.map (fun k => (k.slot, s.slot k.slot))
  let s := s.powerDownCommit
  let d : PowerDown :=
    { before := before.sealed, pages := before.commitPages, image := s.nvm.sealed, shadows := before.shadows, keys := keys }
  { s with nvm := { s.nvm with powerDown := some d } }

/-- VHOLD_LOW (R411, R453, R455): hold-up energy ends while the commit runs: the first `k` pages are at their new version, the others and
their key slots as before, and the shadow generation is incomplete. Left open: DESIGN CHOICE, assumption log 35. -/
def State.vholdLow (s : State) (k : Nat) : State :=
  match s.nvm.powerDown with
  | none => s
  | some d =>
    if s.pwr.vsysOk || s.pwr.start.isSome || !((s.nvm.shadows.head?.map (·.complete)).getD false) then s
    else
      let done := d.pages.take k
      let kept := d.keys.filter (fun x => !done.contains (1024 + x.1 / 8))
      let s := kept.foldl (fun s x => s.putSlot x.1 x.2) s
      let torn := ({ gen := (s.nvm.shadows.head?.map (·.gen)).getD 0, complete := false, val := s.shadowNow } : ShadowGen) :: d.shadows
      { s with nvm := { s.nvm with
          sealed := done.foldl (fun t p => t.takePage d.image p) d.before
          shadows := torn.take 4
          powerDown := some { d with pages := (d.pages.drop k).take 1 } } }

/-! ## Powering down (R161, R177, R399, R408 to R410) -/

/-- R161: the UHF tract stops; it is to start again at the next wake if it was ON, STARTING or RESTART_PENDING. -/
def State.uhfPowerOff (s : State) : State :=
  let u := s.uhf.unit
  let again := u = .on || u = .starting || u = .restartPending
  let s := s.modUhf (fun x => { x with unit := .off, again := x.again || again, calDue := false })
  if again then s else s.reportDeferred .uhf false .ok

/-- R365: pulses under way end with their pins at the level they would end at. -/
def TrigPin.cut (p : TrigPin) : TrigPin := { level := p.pulse.getD p.level, pulse := none }

/-- R408: the coexistence outputs at their inactive level. -/
def Coex.off (c : Coex) : Coex := { c with req := false, pri := false, given := false }

/-- Ports with nothing to send. -/
def PortState.emptied (q : PortState) : PortState := { q with cur := none, out := [] }

/-- R399 step 8: the tracts that run on the main domains stop. -/
def State.domainsOff (s : State) : State :=
  let s := s.uhfPowerOff
  let s := s.modUwb (fun u => { u with radio := 0, calValid := false, calDue := false })
  let s := s.modCoex Coex.off
  let s := s.modNtc (fun n => { n with
    link := false
    queue := []
    onWire := none
    restart := false
    pins := n.pins.map TrigPin.cut })
  let s := s.modPwr (fun p => { p with boost := false, ramping := false, xoOk := false, xoFail := false })
  { s with hst := { s.hst with ports := s.hst.ports.map PortState.emptied } }

/-- R435: the signature of a bank: the CRC-32C of its decoded words. -/
def Mem.signature (m : Mem) (b : Nat) : BitVec 32 :=
  let word (i : Nat) : Word := (m.peek (b * 16384 + i)).getD ((m.stored (b * 16384 + i)).setWidth 40)
  crc32c ((List.range 16384).flatMap (fun i => wordOctets (word i)))

/-- R435: the signatures of the banks in the mask are taken. -/
def State.sign (s : State) (mask : BitVec 8) : State :=
  (List.range 8).foldl (fun s b =>
    if mask.getLsbD b then
      State.critWritten { s with mem := { s.mem with signs := s.mem.signs.setIfInBounds b (s.mem.signature b) } } (34 + b) 1
    else s) s

/-- R410: bank 0 joins any mask while an open context has undelivered events. -/
def State.retainMask (s : State) (mask : BitVec 8) : BitVec 8 :=
  if s.hst.ctx.toList.any (fun c => c.isOpen && !c.events.isEmpty) then mask ||| 1 else mask

/-- R399 steps 7 and 8: the state is reached. -/
def State.reachState (s : State) (t : PState) (mask : BitVec 8) (forced onBkup : Bool) (entryT : Nat) : State :=
  let s := s.domainsOff
  let mask := s.retainMask mask
  let s := if t = .deep then s.sign mask else s
  s.modPwr (fun p => { p with
    state := t
    entry := none
    visit := s.aon.tick
    forced := forced
    onBkup := onBkup
    entryT := entryT
    retain := if t = .deep then mask else 0 })

/-- ENTRY_DRAIN_COMPLETE (R399 steps 4 to 6): rounds, drives and commands are over; for DEEP and OFF the commit runs; PWR_ENTER replies. -/
def State.drainComplete (s : State) : State :=
  match s.pwr.entry with
  | some e =>
    let quiet := s.lf.round.isNone && s.uwb.round.isNone && s.hrv.period.isNone
      && s.hrv.drivers.toList.all (fun d => !d.running && !d.waiting)
    if e.phase = .drain && quiet && s.flights = b2n e.byHost then
      let s := s.closeAll 1
      let s := if e.target = .deep || e.target = .off then s.powerDownCommit else s
      let s := s.modPwr (fun p => { p with entry := some { e with phase := .collect, done := s.aon.tick } })
      s.finishWait .entry .ok []
    else s
  | none => s

/-- REPLY_COLLECTION_TIMEOUT (R59): 10 ms after the last command completed, replies not collected are discarded.
Left open: DESIGN CHOICE, assumption log 5. -/
def State.collectTimeout (s : State) : State :=
  match s.pwr.entry with
  | some e =>
    if e.phase = .collect && ticksMs 10 ≤ s.age e.done then
      let s := allCtx.foldl (fun s n => (s.ctx n).cmds.foldl (fun s c => s.discardReply n c) s) s
      { s with
        hst := { s.hst with ports := s.hst.ports.map PortState.emptied }
        ntc := { s.ntc with queue := [] } }
    else s
  | none => s

/-- R400, R405: a wake latched during the entry begins the return at once; the visit counts at least one tick. -/
def State.latchedWake (s : State) (t : PState) (l : Option (Nat × Nat)) : State :=
  match l with
  | none => s
  | some (src, timer) =>
    let i := t.code
    let s := if i < 4 then s.modPwr (fun p => { p with res := p.res.setIfInBounds i ((p.res[i]?).getD 0 + 1) }) else s
    s.beginStart (match t with | .sleep => .sleep | .deep => .deep | _ => .cold) src timer true

/-- POWER_STATE_REACHED (R399, R400): replies have been collected; the state is reached, and a latched wake starts the exit. -/
def State.stateReached (s : State) : State :=
  match s.pwr.entry with
  | some e =>
    if e.phase = .collect && s.hst.ctx.toList.all (fun c => c.cmds.isEmpty) then
      (s.reachState e.target e.retain e.force false (s.age e.began)).latchedWake e.target e.latched
    else s
  | none => s

/-! ## Losing supplies (R411, R412) -/

/-- R412: the always-on domain has lost power; what follows is a cold start. -/
def State.powerLost (s : State) : State := s.modPwr (fun p => { p with state := .off, start := none, entry := none })

/-- R411 steps 1 and 2: rounds end at once, the exchange and the drives stop, and commands are stopped without replies. -/
def State.stopAll (s : State) : State :=
  let s := if s.lf.round.isSome then s.ploughClose false else s
  let s := if s.uwb.round.isSome then s.rangeHeadland false else s
  let s := if s.hrv.period.isSome then s.harvestHeadland false else s
  let s := { s with pwr := { s.pwr with entry := none } }
  let s := (s.batteryAbort .wrongState).modCrd (fun c => { c with batAuth := none })
  let s := s.closeAll 1
  let halt : Driver → Driver := fun d => if d.running then { d with running := false, waiting := false, now := 0, ended := some s.aon.tick, lastDir := d.dir } else { d with waiting := false }
  let s := s.modHrv (fun h => { h with drivers := h.drivers.map halt, lateDue := false })
  let s := allCtx.foldl (fun s n =>
    (s.ctx n).cmds.foldl (fun s c => match c.phase with
      | .waiting => s.discardWaiting n c
      | .running _ => s
      | _ => s.discardReply n c) s) s
  let s := s.pendingSecurity
  let held := s.jrn.held.filter (fun h => match h with | .internal _ _ _ _ => true | _ => false)
  { s with
    hst := { s.hst with ctx := s.hst.ctx.map (fun c => { c with cmds := [] }) }
    jrn := { s.jrn with held := held } }

/-- VSYS_FALL (R411, R412): VSYS falls below 2.85 V. A start that has not reached its work ends in the state it left; a cold start and a
restart end in OFF. Left open: DESIGN CHOICE, assumption log 35. -/
def State.vsysFall (s : State) : State :=
  if !s.pwr.vsysOk then s
  else
    let entry := s.pwr.entry
    let s := s.modPwr (fun p => { p with vsysOk := false })
    let fresh := match s.pwr.start with
      | some x => x.kind = .cold || x.kind = .reset || x.kind = .firmware
      | none => false
    if s.pwr.state = .off || fresh || s.sys.faultBoot || !s.pwr.vbkupOk && s.pwr.state = .deep then s.powerLost
    else if s.pwr.state = .deep then s.modPwr (fun p => { p with start := none, onBkup := true, xoOk := false })
    else
      let mask := BitVec.ofNat 8 (fld s.pwr.wakeCfg 15 8)
      let mask := match entry with
        | some e => if e.target = .deep then mask ||| e.retain else mask
        | none => mask
      let s := (s.modPwr (fun p => { p with start := none })).stopAll
      let s := (s.brownoutCommit.pwrFlag 6).reachState .deep mask false true 0
      if s.pwr.vbkupOk then s else s.powerLost

/-- R412: neither supply is present, so that nothing of the always-on domain remains. -/
def Pwr.dead (p : Pwr) : Bool := p.state = .off && !p.vsysOk && !p.vbkupOk

/-- R405, R414: a cold start begins as supply appears. -/
def State.powerOn (s : State) : State :=
  let s := (s.modPwr (fun p => { p with vsysOk := true })).beginStart .cold 0 0 false
  s.modPwr (fun p => { p with start := p.start.map (fun x => { x with left := .run }) })

/-- VSYS_RETURN (R401, R411, R412): VSYS rises above 3.0 V. Left open: DESIGN CHOICE, assumption log 34, 35. -/
def State.vsysReturn (s : State) : State :=
  if s.pwr.vsysOk then s
  else if s.pwr.dead then s.powerOn
  else
    let s := s.modPwr (fun p => { p with vsysOk := true })
    match s.pwr.state with
    | .deep => s.wake 10 0
    | .off => if s.pwr.start.isNone then s.beginStart .cold 10 0 false else s
    | _ => s

/-- COLD_START (R407, R412): supply appears with no always-on state. Left open: DESIGN CHOICE, assumption log 35. -/
def State.coldStart (s : State) : State :=
  if s.pwr.dead && s.pwr.start.isNone then s.powerOn else s

/-- VBKUP_LOW (R412). -/
def State.vbkupLow (s : State) : State :=
  if s.pwr.vsysOk && s.pwr.vbkupOk then (s.modPwr (fun p => { p with vbkupOk := false })).pwrFlag 5 else s

/-- VBKUP_LOSS (R412): with VSYS away the always-on domain loses power. -/
def State.vbkupLoss (s : State) : State :=
  if s.pwr.vsysOk then s else (s.modPwr (fun p => { p with vbkupOk := false })).powerLost

/-- VBKUP_RETURN (R412). -/
def State.vbkupReturn (s : State) : State := if s.pwr.vsysOk then s.modPwr (fun p => { p with vbkupOk := true }) else s

/-- WAKE_PIN_ACTIVE (R401, R402). -/
def State.wakePin (s : State) (pin : Fin 2) : State := s.wake pin.val 0

/-- UART_START_BIT (R401): a start bit reaches UART-C, whose ball needs VDDIO. -/
def State.uartStartBit (s : State) : State :=
  if s.sys.vddio && !s.hears .uartC then s.wake 8 0 else s

/-! ## Profiles, wake configuration and the reads (R394, R401, R413, R414) -/

/-- PWR_PROFILE (R394): the reply follows the ramp and the seal; a change during a boost waits for its end. -/
def pwrProfile (s : State) (_ : Fin 8) (c : Cmd) : State × Done :=
  let f := p8 c.p 0
  if 2 < f then refuse s .badParam
  else
    let s := s.storeReg 0x0100 (put 0 2 f)
    if s.pwr.profNext.isNone && f = s.pwr.profile then sealThen s []
    else if s.pwr.state = .idle && !s.pwr.boost then sealThen (s.modPwr (fun p => { p with profile := f, profNext := none })) []
    else
      let s := s.modPwr (fun p => { p with profNext := some f, ramping := true })
      (s, .await (.ramp s.nvm.ticket))

/-- VCORE_RAMP_DONE (R394). -/
def State.rampDone (s : State) : State :=
  if s.pwr.ramping && !s.pwr.boost then
    let s := s.modPwr (fun p => { p with profile := p.profNext.getD p.profile, profNext := none, ramping := false })
    s.sealReplies s.nvm.sealedTo true
  else s

/-- PWR_WAKE_CONFIG (R401, R482). -/
def pwrWakeConfig (s : State) (_ : Fin 8) (c : Cmd) : State × Done :=
  let en := p16 c.p 0
  let off := match s.pwr.entry with | some e => decide (e.target = .off) | none => false
  if 2047 < en || !en.testBit 10 || en.testBit 9 || 3 < p8 c.p 6 || 1 < p8 c.p 7 || (off && !en.testBit 0) then refuse s .badParam
  else
    let w := put 0 11 en ||| put 11 2 (p8 c.p 6) ||| put 13 2 (p8 c.p 7) ||| put 15 8 (p8 c.p 8)
    let t := put 0 32 (p32 c.p 2)
    sealThen ((s.modPwr (fun p => { p with wakeCfg := w, wakeTmr := t })).storeWords (paramAddr 0x0102) [w, t]) []

/-- PWR_RESIDENCY_READ (R413). -/
def pwrResidencyRead (s : State) (_ : Fin 8) (_ : Cmd) : State × Done :=
  okData s ((s.pwr.res.toList.map wordOctets).flatten ++ (s.pwr.wrap.toList.map o8).flatten)

/-- PWR_WAKE_RECORD_READ (R414). -/
def pwrWakeRecordRead (s : State) (_ : Fin 8) (_ : Cmd) : State × Done := okData s s.pwr.wake.octets

/-- R415: in RUN and IDLE the rails are measured every 10 ms: at the tick that ends one of these periods of the always-on count.
Left open: DESIGN CHOICE, assumption log 34. -/
def Pwr.tickRails (p : Pwr) (tick : Word) : Pwr :=
  if (p.state = .run || p.state = .idle) && tick.toNat * 100 / 32768 ≠ (tick.toNat - 1) * 100 / 32768 then
    { p with rails := (Config.rails tick).zeroExtend 40 }
  else p

/-- R413: one tick more of the present state's residency. Left open: DESIGN CHOICE, assumption log 34. -/
def Pwr.tickResidency (p : Pwr) : Pwr :=
  let i := p.state.code
  if i < 4 && p.start.isNone then
    let w := (p.res[i]?).getD 0
    { p with
      res := p.res.setIfInBounds i (w + 1)
      wrap := if w = BitVec.allOnes 40 then p.wrap.setIfInBounds i (satSucc ((p.wrap[i]?).getD 0) 255) else p.wrap }
  else p

/-! ## PWR_ registers (R415) -/

/-- PWR_STATUS. -/
def State.pwrStatus (s : State) : Word :=
  let p := s.pwr
  put 0 3 (if p.state = .idle then 1 else 0) ||| put 3 2 p.profile ||| flag 5 p.entry.isSome
    ||| put 6 3 (match p.entry with | some e => e.target.code | none => 0) ||| put 9 2 s.floor ||| flag 11 p.boost
    ||| flag 12 ((p.state = .idle || p.profile = 0) && !p.boost) ||| flag 13 p.vbkupOk ||| flag 14 p.xoFail

/-- R415: reads a register of the power block, by its offset in the page. -/
def pwrReg (s : State) (o : Nat) : Option Word :=
  let p := s.pwr
  let w := p.wake
  match o with
  | 0x00 => some s.pwrStatus
  | 0x01 => some p.flags
  | 0x02 => some p.wakeCfg
  | 0x03 => some p.wakeTmr
  | 0x04 => some p.rails
  | 0x08 => some p.res[0]
  | 0x09 => some p.res[1]
  | 0x0A => some p.res[2]
  | 0x0B => some p.res[3]
  | 0x0C => some (put 0 8 p.wrap[0] ||| put 8 8 p.wrap[1] ||| put 16 8 p.wrap[2] ||| put 24 8 p.wrap[3])
  | 0x10 => some (put 0 4 w.source ||| put 4 5 w.timer ||| put 9 3 w.left ||| put 12 6 w.flags ||| put 18 8 w.bankFail.toNat)
  | 0x11 => some (put 0 24 (min w.entryT 0xFFFFFF) ||| put 24 16 (min w.exitUs 0xFFFF))
  | 0x12 => some w.stamp
  | 0x13 => some w.residency
  | _ => none

end Sys2Proof.Machine
end

