-- ==== Sys2Proof/Machine/Starts.lean ====
section
/-!
DEFINITION. Every start: the ready signals of R405, the mount of the store (R449), what each tract loads, the wakes from SLEEP and DEEP,
the restarts of SYS_RESET and SYS_FW_COMMIT (R479, R545) and the steward restart (R422).
-/
namespace Sys2Proof.Machine

open Sys2Proof

/-! ## Mounting the store (R449, R455, R459, R461, R466) -/

/-- R459: a counter whose carry was cut short is completed. -/
def Tally.recover (t : Tally) : Tally :=
  match t.intent with
  | some v => { base := v, gen := (t.gen + 1) % 65536, bits := 0, intent := none }
  | none => t

/-- R461: the password kept at an index, from its two words. -/
def Store.password (t : Store) (i : Nat) : Option (BitVec 64) :=
  match t.get (pwAddr i), t.get (pwAddr i + 1) with
  | some a, some b => if a = erased && b = erased then none else some (BitVec.ofNat 64 (a.toNat + 2 ^ 40 * b.toNat))
  | _, _ => none

/-- R466: words 0 to 10 of copy `k` of the regulatory record, where every one can be read. -/
def Store.regCopy (t : Store) (k : Nat) : Option (List Word) :=
  let ws := (span ((952 + k) * 128) 11).map t.get
  if t.has (952 + k) && ws.all Option.isSome then some (ws.map (fun w => w.getD 0)) else none

/-- R466: the first copy that decodes. -/
def Store.regRecord (t : Store) : Option (List Word) := (List.range 8).findSome? t.regCopy

/-- R449: what an interrupted power-down commit leaves: COMMIT_FAIL, and the pages that fell back. -/
def Nvm.torn (n : Nvm) : Bool := match n.shadows with | g :: _ => !g.complete | [] => false

/-- R449: the logical pages that fell back to an older version. -/
def Nvm.fellBack (n : Nvm) : List Nat := match n.powerDown with | some d => if n.torn then d.pages else [] | none => []

/-- R449: the mount. The write buffer is empty, increments that were cut short are recovered, and the newest complete shadow generation
stands first. -/
def Nvm.mount (n : Nvm) : Nvm :=
  let good := n.shadows.filter (·.complete)
  let recovered := n.tallies.toList.any (fun t => t.intent.isSome)
  let reg := n.sealed.regRecord
  { n with
    mounted := true
    work := n.sealed
    dirty := []
    oldest := none
    commit := none
    again := false
    backlog := []
    sealedTo := n.ticket
    shadows := good
    tallies := n.tallies.map Tally.recover
    tallyOps := []
    powerDown := none
    counts0 := 0
    counts1 := 0
    flags := flag 5 n.torn ||| flag 6 recovered ||| flag 7 (n.torn || good.isEmpty)
    pw := Vector.ofFn (fun i => n.sealed.password i.val)
    reg := reg.getD blankReg
    regWritten := reg.isSome }

/-- R449: the store is mounted, and PWR_FLAGS.COMMIT_FAIL follows NVM_FLAGS.COMMIT_FAIL (R411). -/
def State.mount (s : State) : State :=
  let torn := s.nvm.torn
  let s := { s with nvm := s.nvm.mount }
  if torn then s.pwrFlag 3 else s

/-- R449: the pages that fell back are logged. -/
def State.logFellBack (s : State) (pages : List Nat) : State := pages.foldl (fun s p => s.logFault 13 6 (p * 128) 0) s

/-- R127, R141, R202: at a start the tracts take the limits of the record. -/
def State.takeLimits (s : State) : State :=
  State.critWritten { s with nvm := { s.nvm with
      regLf := s.nvm.reg.getD 1 0, regUhf := (s.nvm.reg.drop 2).take 8, regUwb := s.nvm.reg.getD 10 0 } } 10 10

/-! ## What is read from the store at a start -/

/-- R394, R401, R415: profile and wake configuration. -/
def State.loadPwr (s : State) : State :=
  s.modPwr (fun p => { p with
    profile := fld (s.nvm.storedReg 0x0100 1) 0 2
    profNext := none
    wakeCfg := s.nvm.storedReg 0x0102 wakeDefault
    wakeTmr := s.nvm.storedReg 0x0103 0 })

/-- R413: the residency counters are restored. -/
def State.loadResidency (s : State) : State :=
  let w := s.nvm.storedReg 0x010C 0
  s.modPwr (fun p => { p with
    res := Vector.ofFn (fun i => s.nvm.storedReg (0x0108 + i.val) 0)
    wrap := Vector.ofFn (fun i => fld w (8 * i.val) 8) })

/-- R268, R507: the tamper settings and the debug lock. -/
def State.loadSys (s : State) : State :=
  let t (k : Nat) (x : Tamper) : Tamper := x.ofWord (s.nvm.storedReg (tamperStore k) tamperDefault)
  { s with sys := { s.sys with
      tamper := s.sys.tamper.mapIdx t
      debugLock := bit (s.nvm.storedReg 0x0044 0) 0 } }

/-- R440, R451, R465: MEM_CFG, NVM_CFG and the position of the patrol. -/
def State.loadMem (s : State) : State :=
  { s with
    mem := { s.mem with cfg := s.nvm.storedReg 0x0D02 (put 0 17 3600) }
    nvm := { s.nvm with
      cfg := s.nvm.storedReg 0x0E02 (put 0 11 1000)
      patrolNext := fld (s.nvm.storedReg 0x0E05 0) 0 11
      patrolLast := s.nvm.storedReg 0x0E06 0 } }

/-- The ticket in row `i` of the table, where one stands there. -/
def Nvm.ticketRow (n : Nvm) (i : Nat) : Option Ticket :=
  let w (k : Nat) : Word := (n.work.get (ticketBase + 5 * i + k)).getD 0
  if w 0 = 0 || w 0 = erased then none
  else some { id := w 0, serial := fld (w 1) 0 32, since := fld (w 2) 0 32, until_ := fld (w 3) 0 32, level := fld (w 4) 0 8,
              cap := fld (w 4) 8 16 }

/-- The zone in row `i` of the field map. -/
def Nvm.zoneRow (n : Nvm) (i : Nat) : Zone :=
  let os := ((span (mapBase + 2 + 7 * i) 7).map (fun a => wordOctets ((n.work.get a).getD 0))).flatten
  { name := pRun os 0 8, lo := pRun os 8 12, hi := pRun os 20 12 }

/-- A word of the store; 0 where it is erased or lost. -/
def Nvm.wordOr0 (n : Nvm) (a : Nat) : Word := match n.work.get a with | some w => if w = erased then 0 else w | none => 0

/-- R244: the identity, the policies, the tickets, the field map and the battery settings. -/
def State.loadCrd (s : State) : State :=
  let dom := s.nvm.storedReg 0x0702 0
  let zones := (List.range (min 8 (fld (s.nvm.wordOr0 mapBase) 0 4))).map s.nvm.zoneRow
  s.modCrd (fun c => { c with
    loaded := true
    domain := fld dom 0 24
    sealed := bit dom 24
    self := s.nvm.storedReg 0x0703 0
    cfg := s.nvm.storedReg 0x0705 (put 0 6 8)
    batCfg := s.nvm.storedReg 0x0708 (flag 0 true ||| put 1 2 2)
    zpol := Vector.ofFn (fun i => s.nvm.storedReg (0x0710 + i.val) zpolDefault)
    tickets := (List.range 32).filterMap s.nvm.ticketRow
    serialHigh := fld (s.nvm.wordOr0 (ticketBase + 255)) 0 32
    zones := zones
    mapCrc := BitVec.ofNat 32 (s.nvm.wordOr0 (mapBase + 1)).toNat })

/-- R244: the roster copy, its index, and the counter log. -/
def State.loadMembers (s : State) : State :=
  let s := s.loadRoster
  s.crd.ctrLog.foldl State.applyLog s

/-- R249: a receiver's configuration, and whether it was armed. -/
def Nvm.storedRx (n : Nvm) (k : Nat) : Receiver :=
  let c := n.storedReg (0x0810 + k) 0
  let a := n.storedReg (0x0814 + k) 0
  { Receiver.reset with
    mac := BitVec.ofNat 48 (fld c 0 24 + 2 ^ 24 * fld a 0 24)
    configured := bit c 24
    source := bit c 25
    unit := if bit (n.storedReg (0x081C + k) 0) 0 then .starting else .off }

/-- R248, R257: each receiver in STARTING reserves a block. -/
def State.startRxs (s : State) : State :=
  allRx.foldl (fun s n => if (s.rx n).unit = .starting then s.rxStarting n else s) s

/-- R249, R266: the receivers, the policies and the remote lock. -/
def State.loadHrv (s : State) : State :=
  let lock := match s.nvm.work.get (paramAddr 0x0800) with | some w => w ≠ erased && bit w 0 | none => true
  let s := s.modHrv (fun h => { h with
    rx := Vector.ofFn (fun i => s.nvm.storedRx i.val)
    policy0 := s.nvm.storedReg 0x0802 Hrv.reset.policy0
    policy1 := s.nvm.storedReg 0x0803 Hrv.reset.policy1
    lock := lock })
  (s.critWritten 4 1).critWritten 6 4 |>.startRxs

/-- R376: the stored configuration of the network block, and the release-period trigger (R252). -/
def State.loadNtc (s : State) : State :=
  s.modNtc (fun n => { n with
    netCfg := s.nvm.storedReg 0x0B02 netDefault
    ptpCfg := s.nvm.storedReg 0x0B03 ptpDefault
    servoCfg := s.nvm.storedReg 0x0B04 servoDefault
    asym := s.nvm.storedReg 0x0B05 0
    calCfg := s.nvm.storedReg 0x0B11 0
    capCfg := s.nvm.storedReg 0x0B12 0
    trig := n.trig.set 15 (TrigSlot.cadence n.ns (s.hrv.cadence * 1000000)) })

/-- R305: the signing policy. -/
def State.loadSigned (s : State) : State :=
  { s with seq := { s.seq with signed := bit (s.nvm.storedReg 0x0900 0) 0 } }

/-- R297, R304: each sequencer is as the store says, with the image it starts with. -/
def State.loadSeqs (s : State) : State :=
  ([0, 1, 2] : List (Fin 3)).foldl (fun s n =>
    let on : Bool := bit (s.nvm.storedReg (0x0908 + n.val) 1) 0
    (s.modSeq n (fun q => { q with unit := if on then .on else .off })).seqImageStart n) s

/-- R203: the antenna calibration. -/
def State.loadUwbCal (s : State) : State :=
  s.modUwb (fun u => { u with cal := Vector.ofFn (fun i => s.nvm.storedReg (0x0610 + i.val) 0), calNext := [] })

/-! ## Key slots and the cipher tract (R336, R344 to R346) -/

/-- R345: a slot whose record fails: LOST, with its flag, its log entry and its event. -/
def State.loseSlot (s : State) (n : Nat) (k : Slot) (source : Nat) : State :=
  let s := s.putSlot n { k with st := .lost, key := [], kcv := 0 }
  let s := { s with cph := { s.cph with flags := raiseFlag s.cph.flags 5 } }
  s.logFault 12 source n 0

/-- R344 step 3: what a slot's record says, without its key: a slot never written has no record. -/
def Nvm.slotRecord (n : Nvm) (k : Nat) : Option (Slot × Nat × Octets) :=
  let ws := (span (keyAddr k) 16).map n.work.get
  let w (i : Nat) : Word := (ws.getD i none).getD 0
  if !n.work.has (keyAddr k / 128) || w 0 = erased then none
  else some (Slot.blank.withTag (w 0), (w 1).toNat, (((List.range 8).map (fun i => wordOctets (w (2 + i)))).flatten))

/-- R344 step 3, R345: reloads one slot. -/
def State.loadKey (s : State) (source n : Nat) : State :=
  let lostWord := ((span (keyAddr n) 16).map s.nvm.work.get).any Option.isNone
  match s.nvm.slotRecord n with
  | none => s.putSlot n Slot.blank
  | some (k, kcv, body) =>
    if lostWord then s.loseSlot n k source
    else match k.st with
      | .erased => s.putSlot n k
      | .written =>
        if k.persist = 0 then s.putSlot n { Slot.blank with gen := k.gen }
        else match kwUnwrap deviceKeyOctets body with
          | some m =>
            let key := m.take (if k.size = 0 then 16 else 32)
            if kcvOf key = kcv then s.putSlot n { k with key := key, kcv := kcv } else s.loseSlot n k source
          | none => s.loseSlot n k source
      | .lost => s.loseSlot n k source
      | .empty => s.putSlot n { Slot.blank with gen := k.gen }

/-- R344 step 1: the known-answer tests: the engines and the modes that failed. -/
def State.katResult (s : State) (failed : BitVec 16) (modes : BitVec 4) : State :=
  let bad := failed ≠ 0 || modes ≠ 0
  { s with cph := { s.cph with
      failed := failed
      katModes := modes
      katDone := true
      flags := if bad then raiseFlag s.cph.flags 3 else s.cph.flags } }

/-- R344 step 4: the DRBG is instantiated, unless the entropy source failed its start-up test three times (R343). -/
def State.instantiate (s : State) (entropyOk : Bool) : State :=
  let c := s.cph
  let c : Cph :=
    { c with
      drbg := if entropyOk then .ready else .error
      entropyOk := entropyOk
      requests := 0
      restarts := 0
      reseedAt := s.aon.tick
      flags := if entropyOk then c.flags else raiseFlag c.flags 2
      counts2 := if entropyOk then c.counts2 else bumpBy c.counts2 0 16 3 }
  { s with cph := c }

/-- R336, R344 steps 2 to 4: CTX_EPOCH advances, contexts are cleared, the slots are reloaded, and the DRBG is instantiated.
Left open: DESIGN CHOICE, assumption log 13. -/
def State.startCipher (s : State) (failed : BitVec 16) (modes : BitVec 4) (entropyOk : Bool) : State :=
  let s := { s with
    cph := { s.cph with ctxs := Vector.replicate 64 CphCtx.reset, pend := [], faults := [], quarantine := none }
    nvm := { s.nvm with tallies := s.nvm.tallies.set 2 ((s.nvm.tallies[2].opened).step 0) } }
  let s := (s.katResult failed modes).putSlot 0 (Slot.wrapping s.ctxEpoch 1)
  ((span 1 255).foldl (fun s n => s.loadKey 6 n) s).instantiate entropyOk

/-- R346: a slot whose key no longer matches its check value after DEEP: reloaded when PERSIST, erased otherwise; its generation goes up. -/
def State.keyDamaged (s : State) (n : Nat) : State :=
  if (s.slot n).st ≠ .written then s
  else
    let g := nextGen (s.slot n).gen
    let s := { s with cph := { s.cph with flags := raiseFlag s.cph.flags 5 } }
    if (s.slot n).persist = 1 then
      let s := s.loadKey 7 n
      s.putSlot n { (s.slot n) with gen := g }
    else s.eraseSlot n

/-! ## Almanac starts (R74, R77, R84, R548) -/

/-- R77, R548: a start reserves a new block; where it can reserve none the almanac is exhausted. -/
def State.newBlock (s : State) : State :=
  if s.nvm.tallyFull 0 || 2 ^ 24 ≤ s.nvm.tally 0 + 1 then
    { s with jrn := { s.jrn with exhausted := true, next := 1, blockEnd := 1, nextBlock := none, reserving := false } }
  else
    let t := (s.nvm.tallies[0].opened).step 0
    let b := (t.value - 1) * 65536 + 1
    { s with
      nvm := { s.nvm with tallies := s.nvm.tallies.set 0 t }
      jrn := { s.jrn with next := b, blockEnd := b + 65536, nextBlock := none, reserving := false, exhausted := false } }

/-- R74: the START entry of a kind. -/
def State.startEntry (s : State) (kind : Nat) : State :=
  let s := s.openBlock
  let seq := if s.jrn.exhausted then 0 else s.jrn.next
  let s := { s with jrn := { s.jrn with startSeq := BitVec.ofNat 40 seq, startKind := kind } }
  s.internal 0xFFFF (BitVec.ofNat 16 kind) (crc32c [])

/-- R84: the working ring is empty. -/
def State.emptyRing (s : State) : State := { s with jrn := { s.jrn with head := 0, count := 0 } }

/-! ## The ready signals (R405, R406) -/

/-- The start under way, at its phase. -/
def State.inPhase (s : State) (p : StartPhase) : Option Start := s.pwr.start.bind (fun x => if x.phase = p then some x else none)

/-- The start under way, at its next phase. -/
def State.toPhase (s : State) (x : Start) (p : StartPhase) : State := s.modPwr (fun w => { w with start := some { x with phase := p } })

/-- VCORE_OK. -/
def State.vcoreOk (s : State) : State :=
  match s.inPhase .vcore with
  | some x => s.toPhase x .xo
  | none => s

/-- VCORE_TIMEOUT (R406): the regulator is restarted from off, up to three times; then the device waits for the next wake event. -/
def State.vcoreTimeout (s : State) : State :=
  match s.inPhase .vcore with
  | some x => if x.tries < 3 then s.toPhase { x with tries := x.tries + 1 } .vcore else s.modPwr (fun w => { w with start := none })
  | none => s

/-- XO_OK (R405, R406): during a start, and later after a failure, when what needs the oscillator becomes available. -/
def State.xoStable (s : State) : State :=
  match s.inPhase .xo with
  | some x => (s.modPwr (fun w => { w with xoOk := true })).toPhase x .mem
  | none =>
    if s.pwr.xoFail && s.pwr.start.isNone && (s.pwr.state = .run || s.pwr.state = .idle) then
      (s.modPwr (fun w => { w with xoOk := true, xoFail := false })).trigResume
    else s

/-- XO_TIMEOUT (R406): the start goes on without the oscillator. -/
def State.xoTimeout (s : State) : State :=
  match s.inPhase .xo with
  | some x => ((s.modPwr (fun w => { w with xoOk := false, xoFail := true })).pwrFlag 4).toPhase x .mem
  | none => s

/-! ## MEM_OK (R428, R429, R433, R435, R436, R346) -/

/-- Whether a start sets reset values: a cold start or a restart. -/
def StartKind.fresh : StartKind → Bool
  | .cold => true
  | .reset => true
  | .firmware => true
  | _ => false

/-- R428: banks whose checker failed are retired for this run; a logical bank they served moves to a spare. Left open: DESIGN CHOICE, assumption log 6. -/
def Mem.dropBanks (m : Mem) (bad : BitVec 24) : Mem :=
  let m := { m with retired := m.retired ||| bad }
  let move (m : Mem) (b : Nat) : Mem :=
    if bad.getLsbD ((m.map[b]?).getD b) then
      match m.spare? with
      | some t => { m with map := m.map.setIfInBounds b t }
      | none => m
    else m
  (List.range 16).foldl move m

/-- R429: every bank holds valid zero words, under the stored map; registers read their reset values. -/
def Mem.fresh (m : Mem) (cold : Bool) (checker : Word) : Mem :=
  let bad := BitVec.ofNat 24 (fld checker 1 23 * 2)
  let x : Mem :=
    { Mem.reset with
      cells := []
      map := m.storedMap
      retired := m.storedRet
      storedRet := m.storedRet
      storedMap := m.storedMap
      checker := checker
      flags := flag 7 (checker ≠ 0)
      logCount := m.logCount
      logNext := m.logNext
      critDiff := if cold then [] else m.critDiff
      signs := m.signs }
  x.dropBanks bad

/-- R428: the checkers whose failure brings the fault boot state. -/
def bootFault (checker : Word) : Bool := bit checker 0 || bit checker 24 || bit checker 25

/-- R410, R433: the banks retained in DEEP: those of the mask that no spare replaces. -/
def State.retained (s : State) (b : Nat) : Bool := s.pwr.retain.getLsbD b && decide (b < 8) && decide ((s.mem.map[b]?).getD b = b)

/-- R429: on a wake from DEEP every bank that was not retained holds poison, and the memory registers read their reset values. -/
def State.poisonFill (s : State) : State :=
  let keep := (List.range 8).filter s.retained
  let fill := (List.range 24).foldl (fun f b =>
    if keep.contains b then f ||| (s.mem.fill &&& BitVec.ofNat 24 (2 ^ b)) else f ||| BitVec.ofNat 24 (2 ^ b)) (0 : BitVec 24)
  { s with mem := { s.mem with
      cells := s.mem.cells.filter (fun kv => keep.contains (kv.1 / 16384))
      fill := fill
      merge := []
      tally := []
      flags := 0
      counts0 := 0
      counts1 := 0
      counts2 := 0
      repairs := 0
      lost := 0
      cand := Vector.replicate 24 0
      evTicks := []
      suppressed := 0 } }

/-- Bits that flipped in retained banks. -/
def State.flipped (s : State) (flips : List (Nat × BitVec 47)) : State :=
  flips.foldl (fun s x =>
    if s.retained (x.1 / 16384) then { s with mem := s.mem.poke x.1 (s.mem.stored x.1 ^^^ x.2) } else s) s

/-- R436: corrections of a retained bank are written back and counted. -/
def State.correctBank (s : State) (b : Nat) : State :=
  ((alPart (b * 16384) 16384 s.mem.cells).map (·.1)).foldl (fun s a =>
    match decode47 (s.mem.stored a) with
    | .corrected w => s.countCorrection 7 a w false
    | _ => s) s

/-- R436: a bank is filled with poison and named in BANK_FAIL. -/
def State.failBank (s : State) (b : Nat) : State :=
  let m : Mem :=
    { s.mem with
      cells := alCut (b * 16384) 16384 s.mem.cells
      fill := s.mem.fill ||| BitVec.ofNat 24 (2 ^ b)
      flags := raiseFlag s.mem.flags 6 }
  let name (x : Start) : Start := { x with bankFail := x.bankFail ||| BitVec.ofNat 8 (2 ^ b) }
  { s with mem := m, pwr := { s.pwr with start := s.pwr.start.map name } }

/-- R436: the check of one retained bank. -/
def State.checkBank (s : State) (b : Nat) : State :=
  let bad := (alPart (b * 16384) 16384 s.mem.cells).any (fun kv => match decode47 kv.2 with | .bad _ => true | _ => false)
  let copy (c : Nat) : Option Word := decodedValue (s.critCopy (34 + b) c)
  let lost := (vote (copy 0) (copy 1) (copy 2)).isNone
  let s := s.critRead (34 + b)
  let s := if bad then s else s.correctBank b
  if bad || lost || s.mem.signature b ≠ (s.mem.signs[b]?).getD 0 then s.failBank b else s

/-- MEM_OK (R405, R428, R429, R436, R346): `checker` is MEM_CHECKER after the test of a fresh start; `flips` are the bits that flipped in
DEEP, and `damaged` the slots whose keys no longer match. Left open: DESIGN CHOICE, assumption log 36. -/
def State.memOk (s : State) (checker : Word) (flips : List (Nat × BitVec 47)) (damaged : List (Fin 256)) : State :=
  match s.inPhase .mem with
  | none => s
  | some x =>
    if x.kind.fresh then
      let s := { s with
        mem := s.mem.fresh (decide (x.kind = StartKind.cold)) (checker &&& ones 0 26)
        sys := { s.sys with faultBoot := bootFault checker } }
      s.toPhase x .logic
    else if x.kind = .deep then
      let pages := s.nvm.fellBack
      let torn := s.nvm.torn
      let s := (s.poisonFill.mount).toPhase { x with commitFail := torn } .mem
      let s := (s.flipped flips).logFellBack pages
      let s := (((List.range 8).filter s.retained).foldl State.checkBank s)
      let s := damaged.foldl (fun s n => s.keyDamaged n.val) s
      s.modPwr (fun w => { w with start := w.start.map (fun y => { y with phase := .logic }) })
    else s.toPhase x .logic

/-! ## A fresh start: cold, SYS_RESET or firmware (R28, R59, R375, R390, R407, R415) -/

/-- LOGIC_OK of a fresh start: reset values are set. What the always-on domain holds survives a restart, and not a cold start. -/
def State.fresh (s : State) (x : Start) : State :=
  let cold : Bool := x.kind = .cold
  let off : Seq → Seq := fun q => { q with unit := .off }
  { State.reset with
    sys := { Sys.reset with
      faultBoot := s.sys.faultBoot
      gpioExt := s.sys.gpioExt
      vddio := s.sys.vddio
      fwSlot := s.sys.fwSlot
      fwVersion := s.sys.fwVersion
      tamper := if cold then Sys.reset.tamper else s.sys.tamper
      pos := if cold then Sys.reset.pos else s.sys.pos
      sampled := if cold then none else s.sys.sampled
      later := if cold then [] else s.sys.later
      latch := if cold then 0 else s.sys.latch }
    pwr := { Pwr.reset with
      vbkupOk := s.pwr.vbkupOk
      vsysOk := s.pwr.vsysOk
      xoOk := s.pwr.xoOk
      xoFail := s.pwr.xoFail
      xo32 := !cold && s.pwr.xo32
      flags := flag 0 x.latched ||| flag 4 s.pwr.xoFail
      res := if cold then Pwr.reset.res else s.pwr.res
      wrap := if cold then Pwr.reset.wrap else s.pwr.wrap
      wake := s.pwr.wake
      visit := if cold then 0 else s.aon.tick
      forced := s.pwr.forced
      start := some { x with phase := .accept } }
    aon := if cold then Aon.reset else { s.aon with nonce := 0, nonceAt := none }
    mem := s.mem
    nvm := s.nvm
    jrn := { Jrn.reset with
      next := 1, blockEnd := 1, head := 0, count := 0, nvHead := s.jrn.nvHead, nvCount := s.jrn.nvCount, startSeq := 0,
      startKind := 0 }
    cph := { Cph.reset with slots := s.cph.slots, drbg := .none, katDone := false, entropyOk := false }
    crd := { Crd.reset with
      loaded := false
      batDefer := false
      fails := if cold then 0 else s.crd.fails
      level := if cold then 0 else s.crd.level
      active := !cold && s.crd.active
      lockEnd := if cold then 0 else s.crd.lockEnd
      nonce := if cold then 0 else s.crd.nonce
      nonceLive := !cold && s.crd.nonceLive }
    lf := { Lf.reset with
      idleSince := if cold then 0 else s.lf.idleSince
      roundNo := if cold then 0 else s.lf.roundNo }
    seq := { SeqBlock.reset with seqs := SeqBlock.reset.seqs.map off }
    hrv := { Hrv.reset with lock := !cold && s.hrv.lock }
    free := s.free
    pending := s.pending }

/-- R74: the start kind of the START entry. -/
def StartKind.code : StartKind → Nat
  | .cold => 0 | .reset => 1 | .firmware => 2 | .deep => 3 | .sleep => 3

/-- R28, R233, R268, R371: what a cold start takes from the newest complete shadow generation; without one its words are zero (R455). -/
def State.fromShadow (s : State) : State :=
  match s.nvm.shadow? with
  | none => s
  | some v =>
    { s with
      crd := { s.crd with
        fails := v.lockFails, level := v.lockLevel, active := v.lockActive, lockEnd := v.lockEnd, nonce := v.lockNonce, nonceLive := v.nonceLive }
      sys := { s.sys with latch := v.tamper }
      aon := { s.aon with calendar := v.calendar, lastAttest := v.lastAttest, uncertain := true }
      lf := { s.lf with idleSince := v.idleSince } }

/-- R211: the counter log of the newest complete shadow generation. -/
def State.loadLog (s : State) : State :=
  s.modCrd (fun c => { c with ctrLog := match s.nvm.shadow? with | some v => v.counters | none => [], foldDay := s.calDay })

/-- R428: a fault-log entry for each bank whose checker failed. -/
def State.logCheckers (s : State) : State :=
  (List.range 24).foldl (fun s b => if bit s.mem.checker b then s.logFault 5 6 (b * 16384) 0 else s) s

/-- Events that were raised while no command could be accepted. -/
def State.flushLater (s : State) : State :=
  let l := s.sys.later
  l.foldl (fun s e => s.raise e.1 e.2) { s with sys := { s.sys with later := [] } }

/-- R235: a start with AUTO brings an exchange once the port has link. -/
def State.autoBattery (s : State) : State := s.modCrd (fun c => { c with batDefer := c.batDefer || bit c.batCfg 0 })

/-- R405: the start-up work is done: the start is over. -/
def State.startOver (s : State) : State := (s.modPwr (fun p => { p with start := none })).flushLater.autoBattery

/-- R108: at a cold start ROUND_NO takes a DRBG value (R340). Left open: DESIGN CHOICE, assumption log 36. -/
def State.drawRoundNo (s : State) : State :=
  let no : BitVec 16 := s.random.truncate 16
  s.useRandom.modLf (fun l => { l with roundNo := no })

/-- COMMANDS_ACCEPTED after a fresh start: the store is mounted, and every tract takes what it keeps there. Left open: DESIGN CHOICE, assumption log 36. -/
def State.acceptFresh (s : State) (x : Start) (failed : BitVec 16) (modes : BitVec 4) (entropyOk : Bool) : State :=
  let pages := s.nvm.fellBack
  let torn := s.nvm.torn
  let s := s.mount
  let s := if x.kind = .cold then s.fromShadow.loadResidency else s
  let rec_ (w : WakeRec) : WakeRec := { w with stamp := s.aon.calendar, flags := w.flags ||| (if torn then 32 else 0) }
  let s := if x.kind = .cold then s.modPwr (fun p => { p with wake := rec_ p.wake }) else s
  let s := if x.kind = .cold then { s with nvm := { s.nvm with patrolDue := s.aon.calendar.toNat + patrolStep } } else s
  let s := (((s.takeLimits.loadPwr).loadSys).loadMem).loadSigned
  let s := (s.newBlock.emptyRing).startEntry x.kind.code
  let s := (s.logCheckers).logFellBack pages
  let s := s.startCipher failed modes entropyOk
  let s := if x.kind = .cold then s.drawRoundNo else s
  let s := ((s.loadLog).loadMembers).loadCrd
  let s := ((s.loadHrv.loadNtc).loadSeqs).loadUwbCal
  s.startOver

/-! ## A wake from SLEEP or DEEP (R59, R84, R104, R161, R203, R244, R304, R375, R409) -/

/-- R375: the network block after a wake: no master, the clock COARSE and following none, and no captures. -/
def Ntc.afterWake (n : Ntc) : Ntc :=
  { n with
    link := false, queue := [], onWire := none, ptp := n.ptp.lose, clock := if n.clock = .locked then .free else n.clock, coarse := true,
    cap := Vector.replicate 2 [], capOver := Vector.replicate 2 false }

/-- R203: the UWB tract after a wake. -/
def Uwb.afterWake (u : Uwb) : Uwb := { u with radio := 0, failed := 0, disabled := false, cir := none, calValid := false, calDue := false }

/-- R161: the UHF tract starts again where it was to. -/
def Uhf.restart (u : Uhf) : Uhf := if u.again then { u with again := false, unit := .starting } else u

/-- R59, R86: a context after DEEP: `ring` says that bank 7 was kept, and `events` that bank 0 was. Left open: DESIGN CHOICE, assumption log 36. -/
def Ctx.afterDeep (c : Ctx) (ring events : Bool) : Ctx :=
  { c with
    cmds := [], kept := [], nonce := 0, nonceLive := false, pwForce := 0,
    filter := if ring then c.filter else [],
    filterLost := if ring then c.filterLost else if c.isOpen then 32 else 0,
    events := if events then c.events else [] }

/-- R104: a coil after DEEP. -/
def Coil.afterDeep (c : Coil) : Coil := { Coil.reset with cfg := c.cfg, trimNow := c.trimNow }

/-- R104, R409: the LF block after DEEP: configuration, plan, channel settings and the polling unit. Left open: DESIGN CHOICE, assumption log 36. -/
def Lf.afterDeep (l : Lf) : Lf :=
  { l with
    ride := false, flags := 0, counts := 0, coils := l.coils.map Coil.afterDeep, round := none, want := none, due := none,
    holdoff := none, changes := [], frame := [] }

/-- R161, R409: the UHF block after DEEP: plan, vigil configuration, calibration settings and coexistence sets.
Left open: DESIGN CHOICE, assumption log 36. -/
def Uhf.afterDeep (u : Uhf) : Uhf :=
  { Uhf.reset with
    again := u.again, plan := u.plan, vigil := u.vigil, vigilTemp := u.vigilTemp, calCfg := u.calCfg,
    coex := u.coex.map (fun c => { Coex.reset with cfg := c.cfg, reqIn := c.reqIn, priIn := c.priIn, gnt := c.gnt }) }

/-- R203, R28: the UWB block after DEEP. -/
def Uwb.afterDeep (u : Uwb) : Uwb := { Uwb.reset with cfg := u.cfg, duty := u.duty }

/-- R28, R249: a receiver after DEEP: armed ones start again, with last level DENY. -/
def Receiver.afterDeep (r : Receiver) : Receiver :=
  let on : Bool := r.unit = .on || r.unit = .starting || r.unit = .restartPending
  { Receiver.reset with mac := r.mac, configured := r.configured, source := r.source, ticket := r.ticket, unit := if on then .starting else .off }

/-- R28, R409: the harvest block after DEEP. Left open: DESIGN CHOICE, assumption log 36. -/
def Hrv.afterDeep (h : Hrv) : Hrv :=
  { Hrv.reset with rx := h.rx.map Receiver.afterDeep, policy0 := h.policy0, policy1 := h.policy1, lock := h.lock, wantB := h.wantB, periods := h.periods }

/-- R288, R409: a sequencer after DEEP: its state, its event selections and the lines latched meanwhile (R390).
Left open: DESIGN CHOICE, assumption log 36. -/
def Seq.afterDeep (q : Seq) (n : Fin 3) : Seq :=
  { Seq.reset n with unit := q.unit, evt := q.evtNext.getD q.evt, lines := q.lines }

/-- R28, R244: the credentials block after DEEP. Left open: DESIGN CHOICE, assumption log 36. -/
def Crd.afterDeep (c : Crd) : Crd :=
  { Crd.reset with
    fails := c.fails, level := c.level, active := c.active, lockEnd := c.lockEnd, nonce := c.nonce, nonceLive := c.nonceLive,
    batNumber := c.batNumber, index := c.index, ctrLog := c.ctrLog, foldDay := c.foldDay, revoked := c.revoked, batDefer := false }

/-- R346: the cipher block after DEEP: keys, contexts and generations as at entry, and a reseed under way. -/
def Cph.afterDeep (c : Cph) : Cph :=
  { c with
    pend := [], faults := [], quarantine := none, counts0 := 0, counts1 := 0, counts2 := 0, drbg := .reseeding, katDone := true,
    requests := if c.drbg = .error then 0 else c.requests, entropyOk := true, restarts := 0 }

/-- R244: the roster was kept: banks 2 to 6 were retained and passed, and no commit failed. -/
def State.rosterKept (s : State) (x : Start) : Bool :=
  !x.commitFail && [2, 3, 4, 5, 6].all (fun b => s.retained b && !x.bankFail.getLsbD b)

/-- What DEEP leaves of the tracts and of what hosts hold. Left open: DESIGN CHOICE, assumption log 36. -/
def State.afterDeep (s : State) (x : Start) : State :=
  let kept (b : Nat) : Bool := s.retained b && !x.bankFail.getLsbD b
  let roster := s.rosterKept x
  let open_ := s.hst.ctx.toList.any (·.isOpen)
  let host : Hst :=
    { Hst.reset with deferred := s.hst.deferred, ctx := s.hst.ctx.map (fun c => c.afterDeep (kept 7) (kept 0)) }
  let seqs : Vector Seq 3 := s.seq.seqs.mapFinIdx (fun i q h => q.afterDeep ⟨i, h⟩)
  let jrn : Jrn :=
    { s.jrn with
      reserving := false, dispatch := 0, head := if kept 7 then s.jrn.head else 0, count := if kept 7 then s.jrn.count else 0 }
  let sys : Sys := { s.sys with fw := none, gpioDir := 0, gpioOut := 0, gpioPull := 0 }
  let ntc : Ntc :=
    { s.ntc.afterWake with flags := 0, counts0 := 0, counts1 := 0, latchSec := 0, pins := Vector.replicate 4 { level := false, pulse := none } }
  let s := { s with
    hst := host, jrn := jrn, sys := sys, ntc := ntc
    mem := { s.mem with flags := if kept 7 || !open_ then s.mem.flags else raiseFlag s.mem.flags 8 }
    seq := { s.seq with seqs := seqs, flags := 0, stage := none }
    cph := s.cph.afterDeep, crd := s.crd.afterDeep, lf := s.lf.afterDeep, uhf := s.uhf.afterDeep, uwb := s.uwb.afterDeep, hrv := s.hrv.afterDeep }
  let s := ((s.critWritten 6 4).takeLimits).loadSigned
  let s := if kept 1 then s else s.loadLog
  let s := if roster then s else s.loadMembers
  let s := (s.loadCrd).loadUwbCal
  let s := ([0, 1, 2] : List (Fin 3)).foldl (fun s n => s.seqImageStart n) s
  s.startRxs

/-- R409: an item of the save list that fails its CRC: its reset values, and its tract starts as after a cold start. -/
def State.saveLost (s : State) (item : Nat) : State :=
  match item with
  | 0 => (s.loadPwr.loadResidency).modPwr (fun p => p)
  | 1 => { s with hst := { s.hst with ctx := Vector.replicate 8 Ctx.reset, deferred := [] } }
  | 2 => s.newBlock
  | 3 => s.modLf (fun l => { Lf.reset with idleSince := l.idleSince })
  | 4 => s.modUhf (fun u => { Uhf.reset with coex := u.coex })
  | 5 => ((s.modUwb (fun _ => Uwb.reset)).loadUwbCal).modUhf (fun u => { u with coex := Vector.replicate 2 Coex.reset })
  | 6 => s.loadCrd
  | 7 => (s.modHrv (fun _ => Hrv.reset)).loadHrv
  | 8 => ([0, 1, 2] : List (Fin 3)).foldl (fun s n => s.modSeq n (fun _ => Seq.reset n)) s |>.loadSeqs
  | 9 => (span 1 255).foldl (fun s n => s.loadKey 7 n) s
  | 10 => (s.modNtc (fun _ => Ntc.reset)).loadNtc
  | 11 => { s with tmr := Tmr.reset }
  | _ => s

/-- R414: the FLAGS of the wake record. -/
def Start.flags (x : Start) (p : Pwr) : Nat :=
  b2n x.latched + 2 * b2n p.forced + 4 * b2n p.onBkup + 8 * b2n x.saveFail + 16 * b2n p.xoFail + 32 * b2n x.commitFail

/-- R414: the wake record of a start. -/
def Start.record (x : Start) (p : Pwr) (exitUs : Nat) : WakeRec :=
  let visit : Word := x.began - p.visit
  { source := x.source, timer := x.timer, left := x.left.left, flags := x.flags p, bankFail := x.bankFail, entryT := p.entryT,
    exitUs := exitUs, stamp := 0,
    residency := if x.kind = .cold then BitVec.allOnes 40 else if x.latched && visit = 0 then 1 else visit }

/-- R436: a fault-log entry for each bank that failed its check. -/
def State.logRetention (s : State) (x : Start) : State :=
  (List.range 8).foldl (fun s b => if x.bankFail.getLsbD b then s.logFault 4 7 (b * 16384) 0 else s) s

/-- R404: a wake by PRESENT from SLEEP with PRESENT_ACTION 1 raises no EV_WAKE while its visit may end in re-entry. -/
def State.presentWake (s : State) (x : Start) : Bool := x.kind = .sleep && x.source = 6 && fld s.pwr.wakeCfg 13 2 = 1

/-- LOGIC_OK (R405, R409, R414): `bad` are the save-list items that fail their CRC, and `exitUs` the exit time.
Left open: DESIGN CHOICE, assumption log 36. -/
def State.logicOk (s : State) (bad : List Nat) (exitUs : Nat) : State :=
  match s.inPhase .logic with
  | none => s
  | some x =>
    if x.kind.fresh then
      let w := x.record s.pwr exitUs
      let s := s.fresh x
      let s := if x.kind = .cold then s.modPwr (fun p => { p with wake := w }) else s
      if s.sys.faultBoot then s.modPwr (fun p => { p with start := none }) else s
    else
      let x := { x with saveFail := !bad.isEmpty }
      let w := x.record s.pwr exitUs
      let up (b : Bool) (i : Nat) (f : Word) : Word := if b then raiseFlag f i else f
      let fl (p : Pwr) : Word := up x.latched 0 (up (decide (x.bankFail ≠ (0 : BitVec 8))) 1 (up x.saveFail 2 p.flags))
      let run (p : Pwr) : Pwr :=
        { p with
          state := .run
          visit := s.aon.tick
          onBkup := false
          flags := fl p }
      let s := s.modPwr run
      let s := if x.kind = .deep then s.afterDeep x else (s.modNtc Ntc.afterWake).modUwb Uwb.afterWake |>.loadUwbCal
      let s := bad.eraseDups.foldl State.saveLost s
      let s := if x.kind = .deep then (s.startEntry 3).logRetention x else s
      let s := (s.modUhf Uhf.restart).trigResume
      let silent := s.presentWake x
      let s := (s.modPwr (fun p => { p with presentVisit := silent })).wakeDone w silent
      if x.kind = .deep then s.toPhase x .accept else s.startOver

/-- COMMANDS_ACCEPTED (R405): `failed`, `modes` and `entropyOk` are what the known-answer and entropy tests of R344 find.
Left open: DESIGN CHOICE, assumption log 36. -/
def State.commandsAccepted (s : State) (failed : BitVec 16) (modes : BitVec 4) (entropyOk : Bool) : State :=
  match s.inPhase .accept with
  | none => s
  | some x => if x.kind.fresh then s.acceptFresh x failed modes entropyOk else (s.katResult failed modes).startOver

/-! ## Restarts (R422, R479, R480, R545) -/

/-- R479: the reply of the command that asked for a restart is still to be delivered. -/
def State.restartOwed (s : State) : Bool :=
  s.hst.ctx.toList.any (fun c => c.cmds.any (fun x => (x.op = .sysReset || x.op = .sysFwCommit) && (x.phase = .done || x.phase = .sent) && x.status = .ok))

/-- DEVICE_RESTART (R479, R480, R545): the power-down commit, and then the restart; `imageOk` says that a new image passes its start-up checks.
Left open: DESIGN CHOICE, assumption log 22. -/
def State.deviceRestart (s : State) (imageOk : Bool) : State :=
  match s.sys.restart with
  | none => s
  | some k =>
    if s.restartOwed || s.pwr.start.isSome || !(s.pwr.state = .run || s.pwr.state = .idle) then s
    else
      let s := s.powerDownCommit
      let sys := s.sys
      let sys : Sys :=
        if k = 2 && imageOk then { sys with restart := none, fwSlot := 1 - sys.fwSlot, fwVersion := sys.fwNext.getD sys.fwVersion, fwNext := none }
        else { sys with restart := none, fwNext := none }
      let s := State.beginStart { s with sys := sys } (if k = 2 then .firmware else .reset) 0 0 false
      s.modPwr (fun p => { p with state := .run, entry := none, start := p.start.map (fun x => { x with phase := .mem }) })

/-- R422: an armed receiver keeps its last level and its WINDDOWN, and takes a new counter block. -/
def Receiver.afterSteward (r : Receiver) : Receiver :=
  { r with next := 0, blockEnd := 0, nextBlock := none, reserving := false, lastCap := none, sent := [], reported := none }

/-- R422: new counter blocks for armed receivers. -/
def State.reserveRxs (s : State) : State :=
  allRx.foldl (fun s n => if (s.rx n).unit = .off then s else s.rxReserve n) s

/-- STEWARD_RESTART (R422). Left open: DESIGN CHOICE, assumption log 36. -/
def State.stewardRestart (s : State) : State :=
  if s.pwr.start.isSome || s.sys.faultBoot || !(s.pwr.state = .run || s.pwr.state = .idle) then s
  else
    let s := (s.batteryAbort .wrongState).critReads [6, 7, 8, 9]
    let s := s.powerDownCommit
    let crd : Crd := { s.crd.afterDeep with index := [] }
    let hrv : Hrv :=
      { s.hrv with
        rx := s.hrv.rx.map Receiver.afterSteward, flags := 0, counts0 := 0, counts1 := 0, speed := 0xFFFF, fact := none, lateDue := false }
    let fresh : Mem := s.mem.fresh false s.mem.checker
    let mem : Mem := { fresh with map := s.mem.map, retired := s.mem.retired, flags := 0 }
    let keeps (f : TxFrame) : Bool := match f.kind with | .reply _ _ _ => false | .battery => false | _ => true
    let clearL (r : PloughRound) : PloughRound := { r with cleared := true }
    let clearU (r : RangeRound) : RangeRound := { r with cleared := true }
    let s := { s with
      hst := Hst.reset
      sys := { s.sys with fw := none, fwNext := none, restart := none }
      pwr := { s.pwr with state := .run, entry := none, flags := 0, presentVisit := false, visit := s.aon.tick }
      aon := { s.aon with nonce := 0, nonceAt := none }
      mem := mem
      cph := { s.cph with flags := 0, counts0 := 0, counts1 := 0, counts2 := 0 }
      jrn := { s.jrn with held := [], dispatch := 0 }
      seq := { s.seq with stage := none }
      ntc := { s.ntc with queue := s.ntc.queue.filter keeps }
      lf := { s.lf with round := s.lf.round.map clearL }
      uwb := { s.uwb with
        round := s.uwb.round.map clearU
        recs := Vector.replicate 8 none, shown := Vector.replicate 8 none }
      crd := crd
      hrv := hrv }
    let s := ((((s.mount).takeLimits).loadPwr).loadSys).loadMem
    let s := ((s.newBlock.emptyRing).startEntry 4)
    let s := s.startCipher s.cph.failed s.cph.katModes (decide (s.cph.drbg ≠ DrbgState.error))
    let s := ((s.loadLog).loadMembers).loadCrd
    (s.reserveRxs.flushLater).autoBattery

end Sys2Proof.Machine
end

