-- ==== Sys2Proof/Machine/Registers.lean ====
section
/-!
DEFINITION. The register file as hosts see it (R11 to R14): SYS_SNAPSHOT, SYS_REG_READ and SYS_REG_WRITE over every register of every
block, with the access codes, the reserved bits and the locks.
-/
namespace Sys2Proof.Machine

open Sys2Proof

/-- R11, R13: the value of the register at an address, by its block's page; none where the address is reserved. `snap` marks a read
of SYS_SNAPSHOT, whose NTC seconds are those of its own point (R477). Left open: DEDUCED, assumption log 37. -/
def State.regValue (s : State) (snap : Bool) (a : Nat) : Option Word :=
  let o := a % 256
  match a / 256 with
  | 0x00 => sysReg s o
  | 0x01 => pwrReg s o
  | 0x02 => hstReg s o
  | 0x03 => jrnReg s o
  | 0x04 => lfReg s o
  | 0x05 => uhfReg s o
  | 0x06 => uwbReg s o
  | 0x07 => crdReg s o
  | 0x08 => hrvReg s o
  | 0x09 => seqReg s o
  | 0x0A => cphReg s o
  | 0x0B => ntcReg s o snap
  | 0x0C => tmrReg s o
  | 0x0D => memReg s o
  | 0x0E => nvmReg s o
  | _ => none

/-! ## RC registers (R12, R15) -/

/-- R12: what a read of a register does: an RC register is cleared, and a read of NTC_TIME_NS latches the seconds (R355). -/
def State.readEffect (s : State) (a : Nat) : State :=
  if 0x0580 ≤ a && a ≤ 0x05BF then s.modUhf (fun u => { u with lanes := u.lanes.set (Fin.ofNat 64 (a - 0x0580)) 0 })
  else
    match a with
    | 0x0218 => s.modPort .spiA (fun q => { q with err := 0 })
    | 0x0219 => s.modPort .spiB (fun q => { q with err := 0 })
    | 0x021A => s.modPort .uartC (fun q => { q with err := 0 })
    | 0x021B => s.modPort .net (fun q => { q with err := 0 })
    | 0x0409 => s.modLf (fun l => { l with counts := 0 })
    | 0x0508 => s.modUhf (fun u => { u with counts0 := 0 })
    | 0x0509 => s.modUhf (fun u => { u with counts1 := 0 })
    | 0x050A => s.modUhf (fun u => { u with counts2 := 0 })
    | 0x0604 => s.modUwb (fun u => { u with counts0 := 0 })
    | 0x0605 => s.modUwb (fun u => { u with counts1 := 0 })
    | 0x070E => s.modCrd (fun c => { c with counts0 := 0 })
    | 0x070F => s.modCrd (fun c => { c with counts1 := 0 })
    | 0x0807 => s.modHrv (fun h => { h with counts0 := 0 })
    | 0x0808 => s.modHrv (fun h => { h with counts1 := 0 })
    | 0x0914 => s.modSeq 0 (fun q => { q with counts := 0 })
    | 0x0915 => s.modSeq 1 (fun q => { q with counts := 0 })
    | 0x0916 => s.modSeq 2 (fun q => { q with counts := 0 })
    | 0x0A08 => { s with cph := { s.cph with counts0 := 0 } }
    | 0x0A09 => { s with cph := { s.cph with counts1 := 0 } }
    | 0x0A0A => { s with cph := { s.cph with counts2 := 0 } }
    | 0x0B06 => s.modNtc (fun n => { n with latchSec := n.sec })
    | 0x0B0B => s.modNtc (fun n => { n with counts0 := 0 })
    | 0x0B0C => s.modNtc (fun n => { n with counts1 := 0 })
    | 0x0D08 => { s with mem := { s.mem with counts0 := 0 } }
    | 0x0D09 => { s with mem := { s.mem with counts1 := 0 } }
    | 0x0D0A => { s with mem := { s.mem with counts2 := 0 } }
    | 0x0E08 => { s with nvm := { s.nvm with counts0 := 0 } }
    | 0x0E09 => { s with nvm := { s.nvm with counts1 := 0 } }
    | _ => s

/-! ## Writable registers (R12 to R14) -/

/-- The flags of a W1C register (R15): one mask for each block. -/
def w1cMask (a : Nat) : Option Word :=
  match a with
  | 0x0101 => some (ones 0 8)
  | 0x0401 => some (ones 0 6)
  | 0x0501 => some (ones 0 8)
  | 0x0601 => some (ones 0 8)
  | 0x0701 => some (ones 0 7)
  | 0x0801 => some (ones 0 7)
  | 0x0901 => some (ones 0 5)
  | 0x0A01 => some (ones 0 9)
  | 0x0B01 => some (ones 0 6)
  | 0x0C01 => some (ones 0 32)
  | 0x0C02 => some (ones 0 32)
  | 0x0C03 => some (ones 0 32)
  | 0x0D01 => some (ones 0 10)
  | 0x0E01 => some (ones 0 9)
  | _ => none

/-- R12, R15: a W1C register takes a write. -/
def State.w1c (s : State) (a : Nat) (v : Word) : State :=
  match a with
  | 0x0101 => { s with pwr := { s.pwr with flags := w1cWrite s.pwr.flags v } }
  | 0x0401 => s.modLf (fun l => { l with flags := w1cWrite l.flags v })
  | 0x0501 => s.modUhf (fun u => { u with flags := w1cWrite u.flags v })
  | 0x0601 => s.modUwb (fun u => { u with flags := w1cWrite u.flags v })
  | 0x0701 => s.modCrd (fun c => { c with flags := w1cWrite c.flags v })
  | 0x0801 => s.modHrv (fun h => { h with flags := w1cWrite h.flags v })
  | 0x0901 => { s with seq := { s.seq with flags := w1cWrite s.seq.flags v } }
  | 0x0A01 => { s with cph := { s.cph with flags := w1cWrite s.cph.flags v } }
  | 0x0B01 => s.modNtc (fun n => { n with flags := w1cWrite n.flags v })
  | 0x0C01 => { s with tmr := { s.tmr with matched := w1cWrite s.tmr.matched v } }
  | 0x0C02 => { s with tmr := { s.tmr with isOver := w1cWrite s.tmr.isOver v } }
  | 0x0C03 => { s with tmr := { s.tmr with late := w1cWrite s.tmr.late v } }
  | 0x0D01 => { s with mem := { s.mem with flags := w1cWrite s.mem.flags v } }
  | 0x0E01 => { s with nvm := { s.nvm with flags := w1cWrite s.nvm.flags v } }
  | _ => s

/-- The bits of an RC register that are not reserved. -/
def rcMask (a : Nat) : Option Word :=
  if 0x0580 ≤ a && a ≤ 0x05BF then some (ones 0 32)
  else if 0x0914 ≤ a && a ≤ 0x0916 then some (ones 0 40)
  else if [0x0218, 0x0219, 0x021A, 0x021B, 0x0409, 0x0508, 0x0509, 0x050A, 0x0604, 0x0605, 0x070E, 0x070F, 0x0807, 0x0808, 0x0A08,
    0x0A09, 0x0A0A, 0x0B0B, 0x0B0C, 0x0D08, 0x0D09, 0x0D0A, 0x0E08, 0x0E09].contains a then some (ones 0 32)
  else none

/-- The bits of an RW or RWL register that are not reserved. -/
def rwMask (a : Nat) : Option Word :=
  if a = 0x0040 || a = 0x0041 then some (ones 0 16)
  else if a = 0x0043 then some (ones 0 32)
  else if a = 0x0044 then some (ones 0 1)
  else if a = 0x0210 then some (ones 0 12)
  else if a = 0x0211 then some (ones 0 22)
  else if a = 0x0212 then some (ones 0 4)
  else if a = 0x0402 || a = 0x0403 || a = 0x0406 then some (ones 0 40)
  else if a = 0x0404 then some (ones 0 32)
  else if a = 0x0407 then some (ones 0 24)
  else if 0x0410 ≤ a && a ≤ 0x041B then some (ones 0 15)
  else if a = 0x0503 then some (ones 0 6)
  else if a = 0x0504 then some (ones 0 18)
  else if a = 0x0602 then some (ones 0 36)
  else if a = 0x0610 || a = 0x0612 then some (ones 0 32)
  else if a = 0x0611 || a = 0x0613 then some (ones 0 39)
  else if a = 0x0702 then some (ones 0 25)
  else if a = 0x0703 then some (ones 0 40)
  else if a = 0x0705 then some (ones 0 7)
  else if a = 0x0708 then some (ones 0 11)
  else if 0x0710 ≤ a && a ≤ 0x071F then some (ones 0 26)
  else if a = 0x0802 then some (ones 0 30)
  else if a = 0x0803 then some (ones 0 32)
  else if a = 0x0900 then some (ones 0 1)
  else if 0x0918 ≤ a && a ≤ 0x091A then some (ones 0 37)
  else if a = 0x0B02 || a = 0x0B03 then some (ones 0 37)
  else if a = 0x0B04 then some (ones 0 29)
  else if a = 0x0B05 then some (ones 0 32)
  else if a = 0x0B11 then some (ones 0 11)
  else if a = 0x0B12 then some (ones 0 4)
  else if 0x0C20 ≤ a && a ≤ 0x0C3F then some (ones 0 37)
  else if a = 0x0D02 then some (ones 0 17)
  else if a = 0x0E02 then some (ones 0 11)
  else none

/-- R440: MEM_CFG takes a value, stored. -/
def State.memCfgWrite (s : State) (v : Word) : State × Done :=
  if fld v 0 17 < 60 || 86400 < fld v 0 17 then refuse s .badParam
  else sealThen (State.storeReg { s with mem := { s.mem with cfg := v } } 0x0D02 v) []

/-- R451, R468: NVM_CFG takes a value, stored. -/
def State.nvmCfgWrite (s : State) (v : Word) : State × Done :=
  if fld v 0 11 < 10 || 2000 < fld v 0 11 then refuse s .badParam
  else sealThen (State.storeReg { s with nvm := { s.nvm with cfg := v } } 0x0E02 v) []

/-- The NTC configuration register of an offset, numbered as NTC_CONFIG numbers it. -/
def ntcWhich : Nat → Nat
  | 2 => 0 | 3 => 1 | 4 => 2 | 5 => 3 | 0x11 => 4 | _ => 5

/-- R12, R475: an RW or RWL register takes a write whose reserved bits are good, as its block's own opcode would write it. -/
def State.rwWrite (s : State) (n : Fin 8) (c : Cmd) (a : Nat) (v : Word) : State × Done :=
  let o := a % 256
  match a / 256 with
  | 0x00 => if o = 0x44 then s.debugLockWrite c v else s.gpioWrite o v
  | 0x02 => s.hstWrite n c o v
  | 0x04 => s.lfWrite o v
  | 0x05 => s.uhfWrite o v
  | 0x06 => if o = 2 then s.uwbCfgWrite v else s.uwbCalRegWrite (o - 0x10) v
  | 0x07 => if o = 2 || o = 3 then s.crdIdentity o v else s.crdWrite o v
  | 0x08 => s.hrvWrite o v
  | 0x09 => s.seqWrite o v
  | 0x0B => s.ntcWrite (ntcWhich o) v
  | 0x0C => s.configTimer (Fin.ofNat 32 o) v (BitVec.allOnes 40)
  | 0x0D => s.memCfgWrite v
  | _ => s.nvmCfgWrite v

/-- R12 to R14: a write to the register at an address. Left open: DEDUCED, assumption log 37. -/
def State.regWrite (s : State) (n : Fin 8) (c : Cmd) (a : Nat) (v : Word) : State × Done :=
  if (s.regValue true a).isNone then refuse s .badParam
  else
    match w1cMask a, rcMask a, rwMask a with
    | some m, _, _ => if v &&& ~~~m ≠ 0 then refuse s .badParam else okDone (s.w1c a v)
    | none, some m, _ => if v &&& ~~~m ≠ 0 then refuse s .badParam else okDone s
    | none, none, some m => if v &&& ~~~m ≠ 0 then refuse s .badParam else s.rwWrite n c a v
    | none, none, none => refuse s .notPermitted

/-! ## The opcodes (R476, R477) -/

/-- R477: the registers a SYS_SNAPSHOT lists, all at one point. -/
def State.snapshot (s : State) (l : List Nat) : Option Octets :=
  (l.mapM (fun a => s.regValue true a)).map (fun ws => (ws.map wordOctets).flatten)

/-- SYS_SNAPSHOT (R475, R477): nothing is cleared and nothing latched. -/
def sysSnapshot (s : State) (_ : Fin 8) (c : Cmd) : State × Done :=
  let k := p8 c.p 0
  if k = 0 || 32 < k || c.p.length ≠ 1 + 2 * k then refuse s .badParam
  else
    match s.snapshot ((List.range k).map (fun i => p16 c.p (1 + 2 * i))) with
    | some d => okData s d
    | none => refuse s .badParam

/-- R12, R477: consecutive registers, each read at its own point, in increasing address order. Left open: DEDUCED, assumption log 37. -/
def State.readRegs (s : State) : List Nat → State × Octets
  | [] => (s, [])
  | a :: r =>
    let d := wordOctets ((s.regValue false a).getD 0)
    let t := (s.readEffect a).readRegs r
    (t.1, d ++ t.2)

/-- SYS_REG_READ (R12, R13). Left open: DEDUCED, assumption log 37. -/
def sysRegRead (s : State) (_ : Fin 8) (c : Cmd) : State × Done :=
  let a := p16 c.p 0
  let k := p8 c.p 2
  if k = 0 || 32 < k || !((span a k).all (fun r => (s.regValue false r).isSome)) then refuse s .badParam
  else
    let t := s.readRegs (span a k)
    okData t.1 t.2

/-- SYS_REG_WRITE (R12 to R14). Left open: DEDUCED, assumption log 7. -/
def sysRegWrite (s : State) (n : Fin 8) (c : Cmd) : State × Done := s.regWrite n c (p16 c.p 0) (pW c.p 2)

end Sys2Proof.Machine
end

