-- ==== Sys2Proof/Machine/Arbiter.lean ====
section
/-!
DEFINITION. The command arbiter: framing and the checks of R39 to R53, acceptance and the almanac number (R73 to R79), the queues and
the round-robin dispatch of R60 to R62, and what follows every step: commands that can go on go on (`State.settle`).
-/
namespace Sys2Proof.Machine

open Sys2Proof

/-! ## Packets as received (R39 to R50) -/

/-- A packet whose framing is good: its header octets, its parameters, whether PARAM_LEN matches the octets received, whether its
CRC-32C holds, and on the network port the source address and the CMAC. -/
structure InPkt where
  port   : Port
  head   : Octets
  params : Octets
  lenOk  : Bool
  crcOk  : Bool
  src    : BitVec 48
  cmac   : BitVec 64
  deriving DecidableEq, Repr

/-- R49: the context a header names in CONTEXT[2:0]. -/
def InPkt.ctx (k : InPkt) : Fin 8 := Fin.ofNat 8 (p8 k.head 1)

/-- R49: HOST_SEQ. -/
def InPkt.seq (k : InPkt) : BitVec 16 := BitVec.ofNat 16 (p16 k.head 2)

/-- R49: OPCODE. -/
def InPkt.code (k : InPkt) : Nat := p16 k.head 4

/-- R52 step 2: version 1, type 0, and the reserved header bits zero. -/
def InPkt.headOk (k : InPkt) : Bool :=
  p8 k.head 0 = 0x10 && p8 k.head 1 < 8 && p8 k.head 6 < 8 && p24 k.head 9 = 0

/-- What R52 judges of a packet once its integrity and its header are good. -/
def InPkt.hdr (k : InPkt) : Hdr :=
  { port := k.port, ctx := k.ctx, seq := k.seq, retry := pBit k.head 6 0, src := k.src, cmac := k.cmac }

/-- The packet a host command's row stands for (R49): a good version, type, length and CRC. Left open: DEDUCED, assumption log 7. -/
def cmdPkt (op : Op) (h : Hdr) (p : Octets) : InPkt :=
  { port := h.port, head := headerOctets 0x10 h.ctx.val h.seq.toNat op.code (b2n h.retry) p.length, params := p, lenOk := true, crcOk := true,
    src := h.src, cmac := h.cmac }

/-- R45, R53, R54: the slot that protects a reply on the network port: the bound slot, or the one an HST_OPEN names. -/
def State.replyKey (s : State) (n : Fin 8) (code : Nat) (p : Octets) : Nat :=
  if code = Op.hstOpen.code then p8 p 2 else (s.ctx n).keySlot.toNat

/-- R53: a reply outside the queue of pending commands. -/
def State.answerPkt (s : State) (h : Hdr) (high : Nat) (code key : Nat) (st : Status) (jseq : Word) (data : Octets) : State :=
  s.sendReply h.port h.src key
    { kind := .reply, ctx := h.ctx, high := BitVec.ofNat 5 high, seq := h.seq, code := BitVec.ofNat 16 code, trunc := false,
      params := replyParams st.code jseq data, frees := false }

/-- R53: the reply to a packet refused at a step of R52, with CONTEXT and HOST_SEQ copied as received. -/
def State.refusePkt (s : State) (k : InPkt) (st : Status) : State :=
  s.answerPkt k.hdr (p8 k.head 1 / 8) k.code (s.replyKey k.ctx k.code k.params) st 0 []

/-! ## The opcodes -/

/-- The body of an opcode: what it does when it is dispatched. -/
def opBody (o : Op) (s : State) (n : Fin 8) (c : Cmd) : State × Done :=
  match o with
  | .sysNop => sysNop s n c
  | .sysIdentify => sysIdentify s n c
  | .sysStatus => sysStatus s n c
  | .sysSnapshot => sysSnapshot s n c
  | .sysReset => sysReset s n c
  | .sysSelfTest => sysSelfTest s n c
  | .sysFwBegin => sysFwBegin s n c
  | .sysFwChunk => sysFwChunk s n c
  | .sysFwCommit => sysFwCommit s n c
  | .sysRegRead => sysRegRead s n c
  | .sysRegWrite => sysRegWrite s n c
  | .sysTamperConfig => sysTamperConfig s n c
  | .hstOpen => hstOpen s n c
  | .hstClose => hstClose s n c
  | .hstSetRole => hstSetRole s n c
  | .hstEventRead => hstEventRead s n c
  | .hstEventMask => hstEventMask s n c
  | .hstClaim => hstClaim s n c
  | .hstUnclaim => hstUnclaim s n c
  | .jrnRead => jrnRead s n c
  | .jrnStatus => jrnStatus s n c
  | .jrnLookup => jrnLookup s n c
  | .jrnMark => jrnMark s n c
  | .pwrEnter => pwrEnter s n c
  | .pwrWakeConfig => pwrWakeConfig s n c
  | .pwrResidencyRead => pwrResidencyRead s n c
  | .pwrWakeRecordRead => pwrWakeRecordRead s n c
  | .pwrProfile => pwrProfile s n c
  | .lfChannelConfig => lfChannelConfig s n c
  | .lfTune => lfTune s n c
  | .lfDiagnose => lfDiagnose s n c
  | .lfPollStart => lfPollStart s n c
  | .lfPollStop => lfPollStop s n c
  | .lfFieldMapLoad => lfFieldMapLoad s n c
  | .lfSend => lfSend s n c
  | .uhfChannelPlan => uhfChannelPlan s n c
  | .uhfEnable => uhfEnable s n c
  | .uhfDisable => uhfDisable s n c
  | .uhfCapture => uhfCapture s n c
  | .uhfCalibrate => uhfCalibrate s n c
  | .uhfVigilConfig => uhfVigilConfig s n c
  | .uwbConfig => uwbConfig s n c
  | .uwbSessionOpen => uwbSessionOpen s n c
  | .uwbSessionClose => uwbSessionClose s n c
  | .uwbRangeNow => uwbRangeNow s n c
  | .uwbCirRead => uwbCirRead s n c
  | .uwbCalibrate => uwbCalibrate s n c
  | .uwbRadioState => uwbRadioState s n c
  | .radioCoexConfig => radioCoexConfig s n c
  | .crdRosterWrite => crdRosterWrite s n c
  | .crdRosterRead => crdRosterRead s n c
  | .crdRevoke => crdRevoke s n c
  | .crdEpochAdvance => crdEpochAdvance s n c
  | .crdTicketLoad => crdTicketLoad s n c
  | .crdLockoutStatus => crdLockoutStatus s n c
  | .crdLockoutClear => crdLockoutClear s n c
  | .crdBatteryChallenge => crdBatteryChallenge s n c
  | .crdRoundResultRead => crdRoundResultRead s n c
  | .hrvReceiverConfig => hrvReceiverConfig s n c
  | .hrvArm => hrvArm s n c
  | .hrvLock => hrvLock s n c
  | .hrvStatus => hrvStatus s n c
  | .hrvActuate => hrvActuate s n c
  | .hrvPolicy => hrvPolicy s n c
  | .seqLoad => seqLoad s n c
  | .seqStart => seqStart s n c
  | .seqStop => seqStop s n c
  | .seqStatus => seqStatus s n c
  | .cphKeyWrite => cphKeyWrite s n c
  | .cphKeyErase => cphKeyErase s n c
  | .cphKeyDerive => cphKeyDerive s n c
  | .cphRun => cphRun s n c
  | .cphCtxSave => cphCtxSave s n c
  | .cphCtxRestore => cphCtxRestore s n c
  | .cphRandom => cphRandom s n c
  | .cphKeyInfo => cphKeyInfo s n c
  | .ntcConfig => ntcConfig s n c
  | .ntcRead => ntcRead s n c
  | .ntcAdjust => ntcAdjust s n c
  | .ntcStep => ntcStep s n c
  | .ntcTriggerConfig => ntcTriggerConfig s n c
  | .ntcCaptureRead => ntcCaptureRead s n c
  | .ntcCalendarAttest => ntcCalendarAttest s n c
  | .ntcCalendarRead => ntcCalendarRead s n c
  | .tmrConfig => tmrConfig s n c
  | .tmrSetCompare => tmrSetCompare s n c
  | .tmrRead => tmrRead s n c
  | .tmrReadPair => tmrReadPair s n c
  | .tmrControl => tmrControl s n c
  | .tmrSnapshotAll => tmrSnapshotAll s n c
  | .memRead => memRead s n c
  | .memWrite => memWrite s n c
  | .memScrub => memScrub s n c
  | .memFaultLogRead => memFaultLogRead s n c
  | .memRetire => memRetire s n c
  | .memErrorInject => memErrorInject s n c
  | .nvmRead => nvmRead s n c
  | .nvmWrite => nvmWrite s n c
  | .nvmCommit => nvmCommit s n c
  | .nvmPassword => nvmPassword s n c
  | .nvmTallyIncrement => nvmTallyIncrement s n c
  | .nvmTallyRead => nvmTallyRead s n c
  | .nvmPatrol => nvmPatrol s n c
  | .nvmRegulatoryLock => nvmRegulatoryLock s n c
  | .nvmStatus => nvmStatus s n c

/-! ## Acceptance (R52, R73 to R79, R86) -/

/-- R79: the parameter octets as PARAM_CRC covers them. -/
def digested (op : Op) (p : Octets) : Octets :=
  match op with
  | .cphKeyWrite => blankOut p 10 1024
  | .cphKeyDerive => blankOut p 12 1024
  | .cphRun => blankOut p 12 1024
  | .nvmPassword => blankOut p 3 16
  | .hstSetRole => blankOut p 1 8
  | .crdLockoutClear => blankOut p 0 8
  | .memWrite => blankOut p 6 1024
  | .nvmWrite => blankOut p 5 1024
  | _ => p

/-- R75: the entry of a command at acceptance, without its number. -/
def State.newEntry (s : State) (op : Op) (h : Hdr) (role : Role) (p : Octets) : Entry :=
  { Entry.none with
    stamp := s.aon.calendar
    opcode := BitVec.ofNat 16 op.code
    hostSeq := h.seq
    ctx := BitVec.ofNat 3 h.ctx.val
    role := BitVec.ofNat 3 role.code
    port := BitVec.ofNat 2 (portIx h.port).val
    status := 0xFFFF
    pending := true
    security := op.security
    retry := h.retry
    crc := crc32c (digested op p) }

/-- R73, R77: takes the next number for an entry, where a number is at hand, and writes it to the working ring. -/
def State.number (s : State) (e : Entry) : State × Entry :=
  if s.jrn.exhausted || !s.jrn.ready then (s, Entry.none)
  else
    let e := { e with seq := BitVec.ofNat 40 s.jrn.next }
    let s : State := { s with jrn := { s.jrn with next := s.jrn.next + 1 } }
    ((s.ringPut e).reserve, e)

/-- R123: an accepted command of this kind is activity. -/
def Op.activity : Op → Bool
  | .hrvArm | .hrvLock | .hrvActuate | .hrvPolicy | .lfPollStart => true
  | _ => false

/-- R86: a context takes a host sequence into its duplicate filter of 32. -/
def Ctx.remember (x : Ctx) (seq : BitVec 16) (jseq now : Word) : Ctx :=
  let e : Seen := { seq := seq, jseq := jseq, status := 0xFFFF }
  { x with
    lastSeq := seq
    renewed := now
    filter := (x.filter ++ [e]).drop (x.filter.length - 31)
    filterLost := x.filterLost - 1 }

/-- R60: a reply that still waits at a port when its context is opened anew frees no command of the new session.
Left open: DESIGN CHOICE, assumption log 15. -/
def State.orphan (s : State) (n : Fin 8) : State :=
  let loose (p : Packet) : Packet := if p.isReplyOf n then { p with frees := false } else p
  let looseTx (f : TxFrame) : TxFrame :=
    match f.kind with
    | .reply c q _ => if c = n then { f with kind := .reply c q false } else f
    | _ => f
  let port (q : PortState) : PortState := { q with out := q.out.map loose, cur := q.cur.map loose }
  let s : State := { s with
    hst := { s.hst with ports := s.hst.ports.map port }
    ntc := { s.ntc with queue := s.ntc.queue.map looseTx } }
  s.modCtx n (fun x => { x with cmds := x.cmds.filter (fun c => decide (c.phase ≠ .sent)) })

/-- R62: the next dispatch index. -/
def State.nextDispatch (s : State) : State := { s with jrn := { s.jrn with dispatch := s.jrn.dispatch + 1 } }

/-- R54: an HST_OPEN for a context that is open on another port: it is journaled and answered outside the context.
Left open: DESIGN CHOICE, assumption log 15. -/
def State.foreignOpen (s : State) (h : Hdr) (c : Cmd) : State :=
  let st : Status := if openParams c h.ctx then .busy else .badParam
  let c := { c with entry := { c.entry with dispatch := s.jrn.dispatch } }
  let s := (s.nextDispatch).journalDone h.ctx c st false
  s.answerPkt h 0 c.op.code c.key.toNat st c.entry.seq []

/-- R52: the command is accepted: its number, its entry, its place in the filter and in its context's queue.
Left open: DESIGN CHOICE, assumption log 15. -/
def State.accept (s : State) (op : Op) (h : Hdr) (p : Octets) (obs : Obs) : State :=
  let n := h.ctx
  let x := s.ctx n
  let mine := x.isOpen && x.port = h.port
  let role := x.roleNow
  let slot := s.jrn.head
  let key := BitVec.ofNat 8 (s.replyKey n op.code p)
  let t := if op.journaled then s.number (s.newEntry op h role p) else (s, Entry.none)
  let c : Cmd :=
    { op := op, seq := h.seq, retry := h.retry, role := role, port := h.port, dst := h.src, key := key, entry := t.2, slot := slot,
      nvAt := none, p := p, obs := obs, phase := .waiting, status := .ok, data := [], dropped := false }
  let s := t.1.visitOver
  let s := if op.activity then s.modLf (fun l => { l with idleSince := s.aon.calendar }) else s
  if op = .hstOpen && x.isOpen && !mine then s.foreignOpen h c
  else
    let s := if op = .hstClose || (op = .hstOpen && mine && openParams c n) then s.sessionCut n else s
    let s := if op = .hstOpen && !x.isOpen then s.orphan n else s
    s.modCtx n (fun y =>
      let y := y.remember h.seq t.2.seq s.aon.tick
      { y with cmds := y.cmds ++ [c] })

/-- R77: a command of a context waits for a number. -/
def State.heldOf (s : State) (n : Fin 8) : Bool :=
  s.jrn.held.any (fun h => match h with | .command _ g _ _ => decide (g.ctx = n) | _ => false)

/-- R53, R86, R421: the answer of the duplicate check to a repeat. -/
def State.repeated (s : State) (h : Hdr) (code : Nat) (p : Octets) (e : Seen) : State :=
  let x := s.ctx h.ctx
  let pend := x.cmds.any (fun c => c.seq = h.seq)
  if pend then s
  else
    let data := match x.kept.reverse.find? (fun k => k.seq = h.seq) with | some k => k.data | none => []
    s.answerPkt h 0 code (s.replyKey h.ctx code p) .duplicate e.jseq (o16 e.status.toNat ++ data)

/-- R86, R421: what the duplicate check finds of a host sequence: its place in the filter, or the answer of an incomplete filter. -/
def Ctx.seen? (x : Ctx) (seq : BitVec 16) : Option Seen :=
  match x.filter.find? (fun e => e.seq = seq) with
  | some e => some e
  | none =>
    if x.filterLost ≠ 0 && (x.lastSeq - seq).toNat < 32 then some { seq := seq, jseq := 0, status := BitVec.ofNat 16 Status.poisoned.code }
    else none

/-- R52 steps 6 to 10, and acceptance. `again` says that the command waited for a number (R77). -/
def State.takeIn (s : State) (h : Hdr) (code : Nat) (p : Octets) (obs : Obs) (again : Bool) : State :=
  let x := s.ctx h.ctx
  let mine := x.isOpen && x.port = h.port
  let refusal (st : Status) : State := s.answerPkt h 0 code (s.replyKey h.ctx code p) st 0 []
  match (if mine then x.seen? h.seq else none) with
  | some e => s.repeated h code p e
  | none =>
    match Op.ofCode code with
    | none => refusal .badOpcode
    | some op =>
      if !(x.roleNow.may op) then refusal .notPermitted
      else if !(op.lenOk p) then refusal .badLength
      else if 4 ≤ x.cmds.length && !(op = .hstClose || (op = .hstOpen && mine)) then refusal .queueFull
      else
        let s := if op.journaled then s.openBlock else s
        if !again && (s.heldOf h.ctx || (op.journaled && !s.jrn.exhausted && !s.jrn.ready)) then
          { s with jrn := { s.jrn with held := s.jrn.held ++ [.command op h p obs] } }
        else s.accept op h p obs

/-! ## The checks of a packet (R46, R47, R52) -/

/-- R52 step 4: SYS_IDENTIFY and SYS_STATUS in the fault boot state, outside every context. -/
def State.bootAnswer (s : State) (k : InPkt) : State :=
  let d : Octets := if k.code = Op.sysIdentify.code then s.identity else s.statusData
  s.answerPkt k.hdr 0 k.code 0 .ok 0 d

/-- R52 steps 2 to 5, and then the rest. -/
def State.check (s : State) (k : InPkt) (obs : Obs) : State :=
  let x := s.ctx k.ctx
  let open_ := k.code = Op.hstOpen.code
  if !k.headOk then s.refusePkt k .badFrame
  else if 1024 < k.params.length || !k.lenOk then s.refusePkt k .badLength
  else if s.sys.faultBoot then
    (if k.code = Op.sysIdentify.code || k.code = Op.sysStatus.code then s.bootAnswer k else s.refusePkt k .wrongState)
  else if !open_ && !(x.isOpen && x.port = k.port) then s.refusePkt k .notPermitted
  else s.takeIn k.hdr k.code k.params obs false

/-- R45, R311, R315: whether a packet's CMAC verifies under a slot, and the state after the attempt. -/
def State.macOk (s : State) (k : InPkt) (key : Nat) (obs : Obs) : State × Bool :=
  if !s.canSign key then (s, false)
  else
    match s.latch key with
    | .key v =>
      if obs = .glitch then (s.cipherFault, false) else (s, decide (cmac64 v (k.head ++ k.params) = k.cmac))
    | _ => (s.afterLatch key, false)

/-- R46: the window of host sequences. -/
def Ctx.inWindow (x : Ctx) (seq : BitVec 16) : Bool :=
  let d := (seq - x.lastSeq).toNat
  1 ≤ d && d ≤ 32767

/-- R46: a network command that is dropped and counted in CMAC_FAIL. -/
def State.cmacFail (s : State) : State := s.portErr .net 0

/-- R46, R47, R54: the first step of R52 on the network port. Left open: DESIGN CHOICE, assumption log 8. -/
def State.netCheck (s : State) (k : InPkt) (obs : Obs) : State :=
  let x := s.ctx k.ctx
  let bound := x.isOpen && x.port = .net
  let isOpen := k.code = Op.hstOpen.code
  let key := s.replyKey k.ctx k.code k.params
  if isOpen then
    if bound && key ≠ x.keySlot.toNat then s.cmacFail
    else
      let t := s.macOk k key obs
      if !t.2 then t.1.cmacFail
      else if bound && !(x.inWindow k.seq) && (x.seen? k.seq).isNone then
        t.1.answerPkt k.hdr 0 k.code key .wrongState 0 (o16 x.lastSeq.toNat)
      else if !k.crcOk then t.1.refusePkt k .badFrame
      else t.1.check k obs
  else if !bound || x.mac ≠ k.src then s.cmacFail
  else
    let t := s.macOk k key obs
    if !t.2 then t.1.cmacFail
    else if !(x.inWindow k.seq) && (x.seen? k.seq).isNone then t.1.portErr .net 16
    else if !k.crcOk then t.1.refusePkt k .badFrame
    else t.1.check k obs

/-- A packet arrives. Outside RUN and IDLE, during a start, and without the port's supply, no packet is heard (R403, R406, R509). -/
def State.arrive (s : State) (k : InPkt) (obs : Obs) : State :=
  if !s.hears k.port then s
  else match k.port with
    | .net => s.netCheck k obs
    | p => if k.crcOk then s.check k obs else (s.portErr p 0).refusePkt k .badFrame

/-! ## Framing (R41, R44, R45) -/

/-- The packet that starts at a header on a wired port, and the octets after it; none where it is incomplete.
Left open: DESIGN CHOICE, assumption log 8. -/
def wiredPkt (p : Port) (os : Octets) : Option (InPkt × Octets) :=
  let len := p16 os 7
  if os.length < 16 + len then none
  else
    let body := os.take (12 + len)
    let k : InPkt :=
      { port := p, head := os.take 12, params := (os.drop 12).take len, lenOk := true,
        crcOk := pRun os (12 + len) 4 = leOf 4 (crc32c body).toNat, src := 0, cmac := 0 }
    some (k, os.drop (16 + len))

/-- R44: Consistent Overhead Byte Stuffing, undone. Left open: DESIGN CHOICE and PRESUMED, assumption log 8, 12. -/
def cobsDecode : Nat → Octets → Option Octets
  | _, [] => some []
  | 0, _ => none
  | fuel + 1, c :: r =>
    let k := c.toNat - 1
    if c = 0 || r.length < k || (r.take k).contains 0 then none
    else
      match r.drop k with
      | [] => some (r.take k)
      | rest => (cobsDecode fuel rest).map (fun t => r.take k ++ (if c = 0xFF then [] else [0]) ++ t)

/-- R44: a frame on UART-C, without its delimiter. Left open: DESIGN CHOICE, assumption log 8. -/
def State.uartOctets (s : State) (os : Octets) (obs : Obs) : State :=
  if !s.hears .uartC then s
  else
    match cobsDecode os.length os with
    | none => s.portErr .uartC 16
    | some d =>
      if 1041 < d.length || d.length < 17 || d.headD 0 ≠ 0xA7 then s.portErr .uartC 16
      else
        let body := (d.drop 1).take (d.length - 5)
        let params := body.drop 12
        let k : InPkt :=
          { port := .uartC, head := body.take 12, params := params, lenOk := params.length = p16 body 7,
            crcOk := d.drop (d.length - 4) = leOf 4 (crc32c body).toNat, src := 0, cmac := 0 }
        s.arrive k obs

/-- R45: an ACP command in an Ethernet payload; octets after the CRC are padding. Left open: DESIGN CHOICE, assumption log 8. -/
def State.netOctets (s : State) (f : Frame) (obs : Obs) : State :=
  let os := f.payload
  let len := p16 os 7
  if !s.hears .net then s
  else if os.length < 20 + len then s.cmacFail
  else
    let k : InPkt :=
      { port := .net, head := os.take 12, params := (os.drop 12).take len, lenOk := true,
        crcOk := pRun os (20 + len) 4 = leOf 4 (crc32c (os.take (20 + len))).toNat, src := f.src,
        cmac := BitVec.ofNat 64 (p64 os (12 + len)) }
    s.arrive k obs

/-- R48, R350: a frame is received: the filter and the checks of the port, and then the sorting by VER_TYPE. A PTP message has a row of its
own for each type; a frame of its EtherType that is none of them changes nothing here. Left open: DEDUCED, assumption log 33. -/
def State.netFrame (s : State) (f : Frame) (obs : Obs) : State :=
  if !s.hears .net then s
  else
    let t := s.acceptFrame f
    if !t.2 || f.ether ≠ 0x88B5 then t.1
    else if f.dst ≠ Config.mac then t.1.rxDropped
    else
      match p8 f.payload 0 with
      | 0x10 => t.1.netOctets f obs
      | 0x13 => if p16 f.payload 4 = 2 then t.1.speedReport f else t.1.rxDropped
      | 0x14 => t.1.batteryPacketIn f (decide (obs = .glitch))
      | _ => t.1.rxDropped

/-- BATTERY_RESPONSE (R237, R238): a frame is received, and `others` before what it starts is decided. Of these only RESPONSEs of the same
attempt from another source address matter here; every other frame has a row of its own. -/
def State.batteryFrames (s : State) (f : Frame) (others : List Frame) (fault : Bool) : State :=
  let alone := s.netFrame f (if fault then .glitch else .none)
  match s.crd.battery with
  | some b => match b.phase with
    | .waiting rv =>
      if s.hears .net && s.isResponse b rv f && (s.rivals b rv f others).isEmpty = false then s.batteryMultiple b rv f (s.rivals b rv f others) fault
      else alone
    | _ => alone
  | none => alone

/-! ## Dispatch (R60 to R62, R82) -/

/-- A wait whose command has yet to take its effect; the later commands of its context wait behind it (R62). -/
def Wait.holds : Wait → Bool
  | .lfApply | .uhfApply | .uwbApply | .coexApply _ | .work _ => true
  | _ => false

/-- R82: the status a security entry is stored with when its command waits for the seal of its own change. -/
def Wait.sealStatus : Wait → Option Status
  | .seal _ st _ => some st
  | .commit _ _ => some .ok
  | .ramp _ => some .ok
  | .period _ => some .ok
  | .periodEnd _ => some .ok
  | _ => none

/-- R58, R61, R62: the command of a context that may be dispatched now. Left open: DESIGN CHOICE, assumption log 38. -/
def Ctx.next? (x : Ctx) : Option Cmd :=
  match x.cmds.find? Cmd.isWaiting with
  | none => none
  | some c =>
    let whole := c.op = .hstOpen || c.op = .hstClose
    let busy := x.cmds.any (fun d => match d.wait? with | some w => whole || w.holds | none => false)
    if busy then none else some c

/-- R61: the contexts in the order the arbiter serves them. Left open: DESIGN CHOICE, assumption log 38. -/
def Hst.order (h : Hst) : List (Fin 8) := allCtx.map (fun k => h.rrNext + k)

/-- R61: the next command to dispatch. Left open: DESIGN CHOICE, assumption log 38. -/
def State.pick (s : State) : Option (Fin 8 × Cmd) :=
  s.hst.order.findSome? (fun n => ((s.ctx n).next?).map (fun c => (n, c)))

/-- R406, R409: whether work between rounds can run: in RUN and IDLE, with no start under way. -/
def State.working (s : State) : Bool :=
  (s.pwr.state = .run || s.pwr.state = .idle) && s.pwr.start.isNone && !s.sys.faultBoot

/-- Whether the gap that a command's work needs is there. -/
def State.gate (s : State) (o : Op) : Bool :=
  s.working &&
  (match o with
   | .lfTune | .lfDiagnose => s.lfGap
   | .lfSend => s.lfGap && s.lf.known
   | .uhfCalibrate => !s.fullRound
   | .uhfVigilConfig => s.lf.round.isNone || s.fullRound
   | _ => s.uwb.round.isNone)

/-- The work of a command between rounds, and its result. -/
def State.doWork (s : State) (c : Cmd) (obs : Obs) : State × Status × Octets :=
  match c.op with
  | .lfTune => let t := s.tuneWork c.p obs; (t.1, .ok, t.2)
  | .lfDiagnose => let t := s.diagnoseWork c.p obs; (t.1, .ok, t.2)
  | .lfSend => let t := s.sendWork c.p obs; (t.1, t.2, [])
  | .uhfCalibrate =>
    if s.uhf.unit ≠ .on then (s, .wrongState, [])
    else
      let t := s.uhfCalibrated (calObs obs).1 (calObs obs).2
      (t, .ok, wordOctets t.uhf.calStatus)
  | .uhfVigilConfig => (s.vigilWork c.p obs, .ok, [])
  | .uwbCalibrate => s.uwbCalWork obs
  | _ => s.selfTest (p16 c.p 0) obs

/-- A command in flight whose gap is there does its work and completes. -/
def State.workOf (s : State) (n : Fin 8) (c : Cmd) : State :=
  match c.wait? with
  | some (.work obs) =>
    if s.gate c.op then
      let t := s.doWork c obs
      t.1.finish n c.seq t.2.1 t.2.2
    else s
  | _ => s

/-- Every command whose work can run runs it. Left open: DESIGN CHOICE, assumption log 4. -/
def State.works (s : State) : State :=
  allCtx.foldl (fun s n => (s.ctx n).cmds.foldl (fun s c => s.workOf n c) s) s

/-- R76, R78: DISPATCH of a command's entry. -/
def State.stampDispatch (s : State) (n : Fin 8) (c : Cmd) : State × Cmd :=
  let e : Entry := { c.entry with dispatch := s.jrn.dispatch }
  let d : Cmd := if c.entry.seq = 0 then c else { c with entry := e }
  let s := if c.entry.seq = 0 then s.nextDispatch else (s.nextDispatch).ringUpdate c.slot e
  (s.modCtx n (fun x => x.modCmd c.seq (fun y => { y with entry := d.entry })), d)

/-- R82, R451: a command waits for the seal of its change: its security entry joins the same buffer, and a commit starts. -/
def State.sealStart (s : State) (n : Fin 8) (c : Cmd) (w : Wait) : State :=
  match w.sealStatus with
  | none => s
  | some st =>
    let s := if c.entry.seq ≠ 0 && c.entry.security then s.secure n c (c.entry.complete st false) else s
    { s with nvm := s.nvm.startCommit }

/-- R62: one command is dispatched and takes effect. Left open: DESIGN CHOICE, assumption log 38. -/
def State.dispatch (s : State) (n : Fin 8) (c : Cmd) : State :=
  let s : State := { s with hst := { s.hst with rrNext := n + 1 } }
  let t := s.stampDispatch n c
  let r := opBody c.op t.1 n t.2
  match r.2 with
  | .reply st data => r.1.finish n c.seq st data
  | .await w =>
    let s := r.1.modCtx n (fun x => x.modCmd c.seq (fun y => { y with phase := .running w }))
    let s := s.sealStart n t.2 w
    s.works

/-- R59: dispatch has stopped: a command not dispatched is refused with WRONG_STATE. -/
def State.refuseWaiting (s : State) : State :=
  allCtx.foldl (fun s n => ((s.ctx n).cmds.filter Cmd.isWaiting).foldl (fun s c => s.finish n c.seq .wrongState []) s) s

/-- R60, R61: dispatches as long as a command and a slot are free. Left open: DESIGN CHOICE, assumption log 4, 38. -/
def State.dispatchAll (s : State) : Nat → State
  | 0 => s
  | fuel + 1 =>
    if !s.working then s
    else if !s.pwr.admits then s.refuseWaiting
    else if 16 ≤ s.flights then s
    else
      match s.pick with
      | some (n, c) => (s.dispatch n c).dispatchAll fuel
      | none => s

/-! ## After every step -/

/-- R77: what waited for a number goes on, in order. Left open: DESIGN CHOICE, assumption log 4. -/
def State.serveHeld (s : State) : Nat → State
  | 0 => s
  | fuel + 1 =>
    match s.jrn.held with
    | [] => s
    | x :: r =>
      let s := s.openBlock
      if !(s.jrn.ready || s.jrn.exhausted) then s
      else
        let s : State := { s with jrn := { s.jrn with held := r } }
        let s := match x with
          | .internal o q crc t => if s.jrn.exhausted then s else s.putInternal o q crc t
          | .command op h p obs => s.takeIn h op.code p obs true
        s.serveHeld fuel

/-- R82, R451: with nothing left to seal every ticket is sealed, and the replies that waited for their seal go; while anything is left they
wait for the end of its commit. Left open: DESIGN CHOICE, assumption log 4, 11. -/
def State.sealed (s : State) : State :=
  if s.nvm.bufPages.isEmpty && s.nvm.backlog.isEmpty then s.sealReplies s.nvm.ticket true else s

/-- What follows every step: numbers, programs that ran off their end, work between rounds, dispatch, and the replies that are ready.
Left open: DESIGN CHOICE, assumption log 4. -/
def State.settle (s : State) : State :=
  let s := s.serveHeld s.jrn.held.length
  let s := ((s.runOff 0).runOff 1).runOff 2
  let s := s.works.sealed
  let s := s.dispatchAll 64
  s.sealed.releaseAll

/-- R41: the octets of one chip-select assertion: a packet starts at an octet 0xA7, and others between packets are ignored. Each packet is
carried as far as it goes before the next arrives. Left open: DESIGN CHOICE, assumption log 8. -/
def State.spiOctets (s : State) (p : Port) (os : Octets) (obs : Obs) : Nat → State
  | 0 => s.settle
  | fuel + 1 =>
    match os.dropWhile (fun o => o ≠ 0xA7) with
    | [] => s.settle
    | _ :: r =>
      match wiredPkt p r with
      | some (k, []) => (s.arrive k obs).settle
      | some (k, rest) => (s.arrive k obs).settle.spiOctets p rest obs fuel
      | none => s.settle

/-- What a meaning answers. -/
abbrev Result : Type := Host.Outcome State Fault Refusal

/-- A host command arrives and is carried as far as it goes. Left open: DEDUCED and DESIGN CHOICE, assumption log 4, 7. -/
def State.command (s : State) (op : Op) (h : Hdr) (p : Octets) (obs : Obs) : State := (s.arrive (cmdPkt op h p) obs).settle

end Sys2Proof.Machine
end

