-- ==== Sys2Proof/Machine/Events.lean ====
section
/-!
DEFINITION. Events that concern more than one tract: frames on the segment, the plough's unit, the always-on tick, and the limits and
changes that wait for a headland.
-/
namespace Sys2Proof.Machine

open Sys2Proof

/-- FRAME_TRANSMITTED (R293, R351, R357, R358): the FCS of the frame on the wire has been sent, at `t` of the local clock. -/
def State.frameSent (s : State) (t : Int) : State :=
  match s.ntc.onWire with
  | none => s
  | some f =>
    let s := s.modNtc (fun n => { n with onWire := none })
    let s := match f.kind with
      | .sheaf n => s.sheafOut n
      | .reply n q frees => if frees then s.unpend n q else s
      | k => s.ptpSent k t
    s.phyRestart

/-- R63, R116, R120, R121: the plough's unit reaches ON, with a new grid, or OFF, once no round runs. -/
def State.ploughReach (s : State) : State :=
  match s.lf.unit.reach with
  | some (u, true) =>
    (s.modLf (fun l => { l with unit := u, base := l.baseNext, origin := s.aon.tick })).unitReached .plough true
  | some (u, false) =>
    if s.lf.round.isSome then s else (s.modLf (fun l => { l with unit := u })).unitReached .plough false
  | none => s

/-- UNIT_REACHES_STATE (R63, R64). -/
def State.unitReach (s : State) (u : UnitId) (ok : Bool) (temp : Int) : State :=
  match u with
  | .uhf => s.uhfReach ok temp
  | .plough => s.ploughReach
  | .seq n => s.seqReach n
  | .rx n => s.rxReach n

/-- ALWAYS_ON_TICK (R8, R353, R370, R381, R413): the always-on tick count, the residency, the calendar, the local clock and the timers. The
always-on domain is without power in OFF. -/
def State.tickOn (s : State) : State :=
  if s.pwr.state = .off && s.pwr.start.isNone then s
  else
    let fine := s.pwr.xoOk && (s.pwr.state = .run || s.pwr.state = .idle)
    let aon := s.aon.calTick (signed 11 (fld s.ntc.calCfg 0 11))
    let s : State := { s with aon := { aon with tick := aon.tick + 1 } }
    let s := s.modPwr (fun p => (p.tickResidency).tickRails s.aon.tick)
    let s := s.modNtc (fun n => n.tick fine)
    s.timerTick.rangeBusy

/-- R451: the store is powered in RUN and IDLE. -/
def State.storeOn (s : State) : Bool := s.pwr.state = .run || s.pwr.state = .idle

/-- LF_CONFIG_APPLY (R122). Left open: DESIGN CHOICE, assumption log 28. -/
def State.lfApplyNow (s : State) : State := if s.lf.round.isSome then s else s.lfApplyAll

/-- UHF_PLAN_APPLY (R141). Left open: DESIGN CHOICE, assumption log 28. -/
def State.planNow (s : State) : State := if s.fullRound then s else s.planApply

/-- REGULATORY_LIMITS_APPLY (R127): stricter limits reach a tract between its rounds: 0 LF, 1 UHF, 2 UWB. Left open: DESIGN CHOICE, assumption log 28. -/
def State.limitsNow (s : State) (tract : Fin 3) : State :=
  if tract = 0 then (if s.lf.round.isSome then s else s.lfRegulate)
  else if tract = 1 then (if s.fullRound then s else s.uhfRegulate)
  else s.uwbRegulate

/-- XO32_STABLE (R527). -/
def State.xo32Now (s : State) : State := s.modPwr (fun p => { p with xo32 := true })

/-- TEMPERATURE_DRIFT (R159, R162, R176). -/
def State.drift (s : State) (temp : Int) (uhfOk vigilOk : Bool) (c : UwbCal) : State := (s.uhfDrift temp uhfOk vigilOk).uwbDrift temp c

/-- PW_BACKOFF_END (R462). -/
def State.pwBackoffEnd (s : State) (n : Fin 8) : State := s.modCtx n (fun c => { c with pwTries := c.pwTries.expire s.aon.tick })

/-- HALT (R296): the round ends, and the sequencer stops. -/
def State.haltInstr (s : State) (n : Fin 3) : State := (s.haltSeq n).endRound n false

end Sys2Proof.Machine
end

