-- ==== Sys2Proof/Machine/Arrivals.lean ====
section
/-!
DEFINITION. The meaning of each event at the ports: octets, frames, PTP messages and what the device sends.
-/
namespace Sys2Proof.Machine

open Sys2Proof

/-- SPI_PACKET (R41). -/
def execSpiPacket (port : Port) (os : Octets) (obs : Obs) (s : State) : Result := .next (if port = .uartC || port = .net then s.settle else s.spiOctets port os obs os.length)

/-- CHIP_SELECT_FALL (R40). -/
def execChipSelectFall (port : Port) (sckHigh : Bool) (s : State) : Result := .next (State.settle (s.selectFall port sckHigh))

/-- CHIP_SELECT_RISE (R41). -/
def execChipSelectRise (port : Port) (partOctets : Nat) (s : State) : Result := .next (State.settle (s.selectRise port partOctets))

/-- UART_FRAME (R44). -/
def execUartFrame (os : Octets) (obs : Obs) (s : State) : Result := .next (State.settle (s.uartOctets os obs))

/-- UART_START_BIT (R401). -/
def execUartStartBit (s : State) : Result := .next (State.settle (s.uartStartBit))

/-- NETWORK_FRAME (R350). -/
def execNetworkFrame (f : Frame) (s : State) : Result := .next (State.settle (s.netFrame f .none))

/-- NETWORK_COMMAND (R46). -/
def execNetworkCommand (f : Frame) (obs : Obs) (s : State) : Result := .next (State.settle (s.netFrame f obs))

/-- SPEED_REPORT (R260). -/
def execSpeedReport (f : Frame) (s : State) : Result := .next (State.settle (s.netFrame f .none))

/-- BATTERY_RESPONSE (R237). -/
def execBatteryResponse (f : Frame) (others : List Frame) (fault : Bool) (s : State) : Result := .next (State.settle (s.batteryFrames f others fault))

/-- ANNOUNCE (R357). -/
def execAnnounce (m : PtpMsg) (s : State) : Result := .next (State.settle (if s.hears .net then s.modNtc (fun n => n.hearAnnounce m s.aon.tick) else s))

/-- SYNC (R358). -/
def execSync (m : PtpMsg) (t2 : Int) (s : State) : Result := .next (State.settle (if s.hears .net then s.modNtc (fun n => n.hearSync m t2) else s))

/-- FOLLOW_UP (R358). -/
def execFollowUp (m : PtpMsg) (s : State) : Result := .next (State.settle (if s.hears .net then s.hearFollowUp m else s))

/-- DELAY_REQ (R357). -/
def execDelayReq (m : PtpMsg) (t4 : Int) (s : State) : Result := .next (State.settle (if s.hears .net then s.hearDelayReq m t4 else s))

/-- DELAY_RESP (R358). -/
def execDelayResp (m : PtpMsg) (s : State) : Result := .next (State.settle (if s.hears .net then s.modNtc (fun n => n.hearDelayResp m) else s))

/-- SYNC_INTERVAL (R357). -/
def execSyncInterval (s : State) : Result := .next (State.settle (s.sendSync))

/-- ANNOUNCE_INTERVAL (R357). -/
def execAnnounceInterval (s : State) : Result := .next (State.settle (s.sendAnnounce))

/-- ANNOUNCE_TIMEOUT (R357). -/
def execAnnounceTimeout (s : State) : Result := .next (State.settle (s.announceTimeout))

/-- LINK_CHANGE (R349). -/
def execLinkChange (up : Bool) (s : State) : Result := .next (State.settle (s.linkChange up))

/-- TRANSMIT_OPPORTUNITY (R547). -/
def execTransmitOpportunity (s : State) : Result := .next (State.settle (s.transmit))

/-- FRAME_TRANSMITTED (R351). -/
def execFrameTransmitted (t : Int) (s : State) : Result := .next (State.settle (s.frameSent t))

/-- OUTPUT_PACKET_DELIVERED (R42). -/
def execOutputPacketDelivered (port : Port) (s : State) : Result := .next (State.settle (s.delivered port))

end Sys2Proof.Machine
end

