-- ==== Sys2Proof/Machine/CoreEvents.lean ====
section
/-!
DEFINITION. The meaning of each event of the cipher tract, the clocks, the timers, the memory and the store.
-/
namespace Sys2Proof.Machine

open Sys2Proof

/-- QUARANTINE_END (R316). -/
def execQuarantineEnd (s : State) : Result := .next (State.settle (s.quarantineEnd))

/-- DRBG_RESEED_DUE (R341). -/
def execDrbgReseedDue (s : State) : Result := .next (State.settle (s.reseedDue))

/-- DRBG_RESEED_DONE (R343). -/
def execDrbgReseedDone (ok : Bool) (apt : Bool) (s : State) : Result := .next (State.settle (s.reseedDone ok apt))

/-- TRIGGER_FIRE (R366). -/
def execTriggerFire (slot : Fin 16) (coils : List CoilMeas) (s : State) : Result := .next (State.settle (s.triggerFire slot coils))

/-- CAPTURE_EDGE (R368). -/
def execCaptureEdge (input : Fin 2) (rising : Bool) (s : State) : Result := .next (State.settle (s.captureEdge input rising))

/-- ATTEST_NONCE_EXPIRY (R372). -/
def execAttestNonceExpiry (s : State) : Result := .next (State.settle (s.nonceExpiry))

/-- ALWAYS_ON_TICK (R381). -/
def execAlwaysOnTick (s : State) : Result := .next (State.settle (s.tickOn))

/-- GPIO_EDGE (R381). -/
def execGpioEdge (pin : Fin 16) (level : Bool) (s : State) : Result := .next (State.settle (s.gpioChange pin level))

/-- TIMER_MATCH (R384). -/
def execTimerMatch (n : Fin 32) (s : State) : Result := .next (State.settle (s.timerDue n false))

/-- TIMER_OVERFLOW (R384). -/
def execTimerOverflow (n : Fin 32) (s : State) : Result := .next (State.settle (s.timerDue n true))

/-- GLEANER_STEP (R430). -/
def execGleanerStep (s : State) : Result := .next (State.settle (s.gleanStep))

/-- MERGE_BUFFER_EVICTION (R426). -/
def execMergeBufferEviction (s : State) : Result := .next (State.settle (s.evictOldest))

/-- PAGE_COMMIT_DONE (R446). -/
def execPageCommitDone (fails : List Nat) (s : State) : Result := .next (State.settle (if s.storeOn then s.commitDone fails else s))

/-- COMMIT_MS_TIMEOUT (R451). -/
def execCommitMsTimeout (s : State) : Result := .next (State.settle (s.commitTimeout))

/-- PAGE_ERASE_DONE (R444). -/
def execPageEraseDone (ok : Bool) (s : State) : Result := .next (State.settle (if s.storeOn then s.eraseDone ok else s))

/-- PW_BACKOFF_END (R462). -/
def execPwBackoffEnd (ctx : Fin 8) (s : State) : Result := .next (State.settle (s.pwBackoffEnd ctx))

/-- TALLY_INCREMENT_DONE (R458). -/
def execTallyIncrementDone (jump : Nat) (s : State) : Result := .next (State.settle (if s.storeOn then s.tallyDone jump else s))

/-- PATROL_PAGE_DUE (R463). -/
def execPatrolPageDue (health : PageHealth) (s : State) : Result := .next (State.settle (s.patrolDueStep health))

/-- TRIG_PULSE_END (R365). -/
def execTrigPulseEnd (pin : Fin 4) (s : State) : Result := .next (State.settle (s.trigPulseEnd pin))

/-- SLEW_COMPLETE (R360). -/
def execSlewComplete (s : State) : Result := .next (State.settle (s.slewComplete))

end Sys2Proof.Machine
end

