-- ==== Sys2Proof/Machine/HostCommands.lean ====
section
/-!
DEFINITION. The meaning of each host command: its packet arrives, and the arbiter carries it as far as it goes (R52, R60 to R62). Rows that split one opcode
by its parameters share that opcode: what the parameters say decides what happens.
-/
namespace Sys2Proof.Machine

open Sys2Proof

/-- HST_UART_CFG_WRITE (R44). -/
def execHstUartCfgWrite (h : Hdr) (p : Octets) (s : State) : Result := .next (s.command .sysRegWrite h p .none)

/-- SYS_NOP (R476). -/
def execSysNop (h : Hdr) (p : Octets) (s : State) : Result := .next (s.command .sysNop h p .none)

/-- SYS_IDENTIFY (R476). -/
def execSysIdentify (h : Hdr) (p : Octets) (s : State) : Result := .next (s.command .sysIdentify h p .none)

/-- SYS_STATUS (R476). -/
def execSysStatus (h : Hdr) (p : Octets) (s : State) : Result := .next (s.command .sysStatus h p .none)

/-- SYS_SNAPSHOT (R477). -/
def execSysSnapshot (h : Hdr) (p : Octets) (s : State) : Result := .next (s.command .sysSnapshot h p .none)

/-- SYS_RESET (R479). -/
def execSysReset (h : Hdr) (p : Octets) (s : State) : Result := .next (s.command .sysReset h p .none)

/-- SYS_SELF_TEST (R478). -/
def execSysSelfTest (h : Hdr) (p : Octets) (obs : Obs) (s : State) : Result := .next (s.command .sysSelfTest h p obs)

/-- SYS_FW_BEGIN (R480). -/
def execSysFwBegin (h : Hdr) (p : Octets) (s : State) : Result := .next (s.command .sysFwBegin h p .none)

/-- SYS_FW_CHUNK (R480). -/
def execSysFwChunk (h : Hdr) (p : Octets) (s : State) : Result := .next (s.command .sysFwChunk h p .none)

/-- SYS_FW_COMMIT (R480). -/
def execSysFwCommit (h : Hdr) (p : Octets) (obs : Obs) (s : State) : Result := .next (s.command .sysFwCommit h p obs)

/-- SYS_REG_READ (R476). -/
def execSysRegRead (h : Hdr) (p : Octets) (s : State) : Result := .next (s.command .sysRegRead h p .none)

/-- SYS_REG_WRITE (R13). -/
def execSysRegWrite (h : Hdr) (p : Octets) (s : State) : Result := .next (s.command .sysRegWrite h p .none)

/-- RC_REGISTER_READ (R12). -/
def execRcRegisterRead (h : Hdr) (p : Octets) (s : State) : Result := .next (s.command .sysRegRead h p .none)

/-- W1C_FLAG_CLEAR (R15). -/
def execW1cFlagClear (h : Hdr) (p : Octets) (s : State) : Result := .next (s.command .sysRegWrite h p .none)

/-- NTC_TIME_NS_READ (R355). -/
def execNtcTimeNsRead (h : Hdr) (p : Octets) (s : State) : Result := .next (s.command .sysRegRead h p .none)

/-- SYS_DEBUG_LOCK_WRITE (R507). -/
def execSysDebugLockWrite (h : Hdr) (p : Octets) (s : State) : Result := .next (s.command .sysRegWrite h p .none)

/-- DOMAIN_SEAL (R207). -/
def execDomainSeal (h : Hdr) (p : Octets) (s : State) : Result := .next (s.command .sysRegWrite h p .none)

/-- SEQ_POLICY_SIGNED (R305). -/
def execSeqPolicySigned (h : Hdr) (p : Octets) (s : State) : Result := .next (s.command .sysRegWrite h p .none)

/-- UWB_CAL_WRITE (R173). -/
def execUwbCalWrite (h : Hdr) (p : Octets) (s : State) : Result := .next (s.command .sysRegWrite h p .none)

/-- TMR_CFG_WRITE (R386). -/
def execTmrCfgWrite (h : Hdr) (p : Octets) (s : State) : Result := .next (s.command .sysRegWrite h p .none)

/-- SYS_TAMPER_CONFIG (R268). -/
def execSysTamperConfig (h : Hdr) (p : Octets) (s : State) : Result := .next (s.command .sysTamperConfig h p .none)

/-- SYS_TAMPER_CLEAR (R268). -/
def execSysTamperClear (h : Hdr) (p : Octets) (s : State) : Result := .next (s.command .sysTamperConfig h p .none)

/-- HST_OPEN (R54). -/
def execHstOpen (h : Hdr) (p : Octets) (s : State) : Result := .next (s.command .hstOpen h p .none)

/-- HST_CLOSE (R58). -/
def execHstClose (h : Hdr) (p : Octets) (s : State) : Result := .next (s.command .hstClose h p .none)

/-- HST_SET_ROLE (R55). -/
def execHstSetRole (h : Hdr) (p : Octets) (s : State) : Result := .next (s.command .hstSetRole h p .none)

/-- HST_EVENT_READ (R68). -/
def execHstEventRead (h : Hdr) (p : Octets) (s : State) : Result := .next (s.command .hstEventRead h p .none)

/-- HST_EVENT_MASK (R67). -/
def execHstEventMask (h : Hdr) (p : Octets) (s : State) : Result := .next (s.command .hstEventMask h p .none)

/-- HST_CLAIM (R65). -/
def execHstClaim (h : Hdr) (p : Octets) (s : State) : Result := .next (s.command .hstClaim h p .none)

/-- HST_UNCLAIM (R65). -/
def execHstUnclaim (h : Hdr) (p : Octets) (s : State) : Result := .next (s.command .hstUnclaim h p .none)

/-- JRN_READ (R89). -/
def execJrnRead (h : Hdr) (p : Octets) (s : State) : Result := .next (s.command .jrnRead h p .none)

/-- JRN_STATUS (R88). -/
def execJrnStatus (h : Hdr) (p : Octets) (s : State) : Result := .next (s.command .jrnStatus h p .none)

/-- JRN_LOOKUP (R91). -/
def execJrnLookup (h : Hdr) (p : Octets) (s : State) : Result := .next (s.command .jrnLookup h p .none)

/-- JRN_MARK (R85). -/
def execJrnMark (h : Hdr) (p : Octets) (s : State) : Result := .next (s.command .jrnMark h p .none)

/-- PWR_ENTER (R397). -/
def execPwrEnter (h : Hdr) (p : Octets) (s : State) : Result := .next (s.command .pwrEnter h p .none)

/-- PWR_WAKE_CONFIG (R401). -/
def execPwrWakeConfig (h : Hdr) (p : Octets) (s : State) : Result := .next (s.command .pwrWakeConfig h p .none)

/-- PWR_RESIDENCY_READ (R413). -/
def execPwrResidencyRead (h : Hdr) (p : Octets) (s : State) : Result := .next (s.command .pwrResidencyRead h p .none)

/-- PWR_WAKE_RECORD_READ (R414). -/
def execPwrWakeRecordRead (h : Hdr) (p : Octets) (s : State) : Result := .next (s.command .pwrWakeRecordRead h p .none)

/-- PWR_PROFILE (R394). -/
def execPwrProfile (h : Hdr) (p : Octets) (s : State) : Result := .next (s.command .pwrProfile h p .none)

/-- LF_CHANNEL_CONFIG (R128). -/
def execLfChannelConfig (h : Hdr) (p : Octets) (s : State) : Result := .next (s.command .lfChannelConfig h p .none)

/-- LF_TUNE (R129). -/
def execLfTune (h : Hdr) (p : Octets) (obs : Obs) (s : State) : Result := .next (s.command .lfTune h p obs)

/-- LF_DIAGNOSE (R130). -/
def execLfDiagnose (h : Hdr) (p : Octets) (obs : Obs) (s : State) : Result := .next (s.command .lfDiagnose h p obs)

/-- LF_POLL_START (R116). -/
def execLfPollStart (h : Hdr) (p : Octets) (s : State) : Result := .next (s.command .lfPollStart h p .none)

/-- LF_POLL_STOP (R121). -/
def execLfPollStop (h : Hdr) (p : Octets) (s : State) : Result := .next (s.command .lfPollStop h p .none)

/-- LF_FIELD_MAP_LOAD (R224). -/
def execLfFieldMapLoad (h : Hdr) (p : Octets) (s : State) : Result := .next (s.command .lfFieldMapLoad h p .none)

/-- LF_SEND (R131). -/
def execLfSend (h : Hdr) (p : Octets) (obs : Obs) (s : State) : Result := .next (s.command .lfSend h p obs)

/-- UHF_CHANNEL_PLAN (R138). -/
def execUhfChannelPlan (h : Hdr) (p : Octets) (s : State) : Result := .next (s.command .uhfChannelPlan h p .none)

/-- UHF_ENABLE (R63). -/
def execUhfEnable (h : Hdr) (p : Octets) (s : State) : Result := .next (s.command .uhfEnable h p .none)

/-- UHF_DISABLE (R161). -/
def execUhfDisable (h : Hdr) (p : Octets) (s : State) : Result := .next (s.command .uhfDisable h p .none)

/-- UHF_CAPTURE_ARM (R164). -/
def execUhfCaptureArm (h : Hdr) (p : Octets) (s : State) : Result := .next (s.command .uhfCapture h p .none)

/-- UHF_CAPTURE_READ (R164). -/
def execUhfCaptureRead (h : Hdr) (p : Octets) (s : State) : Result := .next (s.command .uhfCapture h p .none)

/-- UHF_CALIBRATE (R162). -/
def execUhfCalibrate (h : Hdr) (p : Octets) (obs : Obs) (s : State) : Result := .next (s.command .uhfCalibrate h p obs)

/-- UHF_VIGIL_CONFIG (R156). -/
def execUhfVigilConfig (h : Hdr) (p : Octets) (obs : Obs) (s : State) : Result := .next (s.command .uhfVigilConfig h p obs)

/-- RADIO_COEX_CONFIG (R200). -/
def execRadioCoexConfig (h : Hdr) (p : Octets) (s : State) : Result := .next (s.command .radioCoexConfig h p .none)

/-- UWB_CONFIG (R204). -/
def execUwbConfig (h : Hdr) (p : Octets) (s : State) : Result := .next (s.command .uwbConfig h p .none)

/-- UWB_SESSION_OPEN (R179). -/
def execUwbSessionOpen (h : Hdr) (p : Octets) (obs : Obs) (s : State) : Result := .next (s.command .uwbSessionOpen h p obs)

/-- UWB_SESSION_CLOSE (R183). -/
def execUwbSessionClose (h : Hdr) (p : Octets) (s : State) : Result := .next (s.command .uwbSessionClose h p .none)

/-- UWB_RANGE_NOW (R182). -/
def execUwbRangeNow (h : Hdr) (p : Octets) (s : State) : Result := .next (s.command .uwbRangeNow h p .none)

/-- UWB_CIR_READ (R199). -/
def execUwbCirRead (h : Hdr) (p : Octets) (s : State) : Result := .next (s.command .uwbCirRead h p .none)

/-- UWB_CALIBRATE (R196). -/
def execUwbCalibrate (h : Hdr) (p : Octets) (obs : Obs) (s : State) : Result := .next (s.command .uwbCalibrate h p obs)

/-- UWB_RADIO_STATE (R175). -/
def execUwbRadioState (h : Hdr) (p : Octets) (s : State) : Result := .next (s.command .uwbRadioState h p .none)

/-- CRD_ROSTER_WRITE (R210). -/
def execCrdRosterWrite (h : Hdr) (p : Octets) (obs : Obs) (s : State) : Result := .next (s.command .crdRosterWrite h p obs)

/-- CRD_ROSTER_READ (R213). -/
def execCrdRosterRead (h : Hdr) (p : Octets) (s : State) : Result := .next (s.command .crdRosterRead h p .none)

/-- CRD_REVOKE (R215). -/
def execCrdRevoke (h : Hdr) (p : Octets) (s : State) : Result := .next (s.command .crdRevoke h p .none)

/-- CRD_EPOCH_ADVANCE (R216). -/
def execCrdEpochAdvance (h : Hdr) (p : Octets) (s : State) : Result := .next (s.command .crdEpochAdvance h p .none)

/-- CRD_TICKET_LOAD (R228). -/
def execCrdTicketLoad (h : Hdr) (p : Octets) (s : State) : Result := .next (s.command .crdTicketLoad h p .none)

/-- CRD_LOCKOUT_STATUS (R232). -/
def execCrdLockoutStatus (h : Hdr) (p : Octets) (s : State) : Result := .next (s.command .crdLockoutStatus h p .none)

/-- CRD_LOCKOUT_CLEAR (R232). -/
def execCrdLockoutClear (h : Hdr) (p : Octets) (s : State) : Result := .next (s.command .crdLockoutClear h p .none)

/-- CRD_BATTERY_CHALLENGE (R235). -/
def execCrdBatteryChallenge (h : Hdr) (p : Octets) (s : State) : Result := .next (s.command .crdBatteryChallenge h p .none)

/-- CRD_ROUND_RESULT_READ (R243). -/
def execCrdRoundResultRead (h : Hdr) (p : Octets) (s : State) : Result := .next (s.command .crdRoundResultRead h p .none)

/-- HRV_RECEIVER_CONFIG (R247). -/
def execHrvReceiverConfig (h : Hdr) (p : Octets) (s : State) : Result := .next (s.command .hrvReceiverConfig h p .none)

/-- HRV_ARM (R248). -/
def execHrvArm (h : Hdr) (p : Octets) (s : State) : Result := .next (s.command .hrvArm h p .none)

/-- HRV_ARM_DISARM (R248). -/
def execHrvArmDisarm (h : Hdr) (p : Octets) (s : State) : Result := .next (s.command .hrvArm h p .none)

/-- HRV_LOCK (R267). -/
def execHrvLock (h : Hdr) (p : Octets) (s : State) : Result := .next (s.command .hrvLock h p .none)

/-- HRV_LOCK_CLEAR (R488). -/
def execHrvLockClear (h : Hdr) (p : Octets) (s : State) : Result := .next (s.command .hrvLock h p .none)

/-- HRV_STATUS (R278). -/
def execHrvStatus (h : Hdr) (p : Octets) (s : State) : Result := .next (s.command .hrvStatus h p .none)

/-- HRV_ACTUATE (R274). -/
def execHrvActuate (h : Hdr) (p : Octets) (obs : Obs) (s : State) : Result := .next (s.command .hrvActuate h p obs)

/-- HRV_POLICY (R278). -/
def execHrvPolicy (h : Hdr) (p : Octets) (s : State) : Result := .next (s.command .hrvPolicy h p .none)

/-- SEQ_LOAD (R301). -/
def execSeqLoad (h : Hdr) (p : Octets) (s : State) : Result := .next (s.command .seqLoad h p .none)

/-- SEQ_START (R297). -/
def execSeqStart (h : Hdr) (p : Octets) (s : State) : Result := .next (s.command .seqStart h p .none)

/-- SEQ_STOP (R297). -/
def execSeqStop (h : Hdr) (p : Octets) (s : State) : Result := .next (s.command .seqStop h p .none)

/-- SEQ_STATUS (R308). -/
def execSeqStatus (h : Hdr) (p : Octets) (s : State) : Result := .next (s.command .seqStatus h p .none)

/-- CPH_KEY_WRITE (R322). -/
def execCphKeyWrite (h : Hdr) (p : Octets) (s : State) : Result := .next (s.command .cphKeyWrite h p .none)

/-- CPH_KEY_ERASE (R326). -/
def execCphKeyErase (h : Hdr) (p : Octets) (s : State) : Result := .next (s.command .cphKeyErase h p .none)

/-- CPH_KEY_ERASE_ALL (R327). -/
def execCphKeyEraseAll (h : Hdr) (p : Octets) (s : State) : Result := .next (s.command .cphKeyErase h p .none)

/-- CPH_KEY_DERIVE (R325). -/
def execCphKeyDerive (h : Hdr) (p : Octets) (s : State) : Result := .next (s.command .cphKeyDerive h p .none)

/-- CPH_RUN (R330). -/
def execCphRun (h : Hdr) (p : Octets) (obs : Obs) (s : State) : Result := .next (s.command .cphRun h p obs)

/-- CPH_CTX_SAVE_COPY (R337). -/
def execCphCtxSaveCopy (h : Hdr) (p : Octets) (s : State) : Result := .next (s.command .cphCtxSave h p .none)

/-- CPH_CTX_SAVE_EXPORT (R337). -/
def execCphCtxSaveExport (h : Hdr) (p : Octets) (s : State) : Result := .next (s.command .cphCtxSave h p .none)

/-- CPH_CTX_RESTORE (R339). -/
def execCphCtxRestore (h : Hdr) (p : Octets) (s : State) : Result := .next (s.command .cphCtxRestore h p .none)

/-- CPH_RANDOM (R341). -/
def execCphRandom (h : Hdr) (p : Octets) (s : State) : Result := .next (s.command .cphRandom h p .none)

/-- CPH_KEY_INFO (R329). -/
def execCphKeyInfo (h : Hdr) (p : Octets) (s : State) : Result := .next (s.command .cphKeyInfo h p .none)

/-- NTC_CONFIG (R376). -/
def execNtcConfig (h : Hdr) (p : Octets) (s : State) : Result := .next (s.command .ntcConfig h p .none)

/-- NTC_READ (R355). -/
def execNtcRead (h : Hdr) (p : Octets) (s : State) : Result := .next (s.command .ntcRead h p .none)

/-- NTC_ADJUST (R360). -/
def execNtcAdjust (h : Hdr) (p : Octets) (s : State) : Result := .next (s.command .ntcAdjust h p .none)

/-- NTC_STEP (R361). -/
def execNtcStep (h : Hdr) (p : Octets) (obs : Obs) (s : State) : Result := .next (s.command .ntcStep h p obs)

/-- NTC_TRIGGER_ARM (R365). -/
def execNtcTriggerArm (h : Hdr) (p : Octets) (obs : Obs) (s : State) : Result := .next (s.command .ntcTriggerConfig h p obs)

/-- NTC_TRIGGER_DISARM (R365). -/
def execNtcTriggerDisarm (h : Hdr) (p : Octets) (s : State) : Result := .next (s.command .ntcTriggerConfig h p .none)

/-- NTC_TRIGGER_READ (R365). -/
def execNtcTriggerRead (h : Hdr) (p : Octets) (s : State) : Result := .next (s.command .ntcTriggerConfig h p .none)

/-- NTC_CAPTURE_READ (R368). -/
def execNtcCaptureRead (h : Hdr) (p : Octets) (s : State) : Result := .next (s.command .ntcCaptureRead h p .none)

/-- NTC_CALENDAR_ATTEST (R373). -/
def execNtcCalendarAttest (h : Hdr) (p : Octets) (s : State) : Result := .next (s.command .ntcCalendarAttest h p .none)

/-- NTC_CALENDAR_READ (R372). -/
def execNtcCalendarRead (h : Hdr) (p : Octets) (s : State) : Result := .next (s.command .ntcCalendarRead h p .none)

/-- TMR_CONFIG (R386). -/
def execTmrConfig (h : Hdr) (p : Octets) (s : State) : Result := .next (s.command .tmrConfig h p .none)

/-- TMR_SET_COMPARE (R383). -/
def execTmrSetCompare (h : Hdr) (p : Octets) (s : State) : Result := .next (s.command .tmrSetCompare h p .none)

/-- TMR_READ (R388). -/
def execTmrRead (h : Hdr) (p : Octets) (s : State) : Result := .next (s.command .tmrRead h p .none)

/-- TMR_READ_PAIR (R388). -/
def execTmrReadPair (h : Hdr) (p : Octets) (s : State) : Result := .next (s.command .tmrReadPair h p .none)

/-- TMR_START (R387). -/
def execTmrStart (h : Hdr) (p : Octets) (s : State) : Result := .next (s.command .tmrControl h p .none)

/-- TMR_STOP (R387). -/
def execTmrStop (h : Hdr) (p : Octets) (s : State) : Result := .next (s.command .tmrControl h p .none)

/-- TMR_CLEAR (R387). -/
def execTmrClear (h : Hdr) (p : Octets) (s : State) : Result := .next (s.command .tmrControl h p .none)

/-- TMR_SNAPSHOT_ALL (R388). -/
def execTmrSnapshotAll (h : Hdr) (p : Octets) (s : State) : Result := .next (s.command .tmrSnapshotAll h p .none)

/-- MEM_READ (R417). -/
def execMemRead (h : Hdr) (p : Octets) (s : State) : Result := .next (s.command .memRead h p .none)

/-- MEM_WRITE (R417). -/
def execMemWrite (h : Hdr) (p : Octets) (s : State) : Result := .next (s.command .memWrite h p .none)

/-- MEM_SCRUB (R431). -/
def execMemScrub (h : Hdr) (p : Octets) (s : State) : Result := .next (s.command .memScrub h p .none)

/-- MEM_FAULT_LOG_READ (R437). -/
def execMemFaultLogRead (h : Hdr) (p : Octets) (s : State) : Result := .next (s.command .memFaultLogRead h p .none)

/-- MEM_RETIRE (R433). -/
def execMemRetire (h : Hdr) (p : Octets) (s : State) : Result := .next (s.command .memRetire h p .none)

/-- MEM_ERROR_INJECT (R439). -/
def execMemErrorInject (h : Hdr) (p : Octets) (s : State) : Result := .next (s.command .memErrorInject h p .none)

/-- NVM_READ (R443). -/
def execNvmRead (h : Hdr) (p : Octets) (s : State) : Result := .next (s.command .nvmRead h p .none)

/-- NVM_WRITE (R450). -/
def execNvmWrite (h : Hdr) (p : Octets) (s : State) : Result := .next (s.command .nvmWrite h p .none)

/-- NVM_COMMIT (R451). -/
def execNvmCommit (h : Hdr) (p : Octets) (s : State) : Result := .next (s.command .nvmCommit h p .none)

/-- NVM_PASSWORD_PRESENT (R462). -/
def execNvmPasswordPresent (h : Hdr) (p : Octets) (s : State) : Result := .next (s.command .nvmPassword h p .none)

/-- NVM_PASSWORD_SET (R462). -/
def execNvmPasswordSet (h : Hdr) (p : Octets) (s : State) : Result := .next (s.command .nvmPassword h p .none)

/-- NVM_PASSWORD_REMOVE (R462). -/
def execNvmPasswordRemove (h : Hdr) (p : Octets) (s : State) : Result := .next (s.command .nvmPassword h p .none)

/-- NVM_PASSWORD_WITHDRAW (R462). -/
def execNvmPasswordWithdraw (h : Hdr) (p : Octets) (s : State) : Result := .next (s.command .nvmPassword h p .none)

/-- NVM_PASSWORD_RESET (R462). -/
def execNvmPasswordReset (h : Hdr) (p : Octets) (s : State) : Result := .next (s.command .nvmPassword h p .none)

/-- NVM_TALLY_INCREMENT (R460). -/
def execNvmTallyIncrement (h : Hdr) (p : Octets) (s : State) : Result := .next (s.command .nvmTallyIncrement h p .none)

/-- NVM_TALLY_READ (R460). -/
def execNvmTallyRead (h : Hdr) (p : Octets) (s : State) : Result := .next (s.command .nvmTallyRead h p .none)

/-- NVM_PATROL (R465). -/
def execNvmPatrol (h : Hdr) (p : Octets) (obs : Obs) (s : State) : Result := .next (s.command .nvmPatrol h p obs)

/-- NVM_REGULATORY_WRITE (R467). -/
def execNvmRegulatoryWrite (h : Hdr) (p : Octets) (s : State) : Result := .next (s.command .nvmRegulatoryLock h p .none)

/-- NVM_REGULATORY_LOCK (R467). -/
def execNvmRegulatoryLock (h : Hdr) (p : Octets) (s : State) : Result := .next (s.command .nvmRegulatoryLock h p .none)

/-- NVM_STATUS (R468). -/
def execNvmStatus (h : Hdr) (p : Octets) (s : State) : Result := .next (s.command .nvmStatus h p .none)

end Sys2Proof.Machine
end

