-- ==== Sys2Proof/Machine/Supplies.lean ====
section
/-!
DEFINITION. The meaning of each event of the power states, the supplies and the starts.
-/
namespace Sys2Proof.Machine

open Sys2Proof

/-- DEVICE_RESTART (R545). -/
def execDeviceRestart (imageOk : Bool) (s : State) : Result := .next (State.settle (s.deviceRestart imageOk))

/-- FW_TRANSFER_TIMEOUT (R480). -/
def execFwTransferTimeout (s : State) : Result := .next (State.settle (s.fwTimeout))

/-- CLAIM_LEASE_LAPSE (R65). -/
def execClaimLeaseLapse (ctx : Fin 8) (s : State) : Result := .next (State.settle (s.claimLapse ctx))

/-- ROLE_BACKOFF_END (R56). -/
def execRoleBackoffEnd (ctx : Fin 8) (s : State) : Result := .next (State.settle (s.roleBackoffEnd ctx))

/-- REPLY_COLLECTION_TIMEOUT (R59). -/
def execReplyCollectionTimeout (s : State) : Result := .next (State.settle (s.collectTimeout))

/-- CLAIM_WAIT_TIMEOUT (R397). -/
def execClaimWaitTimeout (s : State) : Result := .next (State.settle (s.claimTimeout))

/-- ENTRY_BEGIN (R399). -/
def execEntryBegin (s : State) : Result := .next (State.settle (s.entryBegin))

/-- ENTRY_DRAIN_COMPLETE (R399). -/
def execEntryDrainComplete (s : State) : Result := .next (State.settle (s.drainComplete))

/-- POWER_STATE_REACHED (R400). -/
def execPowerStateReached (s : State) : Result := .next (State.settle (s.stateReached))

/-- VCORE_RAMP_DONE (R394). -/
def execVcoreRampDone (s : State) : Result := .next (State.settle (s.rampDone))

/-- WAKE_PIN_ACTIVE (R402). -/
def execWakePinActive (pin : Fin 2) (s : State) : Result := .next (State.settle (s.wakePin pin))

/-- VSYS_FALL (R411). -/
def execVsysFall (s : State) : Result := .next (State.settle (s.vsysFall))

/-- VSYS_RETURN (R412). -/
def execVsysReturn (s : State) : Result := .next (State.settle (s.vsysReturn))

/-- COLD_START (R407). -/
def execColdStart (s : State) : Result := .next (State.settle (s.coldStart))

/-- VBKUP_LOW (R412). -/
def execVbkupLow (s : State) : Result := .next (State.settle (s.vbkupLow))

/-- VHOLD_LOW (R411). -/
def execVholdLow (sealedPages : Nat) (s : State) : Result := .next (State.settle (s.vholdLow sealedPages))

/-- VCORE_OK (R405). -/
def execVcoreOk (s : State) : Result := .next (State.settle (s.vcoreOk))

/-- VCORE_TIMEOUT (R406). -/
def execVcoreTimeout (s : State) : Result := .next (State.settle (s.vcoreTimeout))

/-- XO_OK (R405). -/
def execXoOk (s : State) : Result := .next (State.settle (s.xoStable))

/-- XO_TIMEOUT (R406). -/
def execXoTimeout (s : State) : Result := .next (State.settle (s.xoTimeout))

/-- XO_RETRY (R406). The oscillator is tried again; what it brings is an XO_OK of its own. -/
def execXoRetry (s : State) : Result := .next (State.settle (s))

/-- MEM_OK (R405). -/
def execMemOk (checker : Word) (flips : List (Nat × BitVec 47)) (keyFlips : List (Fin 256)) (s : State) : Result := .next (State.settle (s.memOk checker flips keyFlips))

/-- LOGIC_OK (R405). -/
def execLogicOk (saveBad : List Nat) (exitUs : Nat) (s : State) : Result := .next (State.settle (s.logicOk saveBad exitUs))

/-- COMMANDS_ACCEPTED (R405). -/
def execCommandsAccepted (kat : BitVec 16) (modes : BitVec 4) (entropyOk : Bool) (s : State) : Result := .next (State.settle (s.commandsAccepted kat modes entropyOk))

/-- XO32_STABLE (R527). -/
def execXo32Stable (s : State) : Result := .next (State.settle (s.xo32Now))

/-- STEWARD_RESTART (R422). -/
def execStewardRestart (s : State) : Result := .next (State.settle (s.stewardRestart))

/-- VDDIO_CHANGE (R509). -/
def execVddioChange (present : Bool) (s : State) : Result := .next (State.settle (s.vddioChange present))

/-- VBKUP_LOSS (R412). -/
def execVbkupLoss (s : State) : Result := .next (State.settle (s.vbkupLoss))

/-- VBKUP_RETURN (R412). -/
def execVbkupReturn (s : State) : Result := .next (State.settle (s.vbkupReturn))

end Sys2Proof.Machine
end

