-- ==== Sys2Proof/Machine/TilthRows.lean ====
section
/-!
DEFINITION. The meaning of each Tilth instruction and of the events of the sequencers.
-/
namespace Sys2Proof.Machine

open Sys2Proof

/-- IMAGE_INSTALL (R303). -/
def execImageInstall (n : Fin 3) (s : State) : Result := .next (State.settle (s.installNext n))

/-- STAGING_TIMEOUT (R301). -/
def execStagingTimeout (s : State) : Result := .next (State.settle (s.stagingTimeout))

/-- NOP (R284). -/
def execNop (n : Fin 3) (s : State) : Result := .next (State.settle (s.runOp n 0x00 (fun _ => s.modSeq n Seq.next')))

/-- SET (R284). -/
def execSet (n : Fin 3) (s : State) : Result := .next (State.settle (s.runOp n 0x01 (fun w => s.modSeq n (fun q => q.setInstr w))))

/-- ADD (R284). -/
def execAdd (n : Fin 3) (s : State) : Result := .next (State.settle (s.runOp n 0x02 (fun w => s.modSeq n (fun q => q.addInstr w))))

/-- CMP (R284). -/
def execCmp (n : Fin 3) (s : State) : Result := .next (State.settle (s.runOp n 0x03 (fun w => s.modSeq n (fun q => q.cmpInstr w))))

/-- BRANCH (R284). -/
def execBranch (n : Fin 3) (s : State) : Result := .next (State.settle (s.runOp n 0x04 (fun w => s.modSeq n (fun q => q.branchInstr w))))

/-- LOOP (R284). -/
def execLoop (n : Fin 3) (s : State) : Result := .next (State.settle (s.runOp n 0x05 (fun w => s.modSeq n (fun q => q.loopInstr w))))

/-- CALL (R284). -/
def execCall (n : Fin 3) (s : State) : Result := .next (State.settle (s.runOp n 0x06 (fun w => s.callInstr n w)))

/-- RET (R284). -/
def execRet (n : Fin 3) (s : State) : Result := .next (State.settle (s.runOp n 0x07 (fun _ => s.retInstr n)))

/-- GET (R285). -/
def execGet (n : Fin 3) (s : State) : Result := .next (State.settle (s.runOp n 0x08 (fun w => s.getInstr n w)))

/-- WAIT_TIME (R286). -/
def execWaitTime (n : Fin 3) (passed : Bool) (s : State) : Result := .next (State.settle (s.runOp n 0x10 (fun w => s.waitTime n w passed)))

/-- WAIT_TIME_END (R286). -/
def execWaitTimeEnd (n : Fin 3) (s : State) : Result := .next (State.settle (s.waitTimeEnd n))

/-- WAIT_EVENT (R288). -/
def execWaitEvent (n : Fin 3) (s : State) : Result := .next (State.settle (s.runOp n 0x11 (fun w => s.modSeq n (fun q => q.waitEvent w))))

/-- SIGNAL (R289). -/
def execSignal (n : Fin 3) (s : State) : Result := .next (State.settle (s.runOp n 0x12 (fun w => s.signalInstr n w)))

/-- SEND_LF (R291). -/
def execSendLf (late vlfOk : Bool) (s : State) : Result := .next (State.settle (s.sendLf late vlfOk))

/-- BURST (R291). -/
def execBurst (late vlfOk : Bool) (s : State) : Result := .next (State.settle (s.burst late vlfOk))

/-- LISTEN (R291). -/
def execListen (late : Bool) (s : State) : Result := .next (State.settle (s.listen late))

/-- RANGE (R292). -/
def execRange (s : State) : Result := .next (State.settle (s.range))

/-- EMIT (R293). -/
def execEmit (s : State) : Result := .next (State.settle (s.emit))

/-- HEADLAND (R295). -/
def execHeadland (n : Fin 3) (s : State) : Result := .next (State.settle (s.runOp n 0x1E (fun _ => s.endRound n false)))

/-- HALT (R296). -/
def execHalt (n : Fin 3) (s : State) : Result := .next (State.settle (s.runOp n 0x1F (fun _ => s.haltInstr n)))

/-- ROUND_DEADLINE (R22). -/
def execRoundDeadline (n : Fin 3) (s : State) : Result := .next (State.settle (s.roundDeadline n))

end Sys2Proof.Machine
end

