-- ==== Sys2Proof/Machine/TractEvents.lean ====
section
/-!
DEFINITION. The meaning of each event of the tracts: LF, UHF, UWB, credentials and harvest.
-/
namespace Sys2Proof.Machine

open Sys2Proof

/-- LF_CONFIG_APPLY (R122). -/
def execLfConfigApply (s : State) : Result := .next (State.settle (s.lfApplyNow))

/-- POLL_POINT (R116). -/
def execPollPoint (s : State) : Result := .next (State.settle (s.pollPoint))

/-- RIDE_POINT (R117). -/
def execRidePoint (s : State) : Result := .next (State.settle (s.ridePoint))

/-- FULL_ROUND_START (R118). -/
def execFullRoundStart (s : State) : Result := .next (State.settle (s.fullRoundStart))

/-- HOLDOFF_END (R118). -/
def execHoldoffEnd (s : State) : Result := .next (State.settle (s.holdoffEnd))

/-- PRESENCE_DETECTED (R158). -/
def execPresenceDetected (word : BitVec 16) (offset : Int) (s : State) : Result := .next (State.settle (s.presence word offset))

/-- DIAGNOSIS_PULSE (R98). -/
def execDiagnosisPulse (vlfOk : Bool) (m : CoilMeas) (s : State) : Result := .next (State.settle ((s.diagnosisPulse vlfOk m).startDue))

/-- ELEMENT_END (R105). -/
def execElementEnd (vlfOk : Bool) (l : List CoilMeas) (s : State) : Result := .next (State.settle (s.elementEnd vlfOk l))

/-- VLF_LIMITER_TRIP (R96). -/
def execVlfLimiterTrip (s : State) : Result := .next (State.settle (s.vlfTrip))

/-- DRIVER_OVER_TEMPERATURE (R96). -/
def execDriverOverTemperature (strip : Fin 3) (hot : Bool) (s : State) : Result := .next (State.settle (s.driverHot strip hot))

/-- LOCK_DRIVE_START (R97). -/
def execLockDriveStart (n : Fin 2) (vlfOk : Bool) (s : State) : Result := .next (State.settle (s.driveStart n vlfOk))

/-- UHF_PLAN_APPLY (R141). -/
def execUhfPlanApply (s : State) : Result := .next (State.settle (s.planNow))

/-- UNIT_REACHES_STATE (R63). -/
def execUnitReachesState (u : UnitId) (ok : Bool) (temp : Int) (s : State) : Result := .next (State.settle (s.unitReach u ok temp))

/-- UHF_CALIBRATION_DUE (R162). -/
def execUhfCalibrationDue (ok : Bool) (temp : Int) (s : State) : Result := .next (State.settle (s.uhfCalDue ok temp))

/-- TEMPERATURE_DRIFT (R162). -/
def execTemperatureDrift (temp : Int) (uhfOk vigilOk : Bool) (c : UwbCal) (s : State) : Result := .next (State.settle (s.drift temp uhfOk vigilOk c))

/-- RESPONSE_FRAME (R149). -/
def execResponseFrame (f : RxFrame) (s : State) : Result := .next (State.settle (s.responseFrame f))

/-- PRIMARY_SLOT_END (R153). -/
def execPrimarySlotEnd (residual : Nat) (unsynced : Bool) (s : State) : Result := .next (State.settle (s.primaryEnd residual unsynced))

/-- COLLECTION_CLOSE (R154). -/
def execCollectionClose (clipped : Bool) (s : State) : Result := .next (State.settle (s.collectionClose clipped))

/-- LATE_FRAME_END (R155). -/
def execLateFrameEnd (lane : Fin 64) (crcOk incomplete : Bool) (id : BitVec 40) (rssi : Nat) (s : State) : Result := .next (State.settle (s.lateFrame lane crcOk incomplete id rssi))

/-- SAMPLE_PARITY_ERROR (R163). -/
def execSampleParityError (strip : Option (Fin 8)) (s : State) : Result := .next (State.settle (s.sampleParity strip))

/-- COEX_REQUEST (R167). -/
def execCoexRequest (set : Fin 2) (req pri : Bool) (s : State) : Result := .next (State.settle (s.coexRequest set req pri))

/-- COEX_GRANT_CHANGE (R201). -/
def execCoexGrantChange (set : Fin 2) (gnt : Bool) (s : State) : Result := .next (State.settle (s.coexGrant set gnt))

/-- COEX_CONFIG_APPLY (R200). -/
def execCoexConfigApply (set : Fin 2) (s : State) : Result := .next (State.settle (s.coexApply set))

/-- UWB_CFG_APPLY (R204). -/
def execUwbCfgApply (s : State) : Result := .next (State.settle (s.uwbCfgApply))

/-- UWB_CALIBRATION_DUE (R176). -/
def execUwbCalibrationDue (c : UwbCal) (s : State) : Result := .next (State.settle (s.uwbCalDue c))

/-- RADIO_IDLE_TIMEOUT (R175). -/
def execRadioIdleTimeout (s : State) : Result := .next (State.settle (s.radioIdle))

/-- SYNTHESISER_LOCK (R194). -/
def execSynthesiserLock (s : State) : Result := .next (State.settle (s.synthLock))

/-- RANGING_ROUND_PREPARATION (R181). -/
def execRangingRoundPreparation (n : Fin 8) (extra : Bool) (c : LoopCheck) (s : State) : Result := .next (State.settle (s.prepareRange n extra c))

/-- UWB_FRAME_TX_DUE (R185). -/
def execUwbFrameTxDue (rmarker : Nat) (late : Bool) (s : State) : Result := .next (State.settle (s.frameDue rmarker late))

/-- UWB_POLL_RECEIVED (R180). -/
def execUwbPollReceived (a : Arrival) (s : State) : Result := .next (State.settle (s.arrival .rxPoll 1 false a))

/-- UWB_RESPONSE_RECEIVED (R189). -/
def execUwbResponseReceived (a : Arrival) (s : State) : Result := .next (State.settle (s.arrival .rxResponse 2 true a))

/-- UWB_FINAL_RECEIVED (R189). -/
def execUwbFinalReceived (a : Arrival) (s : State) : Result := .next (State.settle (s.arrival .rxFinal 3 true a))

/-- UWB_REPORT_RECEIVED (R187). -/
def execUwbReportReceived (ours fault : Bool) (os : Octets) (s : State) : Result := .next (State.settle (s.reportIn ours fault os))

/-- ROSTER_COMPACTION_DONE (R216). -/
def execRosterCompactionDone (s : State) : Result := .next (State.settle (s.compactionDone))

/-- COUNTER_LOG_FOLD (R211). -/
def execCounterLogFold (s : State) : Result := .next (State.settle (s.foldLog))

/-- BATTERY_RECHECK (R235). -/
def execBatteryRecheck (s : State) : Result := .next (State.settle (s.batteryRecheck))

/-- BATTERY_RESPONSE_TIMEOUT (R238). -/
def execBatteryResponseTimeout (s : State) : Result := .next (State.settle (s.batteryTimeout))

/-- BATTERY_RETRY (R238). -/
def execBatteryRetry (s : State) : Result := .next (State.settle (s.batteryRetry))

/-- BATTERY_LINK_TIMEOUT (R238). -/
def execBatteryLinkTimeout (s : State) : Result := .next (State.settle (s.batteryLinkTimeout))

/-- LOCK_DRIVE_TIMEOUT (R276). -/
def execLockDriveTimeout (n : Fin 2) (current : Nat) (s : State) : Result := .next (State.settle (s.driveTimeout n current))

/-- LOCK_DRIVE_STALL (R276). -/
def execLockDriveStall (n : Fin 2) (current : Nat) (s : State) : Result := .next (State.settle (s.driveStall n current))

/-- CADENCE_POINT (R250). -/
def execCadencePoint (obs : PeriodObs) (s : State) : Result := .next (State.settle (s.cadencePoint obs))

/-- LATE_PERIOD_START (R21). -/
def execLatePeriodStart (obs : PeriodObs) (s : State) : Result := .next (State.settle (s.latePeriod obs))

/-- ALWAYS_ON_INPUT_SAMPLE (R510). -/
def execAlwaysOnInputSample (tamper0 tamper1 posA posB : Bool) (currentA currentB : Nat) (s : State) : Result := .next (State.settle (s.inputSample tamper0 tamper1 posA posB currentA currentB))

/-- REGULATORY_LIMITS_APPLY (R127). -/
def execRegulatoryLimitsApply (tract : Fin 3) (s : State) : Result := .next (State.settle (s.limitsNow tract))

/-- UWB_RECEIVE_SLOT_END (R194). -/
def execUwbReceiveSlotEnd (s : State) : Result := .next (State.settle (s.receiveSlotEnd))

/-- UHF_CAPTURE_DONE (R164). -/
def execUhfCaptureDone (samples : List (Int × Int)) (s : State) : Result := .next (State.settle (s.captureDone samples))

end Sys2Proof.Machine
end

