-- ==== Sys2Proof/Machine/Dispatch.lean ====
section
/-!
DEFINITION. The dispatcher: one arm for each command of the block, each a direct call of its meaning.
A command without a meaning yet is rejected by name.
-/
namespace Sys2Proof.Machine

open Sys2Proof

def exec (i : Instr) (s : State) : Host.Outcome State Fault Refusal :=
  match i with
  | .spiPacket port os obs => Sys2Proof.Machine.execSpiPacket port os obs s
  | .chipSelectFall port sckHigh => Sys2Proof.Machine.execChipSelectFall port sckHigh s
  | .chipSelectRise port partOctets => Sys2Proof.Machine.execChipSelectRise port partOctets s
  | .uartFrame os obs => Sys2Proof.Machine.execUartFrame os obs s
  | .hstUartCfgWrite h p => Sys2Proof.Machine.execHstUartCfgWrite h p s
  | .networkFrame f => Sys2Proof.Machine.execNetworkFrame f s
  | .networkCommand f obs => Sys2Proof.Machine.execNetworkCommand f obs s
  | .speedReport f => Sys2Proof.Machine.execSpeedReport f s
  | .batteryResponse f others fault => Sys2Proof.Machine.execBatteryResponse f others fault s
  | .announce m => Sys2Proof.Machine.execAnnounce m s
  | .sync m t2 => Sys2Proof.Machine.execSync m t2 s
  | .followUp m => Sys2Proof.Machine.execFollowUp m s
  | .delayReq m t4 => Sys2Proof.Machine.execDelayReq m t4 s
  | .delayResp m => Sys2Proof.Machine.execDelayResp m s
  | .linkChange up => Sys2Proof.Machine.execLinkChange up s
  | .frameTransmitted t => Sys2Proof.Machine.execFrameTransmitted t s
  | .sysNop h p => Sys2Proof.Machine.execSysNop h p s
  | .sysIdentify h p => Sys2Proof.Machine.execSysIdentify h p s
  | .sysStatus h p => Sys2Proof.Machine.execSysStatus h p s
  | .sysSnapshot h p => Sys2Proof.Machine.execSysSnapshot h p s
  | .sysReset h p => Sys2Proof.Machine.execSysReset h p s
  | .deviceRestart imageOk => Sys2Proof.Machine.execDeviceRestart imageOk s
  | .sysSelfTest h p obs => Sys2Proof.Machine.execSysSelfTest h p obs s
  | .sysFwBegin h p => Sys2Proof.Machine.execSysFwBegin h p s
  | .sysFwChunk h p => Sys2Proof.Machine.execSysFwChunk h p s
  | .sysFwCommit h p obs => Sys2Proof.Machine.execSysFwCommit h p obs s
  | .sysRegRead h p => Sys2Proof.Machine.execSysRegRead h p s
  | .sysRegWrite h p => Sys2Proof.Machine.execSysRegWrite h p s
  | .rcRegisterRead h p => Sys2Proof.Machine.execRcRegisterRead h p s
  | .w1cFlagClear h p => Sys2Proof.Machine.execW1cFlagClear h p s
  | .ntcTimeNsRead h p => Sys2Proof.Machine.execNtcTimeNsRead h p s
  | .sysDebugLockWrite h p => Sys2Proof.Machine.execSysDebugLockWrite h p s
  | .domainSeal h p => Sys2Proof.Machine.execDomainSeal h p s
  | .seqPolicySigned h p => Sys2Proof.Machine.execSeqPolicySigned h p s
  | .uwbCalWrite h p => Sys2Proof.Machine.execUwbCalWrite h p s
  | .tmrCfgWrite h p => Sys2Proof.Machine.execTmrCfgWrite h p s
  | .sysTamperConfig h p => Sys2Proof.Machine.execSysTamperConfig h p s
  | .sysTamperClear h p => Sys2Proof.Machine.execSysTamperClear h p s
  | .hstOpen h p => Sys2Proof.Machine.execHstOpen h p s
  | .hstClose h p => Sys2Proof.Machine.execHstClose h p s
  | .hstSetRole h p => Sys2Proof.Machine.execHstSetRole h p s
  | .hstEventRead h p => Sys2Proof.Machine.execHstEventRead h p s
  | .hstEventMask h p => Sys2Proof.Machine.execHstEventMask h p s
  | .hstClaim h p => Sys2Proof.Machine.execHstClaim h p s
  | .hstUnclaim h p => Sys2Proof.Machine.execHstUnclaim h p s
  | .claimLeaseLapse ctx => Sys2Proof.Machine.execClaimLeaseLapse ctx s
  | .roleBackoffEnd ctx => Sys2Proof.Machine.execRoleBackoffEnd ctx s
  | .jrnRead h p => Sys2Proof.Machine.execJrnRead h p s
  | .jrnStatus h p => Sys2Proof.Machine.execJrnStatus h p s
  | .jrnLookup h p => Sys2Proof.Machine.execJrnLookup h p s
  | .jrnMark h p => Sys2Proof.Machine.execJrnMark h p s
  | .pwrEnter h p => Sys2Proof.Machine.execPwrEnter h p s
  | .pwrWakeConfig h p => Sys2Proof.Machine.execPwrWakeConfig h p s
  | .pwrResidencyRead h p => Sys2Proof.Machine.execPwrResidencyRead h p s
  | .pwrWakeRecordRead h p => Sys2Proof.Machine.execPwrWakeRecordRead h p s
  | .pwrProfile h p => Sys2Proof.Machine.execPwrProfile h p s
  | .wakePinActive pin => Sys2Proof.Machine.execWakePinActive pin s
  | .vholdLow sealedPages => Sys2Proof.Machine.execVholdLow sealedPages s
  | .memOk checker flips keyFlips => Sys2Proof.Machine.execMemOk checker flips keyFlips s
  | .logicOk saveBad exitUs => Sys2Proof.Machine.execLogicOk saveBad exitUs s
  | .commandsAccepted kat modes entropyOk => Sys2Proof.Machine.execCommandsAccepted kat modes entropyOk s
  | .lfChannelConfig h p => Sys2Proof.Machine.execLfChannelConfig h p s
  | .lfTune h p obs => Sys2Proof.Machine.execLfTune h p obs s
  | .lfDiagnose h p obs => Sys2Proof.Machine.execLfDiagnose h p obs s
  | .lfPollStart h p => Sys2Proof.Machine.execLfPollStart h p s
  | .lfPollStop h p => Sys2Proof.Machine.execLfPollStop h p s
  | .lfFieldMapLoad h p => Sys2Proof.Machine.execLfFieldMapLoad h p s
  | .lfSend h p obs => Sys2Proof.Machine.execLfSend h p obs s
  | .presenceDetected word offset => Sys2Proof.Machine.execPresenceDetected word offset s
  | .diagnosisPulse vlfOk m => Sys2Proof.Machine.execDiagnosisPulse vlfOk m s
  | .elementEnd vlfOk l => Sys2Proof.Machine.execElementEnd vlfOk l s
  | .driverOverTemperature strip hot => Sys2Proof.Machine.execDriverOverTemperature strip hot s
  | .lockDriveStart n vlfOk => Sys2Proof.Machine.execLockDriveStart n vlfOk s
  | .uhfChannelPlan h p => Sys2Proof.Machine.execUhfChannelPlan h p s
  | .uhfEnable h p => Sys2Proof.Machine.execUhfEnable h p s
  | .uhfDisable h p => Sys2Proof.Machine.execUhfDisable h p s
  | .unitReachesState u ok temp => Sys2Proof.Machine.execUnitReachesState u ok temp s
  | .uhfCaptureArm h p => Sys2Proof.Machine.execUhfCaptureArm h p s
  | .uhfCaptureRead h p => Sys2Proof.Machine.execUhfCaptureRead h p s
  | .uhfCalibrate h p obs => Sys2Proof.Machine.execUhfCalibrate h p obs s
  | .uhfVigilConfig h p obs => Sys2Proof.Machine.execUhfVigilConfig h p obs s
  | .uhfCalibrationDue ok temp => Sys2Proof.Machine.execUhfCalibrationDue ok temp s
  | .temperatureDrift temp uhfOk vigilOk c => Sys2Proof.Machine.execTemperatureDrift temp uhfOk vigilOk c s
  | .responseFrame f => Sys2Proof.Machine.execResponseFrame f s
  | .primarySlotEnd residual unsynced => Sys2Proof.Machine.execPrimarySlotEnd residual unsynced s
  | .collectionClose clipped => Sys2Proof.Machine.execCollectionClose clipped s
  | .lateFrameEnd lane crcOk incomplete id rssi => Sys2Proof.Machine.execLateFrameEnd lane crcOk incomplete id rssi s
  | .sampleParityError strip => Sys2Proof.Machine.execSampleParityError strip s
  | .coexRequest set req pri => Sys2Proof.Machine.execCoexRequest set req pri s
  | .coexGrantChange set gnt => Sys2Proof.Machine.execCoexGrantChange set gnt s
  | .radioCoexConfig h p => Sys2Proof.Machine.execRadioCoexConfig h p s
  | .coexConfigApply set => Sys2Proof.Machine.execCoexConfigApply set s
  | .uwbConfig h p => Sys2Proof.Machine.execUwbConfig h p s
  | .uwbSessionOpen h p obs => Sys2Proof.Machine.execUwbSessionOpen h p obs s
  | .uwbSessionClose h p => Sys2Proof.Machine.execUwbSessionClose h p s
  | .uwbRangeNow h p => Sys2Proof.Machine.execUwbRangeNow h p s
  | .uwbCirRead h p => Sys2Proof.Machine.execUwbCirRead h p s
  | .uwbCalibrate h p obs => Sys2Proof.Machine.execUwbCalibrate h p obs s
  | .uwbRadioState h p => Sys2Proof.Machine.execUwbRadioState h p s
  | .uwbCalibrationDue c => Sys2Proof.Machine.execUwbCalibrationDue c s
  | .rangingRoundPreparation n extra c => Sys2Proof.Machine.execRangingRoundPreparation n extra c s
  | .uwbFrameTxDue rmarker late => Sys2Proof.Machine.execUwbFrameTxDue rmarker late s
  | .uwbPollReceived a => Sys2Proof.Machine.execUwbPollReceived a s
  | .uwbResponseReceived a => Sys2Proof.Machine.execUwbResponseReceived a s
  | .uwbFinalReceived a => Sys2Proof.Machine.execUwbFinalReceived a s
  | .uwbReportReceived ours fault os => Sys2Proof.Machine.execUwbReportReceived ours fault os s
  | .crdRosterWrite h p obs => Sys2Proof.Machine.execCrdRosterWrite h p obs s
  | .crdRosterRead h p => Sys2Proof.Machine.execCrdRosterRead h p s
  | .crdRevoke h p => Sys2Proof.Machine.execCrdRevoke h p s
  | .crdEpochAdvance h p => Sys2Proof.Machine.execCrdEpochAdvance h p s
  | .crdTicketLoad h p => Sys2Proof.Machine.execCrdTicketLoad h p s
  | .crdLockoutStatus h p => Sys2Proof.Machine.execCrdLockoutStatus h p s
  | .crdLockoutClear h p => Sys2Proof.Machine.execCrdLockoutClear h p s
  | .crdBatteryChallenge h p => Sys2Proof.Machine.execCrdBatteryChallenge h p s
  | .crdRoundResultRead h p => Sys2Proof.Machine.execCrdRoundResultRead h p s
  | .hrvReceiverConfig h p => Sys2Proof.Machine.execHrvReceiverConfig h p s
  | .hrvArm h p => Sys2Proof.Machine.execHrvArm h p s
  | .hrvArmDisarm h p => Sys2Proof.Machine.execHrvArmDisarm h p s
  | .hrvLock h p => Sys2Proof.Machine.execHrvLock h p s
  | .hrvLockClear h p => Sys2Proof.Machine.execHrvLockClear h p s
  | .hrvStatus h p => Sys2Proof.Machine.execHrvStatus h p s
  | .hrvActuate h p obs => Sys2Proof.Machine.execHrvActuate h p obs s
  | .lockDriveTimeout n current => Sys2Proof.Machine.execLockDriveTimeout n current s
  | .lockDriveStall n current => Sys2Proof.Machine.execLockDriveStall n current s
  | .hrvPolicy h p => Sys2Proof.Machine.execHrvPolicy h p s
  | .cadencePoint obs => Sys2Proof.Machine.execCadencePoint obs s
  | .latePeriodStart obs => Sys2Proof.Machine.execLatePeriodStart obs s
  | .alwaysOnInputSample tamper0 tamper1 posA posB currentA currentB => Sys2Proof.Machine.execAlwaysOnInputSample tamper0 tamper1 posA posB currentA currentB s
  | .seqLoad h p => Sys2Proof.Machine.execSeqLoad h p s
  | .imageInstall n => Sys2Proof.Machine.execImageInstall n s
  | .seqStart h p => Sys2Proof.Machine.execSeqStart h p s
  | .seqStop h p => Sys2Proof.Machine.execSeqStop h p s
  | .seqStatus h p => Sys2Proof.Machine.execSeqStatus h p s
  | .nop n => Sys2Proof.Machine.execNop n s
  | .set n => Sys2Proof.Machine.execSet n s
  | .add n => Sys2Proof.Machine.execAdd n s
  | .cmp n => Sys2Proof.Machine.execCmp n s
  | .branch n => Sys2Proof.Machine.execBranch n s
  | .loop n => Sys2Proof.Machine.execLoop n s
  | .call n => Sys2Proof.Machine.execCall n s
  | .ret n => Sys2Proof.Machine.execRet n s
  | .get n => Sys2Proof.Machine.execGet n s
  | .waitTime n passed => Sys2Proof.Machine.execWaitTime n passed s
  | .waitTimeEnd n => Sys2Proof.Machine.execWaitTimeEnd n s
  | .waitEvent n => Sys2Proof.Machine.execWaitEvent n s
  | .signal n => Sys2Proof.Machine.execSignal n s
  | .sendLf late vlfOk => Sys2Proof.Machine.execSendLf late vlfOk s
  | .burst late vlfOk => Sys2Proof.Machine.execBurst late vlfOk s
  | .listen late => Sys2Proof.Machine.execListen late s
  | .headland n => Sys2Proof.Machine.execHeadland n s
  | .halt n => Sys2Proof.Machine.execHalt n s
  | .roundDeadline n => Sys2Proof.Machine.execRoundDeadline n s
  | .cphKeyWrite h p => Sys2Proof.Machine.execCphKeyWrite h p s
  | .cphKeyErase h p => Sys2Proof.Machine.execCphKeyErase h p s
  | .cphKeyEraseAll h p => Sys2Proof.Machine.execCphKeyEraseAll h p s
  | .cphKeyDerive h p => Sys2Proof.Machine.execCphKeyDerive h p s
  | .cphRun h p obs => Sys2Proof.Machine.execCphRun h p obs s
  | .cphCtxSaveCopy h p => Sys2Proof.Machine.execCphCtxSaveCopy h p s
  | .cphCtxSaveExport h p => Sys2Proof.Machine.execCphCtxSaveExport h p s
  | .cphCtxRestore h p => Sys2Proof.Machine.execCphCtxRestore h p s
  | .cphRandom h p => Sys2Proof.Machine.execCphRandom h p s
  | .cphKeyInfo h p => Sys2Proof.Machine.execCphKeyInfo h p s
  | .drbgReseedDone ok apt => Sys2Proof.Machine.execDrbgReseedDone ok apt s
  | .ntcConfig h p => Sys2Proof.Machine.execNtcConfig h p s
  | .ntcRead h p => Sys2Proof.Machine.execNtcRead h p s
  | .ntcAdjust h p => Sys2Proof.Machine.execNtcAdjust h p s
  | .ntcStep h p obs => Sys2Proof.Machine.execNtcStep h p obs s
  | .ntcTriggerArm h p obs => Sys2Proof.Machine.execNtcTriggerArm h p obs s
  | .ntcTriggerDisarm h p => Sys2Proof.Machine.execNtcTriggerDisarm h p s
  | .ntcTriggerRead h p => Sys2Proof.Machine.execNtcTriggerRead h p s
  | .triggerFire slot coils => Sys2Proof.Machine.execTriggerFire slot coils s
  | .captureEdge input rising => Sys2Proof.Machine.execCaptureEdge input rising s
  | .ntcCaptureRead h p => Sys2Proof.Machine.execNtcCaptureRead h p s
  | .ntcCalendarAttest h p => Sys2Proof.Machine.execNtcCalendarAttest h p s
  | .ntcCalendarRead h p => Sys2Proof.Machine.execNtcCalendarRead h p s
  | .tmrConfig h p => Sys2Proof.Machine.execTmrConfig h p s
  | .tmrSetCompare h p => Sys2Proof.Machine.execTmrSetCompare h p s
  | .tmrRead h p => Sys2Proof.Machine.execTmrRead h p s
  | .tmrReadPair h p => Sys2Proof.Machine.execTmrReadPair h p s
  | .tmrStart h p => Sys2Proof.Machine.execTmrStart h p s
  | .tmrStop h p => Sys2Proof.Machine.execTmrStop h p s
  | .tmrClear h p => Sys2Proof.Machine.execTmrClear h p s
  | .tmrSnapshotAll h p => Sys2Proof.Machine.execTmrSnapshotAll h p s
  | .gpioEdge pin level => Sys2Proof.Machine.execGpioEdge pin level s
  | .timerMatch n => Sys2Proof.Machine.execTimerMatch n s
  | .timerOverflow n => Sys2Proof.Machine.execTimerOverflow n s
  | .memRead h p => Sys2Proof.Machine.execMemRead h p s
  | .memWrite h p => Sys2Proof.Machine.execMemWrite h p s
  | .memScrub h p => Sys2Proof.Machine.execMemScrub h p s
  | .memFaultLogRead h p => Sys2Proof.Machine.execMemFaultLogRead h p s
  | .memRetire h p => Sys2Proof.Machine.execMemRetire h p s
  | .memErrorInject h p => Sys2Proof.Machine.execMemErrorInject h p s
  | .nvmRead h p => Sys2Proof.Machine.execNvmRead h p s
  | .nvmWrite h p => Sys2Proof.Machine.execNvmWrite h p s
  | .nvmCommit h p => Sys2Proof.Machine.execNvmCommit h p s
  | .pageCommitDone fails => Sys2Proof.Machine.execPageCommitDone fails s
  | .pageEraseDone ok => Sys2Proof.Machine.execPageEraseDone ok s
  | .nvmPasswordPresent h p => Sys2Proof.Machine.execNvmPasswordPresent h p s
  | .nvmPasswordSet h p => Sys2Proof.Machine.execNvmPasswordSet h p s
  | .nvmPasswordRemove h p => Sys2Proof.Machine.execNvmPasswordRemove h p s
  | .nvmPasswordWithdraw h p => Sys2Proof.Machine.execNvmPasswordWithdraw h p s
  | .nvmPasswordReset h p => Sys2Proof.Machine.execNvmPasswordReset h p s
  | .pwBackoffEnd ctx => Sys2Proof.Machine.execPwBackoffEnd ctx s
  | .nvmTallyIncrement h p => Sys2Proof.Machine.execNvmTallyIncrement h p s
  | .tallyIncrementDone jump => Sys2Proof.Machine.execTallyIncrementDone jump s
  | .nvmTallyRead h p => Sys2Proof.Machine.execNvmTallyRead h p s
  | .nvmPatrol h p obs => Sys2Proof.Machine.execNvmPatrol h p obs s
  | .patrolPageDue health => Sys2Proof.Machine.execPatrolPageDue health s
  | .nvmRegulatoryWrite h p => Sys2Proof.Machine.execNvmRegulatoryWrite h p s
  | .nvmRegulatoryLock h p => Sys2Proof.Machine.execNvmRegulatoryLock h p s
  | .regulatoryLimitsApply tract => Sys2Proof.Machine.execRegulatoryLimitsApply tract s
  | .nvmStatus h p => Sys2Proof.Machine.execNvmStatus h p s
  | .outputPacketDelivered port => Sys2Proof.Machine.execOutputPacketDelivered port s
  | .uhfCaptureDone samples => Sys2Proof.Machine.execUhfCaptureDone samples s
  | .trigPulseEnd pin => Sys2Proof.Machine.execTrigPulseEnd pin s
  | .vddioChange present => Sys2Proof.Machine.execVddioChange present s
  | .uartStartBit => Sys2Proof.Machine.execUartStartBit s
  | .syncInterval => Sys2Proof.Machine.execSyncInterval s
  | .announceInterval => Sys2Proof.Machine.execAnnounceInterval s
  | .announceTimeout => Sys2Proof.Machine.execAnnounceTimeout s
  | .transmitOpportunity => Sys2Proof.Machine.execTransmitOpportunity s
  | .fwTransferTimeout => Sys2Proof.Machine.execFwTransferTimeout s
  | .replyCollectionTimeout => Sys2Proof.Machine.execReplyCollectionTimeout s
  | .claimWaitTimeout => Sys2Proof.Machine.execClaimWaitTimeout s
  | .entryBegin => Sys2Proof.Machine.execEntryBegin s
  | .entryDrainComplete => Sys2Proof.Machine.execEntryDrainComplete s
  | .powerStateReached => Sys2Proof.Machine.execPowerStateReached s
  | .vcoreRampDone => Sys2Proof.Machine.execVcoreRampDone s
  | .vsysFall => Sys2Proof.Machine.execVsysFall s
  | .vsysReturn => Sys2Proof.Machine.execVsysReturn s
  | .coldStart => Sys2Proof.Machine.execColdStart s
  | .vbkupLow => Sys2Proof.Machine.execVbkupLow s
  | .vcoreOk => Sys2Proof.Machine.execVcoreOk s
  | .vcoreTimeout => Sys2Proof.Machine.execVcoreTimeout s
  | .xoOk => Sys2Proof.Machine.execXoOk s
  | .xoTimeout => Sys2Proof.Machine.execXoTimeout s
  | .xoRetry => Sys2Proof.Machine.execXoRetry s
  | .xo32Stable => Sys2Proof.Machine.execXo32Stable s
  | .lfConfigApply => Sys2Proof.Machine.execLfConfigApply s
  | .pollPoint => Sys2Proof.Machine.execPollPoint s
  | .ridePoint => Sys2Proof.Machine.execRidePoint s
  | .fullRoundStart => Sys2Proof.Machine.execFullRoundStart s
  | .holdoffEnd => Sys2Proof.Machine.execHoldoffEnd s
  | .vlfLimiterTrip => Sys2Proof.Machine.execVlfLimiterTrip s
  | .uhfPlanApply => Sys2Proof.Machine.execUhfPlanApply s
  | .uwbCfgApply => Sys2Proof.Machine.execUwbCfgApply s
  | .radioIdleTimeout => Sys2Proof.Machine.execRadioIdleTimeout s
  | .synthesiserLock => Sys2Proof.Machine.execSynthesiserLock s
  | .rosterCompactionDone => Sys2Proof.Machine.execRosterCompactionDone s
  | .counterLogFold => Sys2Proof.Machine.execCounterLogFold s
  | .batteryRecheck => Sys2Proof.Machine.execBatteryRecheck s
  | .batteryResponseTimeout => Sys2Proof.Machine.execBatteryResponseTimeout s
  | .batteryRetry => Sys2Proof.Machine.execBatteryRetry s
  | .batteryLinkTimeout => Sys2Proof.Machine.execBatteryLinkTimeout s
  | .stagingTimeout => Sys2Proof.Machine.execStagingTimeout s
  | .range => Sys2Proof.Machine.execRange s
  | .emit => Sys2Proof.Machine.execEmit s
  | .quarantineEnd => Sys2Proof.Machine.execQuarantineEnd s
  | .drbgReseedDue => Sys2Proof.Machine.execDrbgReseedDue s
  | .attestNonceExpiry => Sys2Proof.Machine.execAttestNonceExpiry s
  | .alwaysOnTick => Sys2Proof.Machine.execAlwaysOnTick s
  | .gleanerStep => Sys2Proof.Machine.execGleanerStep s
  | .mergeBufferEviction => Sys2Proof.Machine.execMergeBufferEviction s
  | .stewardRestart => Sys2Proof.Machine.execStewardRestart s
  | .commitMsTimeout => Sys2Proof.Machine.execCommitMsTimeout s
  | .uwbReceiveSlotEnd => Sys2Proof.Machine.execUwbReceiveSlotEnd s
  | .slewComplete => Sys2Proof.Machine.execSlewComplete s
  | .vbkupLoss => Sys2Proof.Machine.execVbkupLoss s
  | .vbkupReturn => Sys2Proof.Machine.execVbkupReturn s

end Sys2Proof.Machine
end

