-- ==== Sys2Proof/Safety.lean ====
section
/-!
DEFINITION. The terms the statements are written in: a state in which no host command is pending, and what a host command must meet
to be accepted and dispatched at once (R52, R60 to R62).
-/
namespace Sys2Proof.Machine

open Sys2Proof

/-- No context has a pending command. -/
abbrev State.NoCommands (s : State) : Prop := ∀ n : Fin 8, (s.ctx n).cmds = []

/-- The program of sequencer `n` stands past its end (R283). -/
def State.ranOff (s : State) (n : Fin 3) : Bool :=
  (s.sq n).inRound && (s.sq n).stall = .none && !(s.sq n).ending && (s.sq n).image.code.length ≤ (s.sq n).pc

/-- Nothing is due of itself: no command is pending or waits for a number, and no program stands past its end. -/
abbrev State.Calm (s : State) : Prop := s.NoCommands ∧ s.jrn.held = [] ∧ ∀ n : Fin 3, s.ranOff n = false

/-- R52 step 1: a good packet of a command row is let through: on a wired port nothing more is asked; on the network port the context is
bound to the sender, its slot is WRITTEN with usage MAC, the CMAC verifies, and the host sequence lies in the window (R45, R46). -/
abbrev State.Authentic (s : State) (op : Op) (h : Hdr) (p : Octets) (obs : Obs) : Prop :=
  h.port ≠ .net ∨
    ((s.ctx h.ctx).mac = h.src ∧ s.canSign (s.ctx h.ctx).keySlot.toNat = true ∧ obs ≠ .glitch ∧ (s.ctx h.ctx).inWindow h.seq = true ∧
      s.latch (s.ctx h.ctx).keySlot.toNat = .key (s.slot (s.ctx h.ctx).keySlot.toNat).key ∧
      cmac64 (s.slot (s.ctx h.ctx).keySlot.toNat).key ((cmdPkt op h p).head ++ p) = h.cmac)

/-- R52, R60 to R62, R73, R77: a command row of an open context is accepted, numbered and dispatched at once: commands are accepted, the
port is heard, the context is open on the port, the sequence is new, the role may use the opcode, the length is right, and the almanac
has numbers at hand and its next slot is one of the 2,048 of the working ring. -/
abbrev State.Ready (s : State) (op : Op) (h : Hdr) (p : Octets) (obs : Obs) : Prop :=
  s.Calm ∧ s.working = true ∧ s.hears h.port = true ∧ s.pwr.entry = none ∧ s.pwr.presentVisit = false ∧
  (s.ctx h.ctx).isOpen = true ∧ (s.ctx h.ctx).port = h.port ∧ (s.ctx h.ctx).seen? h.seq = none ∧
  (s.ctx h.ctx).role.may op = true ∧ op.lenOk p = true ∧ p.length ≤ 1024 ∧
  s.jrn.exhausted = false ∧ s.jrn.next + 4097 ≤ s.jrn.blockEnd ∧ s.jrn.head < 2048 ∧ s.Authentic op h p obs

/-- The state without what the handling of commands touches: the host block, the almanac, working memory, the store, and the frames
that wait for the segment. -/
def State.outside (s : State) : State :=
  { s with hst := Hst.reset, jrn := Jrn.reset, mem := Mem.reset, nvm := Nvm.reset, ntc := { s.ntc with queue := [] } }

/-- The registers of the host block that hosts write, and the deferred outcomes: without its contexts, ports and bookkeeping. -/
def Hst.rest (h : Hst) : Hst := { h with ctx := Hst.reset.ctx, ports := Hst.reset.ports, rrNext := 0, baud := 0, baudBy := none }

/-- The store block without the write buffer and the commit under way. -/
def Nvm.rest (n : Nvm) : Nvm :=
  { n with work := { cells := [], written := [] }, dirty := [], oldest := none, commit := none, again := false, backlog := [], ticket := 0 }

/-- The physical bank that serves bank 7, where the almanac's working ring lies (R416, R433). -/
def Mem.ringBank (m : Mem) : Nat := m.phys (7 * 16384) / 16384

/-- Only words of the bank of the working ring differ. -/
structure Mem.RingOnly (m m' : Mem) : Prop where
  rest  : m' = { m with cells := m'.cells }
  cells : ∀ d pa, pa / 16384 ≠ m.ringBank → alGet d m'.cells pa = alGet d m.cells pa

/-- A context but for its queues of commands and events, its duplicate filter, its kept replies and its mark. -/
def Ctx.settled (x : Ctx) : Ctx :=
  { x with cmds := [], events := [], evSeq := 0, lost := 0, filter := [], filterLost := 0, kept := [], lastSeq := 0, renewed := 0, mark := 0,
           markWarned := false }

/-- `t` is `u`, but for what the handling of the command itself touches: the context's queues, filter, kept replies and mark, the ports,
the almanac and its ring, the write buffer of the store, and the frames that wait. Every register, flag, accumulator, timer, pin, session,
counter, every context's session and every word of memory outside the bank of the ring is as in `u`. -/
structure State.Becomes (u t : State) : Prop where
  outside : t.outside = u.outside
  settled : ∀ m, (t.ctx m).settled = (u.ctx m).settled
  hrest   : t.hst.rest = u.hst.rest
  nrest   : t.nvm.rest = u.nvm.rest
  mem     : u.mem.RingOnly t.mem

/-- R424, R425: the three copies of each of some critical words agree. -/
def State.critSound (s : State) (ws : List Nat) : Bool := ws.all (fun w => s.mem.critOff w = 0)

/-- R416, R433: the words of working memory are in canonical form, and no physical bank serves two logical ones. -/
abbrev Mem.Sound (m : Mem) : Prop := m.wf = true ∧ m.map.toList.Nodup ∧ ∀ b ∈ m.map.toList, b < 24

/-- R208, R209: the roster holds the credential `id` at a position whose four words read good, in a bank other than that of the almanac. -/
abbrev State.RosterAt (s : State) (id : Word) (pos : Nat) (ws : List Word) : Prop :=
  s.crd.pos? id = some pos ∧ ws.length = 4 ∧
  ∀ i < 4, decode47 (s.mem.stored (rosterAddr pos i)) = .good (ws.getD i 0) ∧ s.mem.phys (rosterAddr pos i) / 16384 ≠ s.mem.ringBank

/-- R123: the state with an accepted command of these kinds counted as activity. -/
def State.active (s : State) (op : Op) : State := if op.activity then s.modLf (fun l => { l with idleSince := s.aon.calendar }) else s

/-- R75: the almanac number of a command accepted now; 0 where its opcode is not journaled. -/
def State.jseq (s : State) (op : Op) : Word := if op.journaled then BitVec.ofNat 40 s.jrn.next else 0

/-- R49 to R53: the packet of a plain reply. -/
def replyPacket (n : Fin 8) (seq : BitVec 16) (op : Op) (st : Status) (jseq : Word) (d : Octets) : Packet :=
  { kind := .reply, ctx := n, high := 0, seq := seq, code := BitVec.ofNat 16 op.code, trunc := false, params := replyParams st.code jseq d,
    frees := true }

/-- R45, R351: the frame of a reply. -/
def replyFrame (n : Fin 8) (seq : BitVec 16) (dst : BitVec 48) (os : Octets) : TxFrame :=
  { kind := .reply n seq true, dst := dst, ether := 0x88B5, payload := os }

/-- R45, R50, R53: the reply of `st` and `d` to a command accepted in `s` has gone to its port: on a wired port it is the last packet that
waits; on the network port, with the bound slot able to sign and the tract not in quarantine, its frame is the last that waits. -/
def State.Replies (s : State) (op : Op) (h : Hdr) (st : Status) (d : Octets) (t : State) : Prop :=
  (h.port ≠ .net → (t.port h.port).out = (s.port h.port).out ++ [replyPacket h.ctx h.seq op st (s.jseq op) d]) ∧
  (h.port = .net → s.quarantined = false → ∃ more, t.ntc.queue = s.ntc.queue ++ [replyFrame h.ctx h.seq h.src
    (s.packetOctets Port.net (s.ctx h.ctx).keySlot.toNat (replyPacket h.ctx h.seq op st (s.jseq op) d) more)])

/-- R20: the state at the grant of a command accepted in `s`: it differs in the host block, the almanac and the almanac's entry only. -/
def State.Granted (s : State) (op : Op) (u : State) : Prop :=
  u.outside = (s.active op).outside ∧ u.nvm = s.nvm ∧ u.hst.ports = s.hst.ports ∧ u.hst.rest = s.hst.rest ∧
  (op.journaled = false → u.mem = s.mem ∧ u.jrn = { s.jrn with dispatch := u.jrn.dispatch })

/-- R41, R49: a packet as it stands on a wired port: the octet 0xA7, the header, the parameters, and their CRC-32C. -/
def framed (head p : Octets) : Octets := 0xA7 :: (head ++ p ++ leOf 4 (crc32c (head ++ p)).toNat)

/-- R49: the header of a host command: version 1 and type 0, CONTEXT, HOST_SEQ, OPCODE, RETRY, PARAM_LEN, and three octets of 0. -/
def commandHead (op : Op) (h : Hdr) (p : Octets) : Octets :=
  o8 0x10 ++ o8 h.ctx.val ++ o16 h.seq.toNat ++ o16 op.code ++ o8 (b2n h.retry) ++ o16 p.length ++ [0, 0, 0]

/-- R45, R49: a host command as the payload of a frame: header, parameters, CMAC and CRC-32C, and padding. -/
def netPayload (op : Op) (h : Hdr) (p pad : Octets) : Octets :=
  let body := commandHead op h p ++ p ++ leOf 8 h.cmac.toNat
  body ++ leOf 4 (crc32c body).toNat ++ pad

/-- R52, R53: the packet that answers a command outside every queue. -/
def refusalPacket (n : Fin 8) (high : Nat) (seq : BitVec 16) (code : Nat) (st : Status) (jseq : Word) (d : Octets) : Packet :=
  { kind := .reply, ctx := n, high := BitVec.ofNat 5 high, seq := seq, code := BitVec.ofNat 16 code, trunc := false,
    params := replyParams st.code jseq d, frees := false }

/-- R52, R53: the state with one packet more at a wired port, and nothing else changed. -/
def State.answered (s : State) (p : Port) (x : Packet) : State := s.modPort p (fun q => { q with out := q.out ++ [x] })

/-- R61: nothing is due of itself but the one command `c` of context `n`, which waits for `w`; its port is a wired one. -/
structure State.OneWaits (s : State) (n : Fin 8) (c : Cmd) (w : Wait) : Prop where
  own   : (s.ctx n).cmds = [c]
  run   : c.phase = .running w
  rest  : ∀ m, m ≠ n → (s.ctx m).cmds = []
  held  : s.jrn.held = []
  ran   : ∀ k : Fin 3, s.ranOff k = false
  port  : c.port ≠ .net
  stays : c.dropped = false

/-- R53, R62: the waiting command's reply is the last packet at its port. -/
def State.Completes (s : State) (n : Fin 8) (c : Cmd) (st : Status) (d : Octets) (t : State) : Prop :=
  (t.port c.port).out = (s.port c.port).out ++ [replyPacket n c.seq c.op st c.entry.seq d]

/-- R62: no reply that could go waits: the first command of a context whose reply is not at its port is either not complete, or its context
is on the network port and the tract in quarantine (R546). -/
def State.AllDelivered (s : State) : Prop :=
  ∀ n c, (s.ctx n).ready? = some c → c.port = .net ∧ s.quarantined = true ∧ c.dropped = false

end Sys2Proof.Machine
end

