-- ==== Sys2Proof/Certificates/Slice0/Obligations.lean ====
section
/-!
DEFINITION. The statements for the provers. Each names the rules of spec/ it formalises in OBLIGATIONS.json.
-/
open Sys2Proof Sys2Proof.Machine

/-- SYS_NOP, SYS_IDENTIFY, SYS_STATUS and SYS_SNAPSHOT complete: they change no register, and their replies carry what R476 and R477 name.
A snapshot gives every listed register at one point `u` of the command (its grant), clearing and latching nothing.
What the device was made with (serial number, MAC, grade, revision) is free (log entry 2). -/
def Obligations.SystemReadsAnswer : Prop :=
  (∀ (s : State) (h : Hdr) (p : Octets), s.Ready .sysNop h p .none →
    ∃ t, exec (.sysNop h p) s = .next t ∧ s.Becomes t ∧ s.Replies .sysNop h .ok [] t) ∧
  (∀ (s : State) (h : Hdr) (p : Octets), s.Ready .sysIdentify h p .none →
    ∃ t, exec (.sysIdentify h p) s = .next t ∧ s.Becomes t ∧
      s.Replies .sysIdentify h .ok
        ([0x60, 0x41, Config.grade, Config.dieRev] ++ o32 s.sys.fwVersion ++ o8 s.sys.fwSlot ++ leOf 8 Config.serial.toNat
          ++ leOf 6 Config.mac.toNat ++ [0]) t) ∧
  (∀ (s : State) (h : Hdr) (p : Octets), s.Ready .sysStatus h p .none →
    ∃ t, exec (.sysStatus h p) s = .next t ∧ s.Becomes t ∧
      s.Replies .sysStatus h .ok
        (o8 s.pwr.state.code ++ [0] ++ o32 s.summary.toNat ++ wordOctets s.mem.checker ++ wordOctets s.aon.tick
          ++ wordOctets s.aon.calendar) t) ∧
  (∀ (s : State) (h : Hdr) (p : Octets), s.Ready .sysSnapshot h p .none → 1 ≤ p8 p 0 → p8 p 0 ≤ 32 →
    (∀ i < p8 p 0, (s.regValue true (p16 p (1 + 2 * i))).isSome = true) →
    ∃ u t, s.Granted .sysSnapshot u ∧ exec (.sysSnapshot h p) s = .next t ∧ s.Becomes t ∧
      s.Replies .sysSnapshot h .ok
        (((List.range (p8 p 0)).map (fun i => wordOctets ((u.regValue true (p16 p (1 + 2 * i))).getD 0))).flatten) t)

/-- Register reads (R12, R355, R477). SYS_REG_READ gives COUNT consecutive registers, each read at its own point in increasing order, with
the effect of each read before the next; a read of an RC register answers its value and leaves it 0; a read of NTC_TIME_NS latches the
seconds; an address that is no register is answered BAD_PARAM and changes nothing. -/
def Obligations.RegisterReadsAnswer : Prop :=
  (∀ (s : State) (h : Hdr) (p : Octets), s.Ready .sysRegRead h p .none → 1 ≤ p8 p 2 → p8 p 2 ≤ 32 →
    (∀ a ∈ span (p16 p 0) (p8 p 2), (s.regValue false a).isSome = true) →
    ∃ u t, s.Granted .sysRegRead u ∧ exec (.sysRegRead h p) s = .next t ∧
      ((span (p16 p 0) (p8 p 2)).foldl State.readEffect u).Becomes t ∧
      (h.port ≠ .net → ∃ l r, (t.port h.port).out = l ++ [replyPacket h.ctx h.seq .sysRegRead .ok 0 r] ∧
        r = ((List.range (p8 p 2)).map (fun i =>
          wordOctets ((((span (p16 p 0) i).foldl State.readEffect u).regValue false (p16 p 0 + i)).getD 0))).flatten)) ∧
  (∀ (s : State) (h : Hdr) (p : Octets), s.Ready .sysRegRead h p .none → p8 p 2 = 1 → (rcMask (p16 p 0)).isSome = true →
    ∃ u t, s.Granted .sysRegRead u ∧ exec (.rcRegisterRead h p) s = .next t ∧ (u.readEffect (p16 p 0)).Becomes t ∧
      t.regValue false (p16 p 0) = some 0 ∧
      (h.port ≠ .net → ∃ l, (t.port h.port).out =
        l ++ [replyPacket h.ctx h.seq .sysRegRead .ok 0 (wordOctets ((u.regValue false (p16 p 0)).getD 0))])) ∧
  (∀ (s : State) (h : Hdr) (p : Octets), s.Ready .sysRegRead h p .none → p16 p 0 = 0x0B06 → p8 p 2 = 1 →
    ∃ t, exec (.ntcTimeNsRead h p) s = .next t ∧ (s.modNtc (fun n => { n with latchSec := n.sec })).Becomes t) ∧
  (∀ (s : State) (h : Hdr) (p : Octets), s.Ready .sysRegRead h p .none →
    (p8 p 2 = 0 ∨ 32 < p8 p 2 ∨ ∃ a ∈ span (p16 p 0) (p8 p 2), s.regValue false a = none) →
    ∃ t, exec (.sysRegRead h p) s = .next t ∧ s.Becomes t ∧ s.Replies .sysRegRead h .badParam [] t)

/-- Register writes (R12, R13, R15): a W1C register loses exactly the flags written as 1; an address that is no register, a reserved bit
written as 1 and a value outside a field's range are answered BAD_PARAM; a register that no write changes is answered NOT_PERMITTED; and
none of these changes anything. -/
def Obligations.RegisterWritesFollowTheirAccess : Prop :=
  (∀ (s : State) (h : Hdr) (p : Octets) (m : Word), s.Ready .sysRegWrite h p .none → w1cMask (p16 p 0) = some m → pW p 2 &&& ~~~m = 0 →
    ∃ u t, s.Granted .sysRegWrite u ∧ exec (.w1cFlagClear h p) s = .next t ∧ (u.w1c (p16 p 0) (pW p 2)).Becomes t ∧
      t.regValue true (p16 p 0) = some ((u.regValue true (p16 p 0)).getD 0 &&& ~~~pW p 2)) ∧
  (∀ (s : State) (h : Hdr) (p : Octets), s.Ready .sysRegWrite h p .none → s.regValue true (p16 p 0) = none →
    ∃ t, exec (.sysRegWrite h p) s = .next t ∧ s.Becomes t ∧ s.Replies .sysRegWrite h .badParam [] t) ∧
  (∀ (s : State) (h : Hdr) (p : Octets), s.Ready .sysRegWrite h p .none → (s.regValue true (p16 p 0)).isSome = true →
    w1cMask (p16 p 0) = none → rcMask (p16 p 0) = none → rwMask (p16 p 0) = none →
    ∃ t, exec (.sysRegWrite h p) s = .next t ∧ s.Becomes t ∧ s.Replies .sysRegWrite h .notPermitted [] t) ∧
  (∀ (s : State) (h : Hdr) (p : Octets) (m : Word), s.Ready .sysRegWrite h p .none → (s.regValue true (p16 p 0)).isSome = true →
    (w1cMask (p16 p 0) = some m ∨ (w1cMask (p16 p 0) = none ∧ rcMask (p16 p 0) = some m) ∨
      (w1cMask (p16 p 0) = none ∧ rcMask (p16 p 0) = none ∧ rwMask (p16 p 0) = some m)) → pW p 2 &&& ~~~m ≠ 0 →
    ∃ t, exec (.sysRegWrite h p) s = .next t ∧ s.Becomes t ∧ s.Replies .sysRegWrite h .badParam [] t)

/-- The registers whose write has a row of its own, and two of the general row: HST_UART_CFG (the new rate waits for the reply),
SYS_DEBUG_LOCK, CRD_DOMAIN.SEALED, SEQ_POLICY.SIGNED, UWB_CAL, TMRn_CFG, and HST_CLAIM_LEASE. -/
def Obligations.RegisterWritesTakeEffect : Prop :=
  (∀ (s : State) (h : Hdr) (p : Octets), s.Ready .sysRegWrite h p .none → p16 p 0 = 0x0210 → 1 ≤ (pW p 2).toNat → (pW p 2).toNat ≤ 3600 →
    ∃ t, exec (.sysRegWrite h p) s = .next t ∧ State.Becomes { s with hst := { s.hst with claimLease := pW p 2 } } t) ∧
  (∀ (s : State) (h : Hdr) (p : Octets), s.Ready .sysRegWrite h p .none → p16 p 0 = 0x0211 → 115200 ≤ (pW p 2).toNat →
    (pW p 2).toNat ≤ 3000000 →
    ∃ t, exec (.hstUartCfgWrite h p) s = .next t ∧ State.Becomes { s with hst := { s.hst with uartCfg := pW p 2 } } t ∧
      (h.port ≠ .net → t.hst.baud = s.hst.baud ∧ t.hst.baudBy = some (h.ctx, h.seq))) ∧
  (∀ (s : State) (h : Hdr) (p : Octets), s.Ready .sysRegWrite h p .none → p16 p 0 = 0x0044 → pW p 2 = 1 → (s.ctx h.ctx).role = .fleet →
    s.sys.debugLock = false →
    ∃ t, exec (.sysDebugLockWrite h p) s = .next t ∧
      (State.critWritten { s with sys := { s.sys with debugLock := true } } 43 1).Becomes t) ∧
  (∀ (s : State) (h : Hdr) (p : Octets), s.Ready .sysRegWrite h p .none → p16 p 0 = 0x0702 → pW p 2 &&& ~~~ones 0 25 = 0 →
    bit (pW p 2) 24 = true → s.crd.sealed = false →
    ∃ t, exec (.domainSeal h p) s = .next t ∧
      ((s.modCrd (fun c => { c with domain := fld (pW p 2) 0 24, sealed := true })).critWritten 43 1).Becomes t) ∧
  (∀ (s : State) (h : Hdr) (p : Octets), s.Ready .sysRegWrite h p .none → p16 p 0 = 0x0900 → pW p 2 = 1 → s.seq.signed = false →
    ∃ t, exec (.seqPolicySigned h p) s = .next t ∧
      (State.critWritten { s with seq := { s.seq with signed := true } } 43 1).Becomes t) ∧
  (∀ (s : State) (h : Hdr) (p : Octets) (i : Fin 4), s.Ready .sysRegWrite h p .none → p16 p 0 = 0x0610 + i.val →
    pW p 2 &&& ~~~ones 0 (if i.val % 2 = 0 then 32 else 39) = 0 → s.nvm.regLocked = false → s.uwb.round = none →
    ∃ t, exec (.uwbCalWrite h p) s = .next t ∧ (s.modUwb (fun u => { u with cal := u.cal.set i (pW p 2) })).Becomes t) ∧
  (∀ (s : State) (h : Hdr) (p : Octets) (n : Fin 32), s.Ready .sysRegWrite h p .none → p16 p 0 = 0x0C20 + n.val →
    pW p 2 &&& ~~~ones 0 37 = 0 → s.badTimer n (pW p 2) (BitVec.allOnes 40) = false → (s.tim n).run = false →
    ∃ t, exec (.tmrCfgWrite h p) s = .next t ∧
      (s.setTim n { s.tim n with cfg := pW p 2, cmp := BitVec.allOnes 40, count := 0 }).Becomes t)


/-- SYS_RESET, SYS_SELF_TEST, the firmware transfer and the restarts (R422, R478 to R480, R545). SYS_RESET and SYS_FW_COMMIT mark the restart that
follows the delivery of their reply; a self-test clears what its passing tests clear, and reports the lowest failing test; a chunk is taken only
where it continues the image; a transfer without a chunk for 60 s is dropped, and not before. A restart that a command asked for begins once its
reply is gone, after the power-down commit; of a firmware image that fails its checks the old slot stays; a steward restart closes every context,
keeps the tracts' sessions and timers, and starts the almanac anew with a START entry of kind 4.
An event that is not due changes nothing: the model's choice (log entry 5). -/
def Obligations.RestartsSelfTestAndFirmware : Prop :=
  (∀ (s : State) (h : Hdr) (p : Octets), s.Ready .sysReset h p .none → s.aboveDeny = false →
    ∃ t, exec (.sysReset h p) s = .next t ∧ State.Becomes { s with sys := { s.sys with restart := some 1 } } t ∧
      s.Replies .sysReset h .ok [] t) ∧
  (∀ (s : State) (h : Hdr) (p : Octets) (bad : BitVec 5) (detail : List Word) (gap : Bool),
    s.Ready .sysSelfTest h p (.selfTest bad detail gap) → p16 p 0 < 32 → (p16 p 0 < 16 ∨ (s.uwb.round = none ∧ gap = true)) →
    BitVec.ofNat 5 (p16 p 0) &&& bad = 0 →
    ∃ t, exec (.sysSelfTest h p (.selfTest bad detail gap)) s = .next t ∧
      (let v : State := if (p16 p 0).testBit 2 then { s with cph := { s.cph with katModes := 0 } } else s
       State.Becomes (if (p16 p 0).testBit 3 && v.cph.drbg = .error then State.reseeded { v with cph := { v.cph with entropyOk := true } } else v) t) ∧
      (h.port ≠ .net → s.Replies .sysSelfTest h .ok (o16 (p16 p 0) ++ [0, 0]) t)) ∧
  (∀ (s : State) (h : Hdr) (p : Octets) (bad : BitVec 5) (detail : List Word) (gap : Bool) (i : Nat),
    s.Ready .sysSelfTest h p (.selfTest bad detail gap) → p16 p 0 < 16 → i < 4 → (p16 p 0).testBit i = true → bad.getLsbD i = true →
    (∀ j < i, (p16 p 0).testBit j && bad.getLsbD j = false) →
    ∃ t, exec (.sysSelfTest h p (.selfTest bad detail gap)) s = .next t ∧
      (h.port ≠ .net → s.Replies .sysSelfTest h .selfTestFail
        (o8 i ++ o16 (BitVec.ofNat 5 (p16 p 0) &&& bad).toNat ++ wordOctets (detail.getD i 0)) t)) ∧
  (∀ (s : State) (h : Hdr) (p : Octets), s.Ready .sysFwBegin h p .none → (∀ f, s.sys.fw = some f → f.ctx = h.ctx) →
    s.sys.fwVersion ≤ p32 p 4 →
    ∃ t, exec (.sysFwBegin h p) s = .next t ∧ s.Replies .sysFwBegin h .ok [] t ∧
      State.Becomes { s with sys := { s.sys with
        fw := some { ctx := h.ctx, size := p32 p 0, version := p32 p 4, received := 0, image := [], last := s.aon.tick } } } t) ∧
  (∀ (s : State) (h : Hdr) (p : Octets) (f : FwXfer), s.Ready .sysFwChunk h p .none → s.sys.fw = some f → f.ctx = h.ctx →
    p32 p 0 = f.received → f.received + (p.length - 4) ≤ f.size →
    ∃ t, exec (.sysFwChunk h p) s = .next t ∧ s.Replies .sysFwChunk h .ok (o32 (f.received + (p.length - 4))) t ∧
      State.Becomes { s with sys := { s.sys with
        fw := some { f with received := f.received + (p.length - 4), image := f.image ++ p.drop 4, last := s.aon.tick } } } t) ∧
  (∀ (s : State) (h : Hdr) (p : Octets) (f : FwXfer), s.Ready .sysFwCommit h p (.verdict true) → s.aboveDeny = false →
    s.sys.fw = some f → f.ctx = h.ctx → f.received = f.size →
    ∃ t, exec (.sysFwCommit h p (.verdict true)) s = .next t ∧ s.Replies .sysFwCommit h .ok [] t ∧
      State.Becomes { s with sys := { s.sys with fw := none, fwNext := some f.version, restart := some 2 } } t) ∧
  (∀ (s : State) (h : Hdr) (p : Octets) (f : FwXfer), s.Ready .sysFwCommit h p (.verdict false) → s.aboveDeny = false →
    s.sys.fw = some f → f.ctx = h.ctx → f.received = f.size →
    ∃ t, exec (.sysFwCommit h p (.verdict false)) s = .next t ∧ s.Replies .sysFwCommit h .authFail [] t ∧ s.Becomes t) ∧
  (∀ (s : State) (f : FwXfer), s.Calm → s.sys.fw = some f →
    exec .fwTransferTimeout s = .next (if 60 * 32768 ≤ s.age f.last then { s with sys := { s.sys with fw := none } } else s)) ∧
  (∀ (s : State) (k : Nat) (ok : Bool), s.Calm → s.sys.restart = some k → s.pwr.start = none → s.pwr.state = .run →
    ∃ t x, exec (.deviceRestart ok) s = .next t ∧ t.pwr.start = some x ∧ x.phase = .mem ∧ x.kind = (if k = 2 then .firmware else .reset) ∧
      t.sys.restart = none ∧ t.sys.fwSlot = (if k = 2 ∧ ok = true then 1 - s.sys.fwSlot else s.sys.fwSlot) ∧
      ∃ g, t.nvm.shadows.head? = some g ∧ g.complete = true ∧ g.val.calendar = s.aon.calendar) ∧
  (∀ (s : State) (ok : Bool), s.Calm → s.sys.restart = none → exec (.deviceRestart ok) s = .next s) ∧
  (∀ (s : State), s.Calm → s.pwr.start = none → s.pwr.state = .run → s.sys.faultBoot = false →
    ∃ t, exec .stewardRestart s = .next t ∧ (∀ n, (t.ctx n).isOpen = false) ∧ t.pwr.state = .run ∧ t.pwr.entry = none ∧ t.jrn.startKind = 4 ∧
      t.sys.fw = none ∧ t.aon.tick = s.aon.tick ∧ t.aon.nonce = 0 ∧ t.tmr = s.tmr ∧ t.uwb.sessions = s.uwb.sessions ∧ t.crd.battery = none)

/-- The tamper inputs (R268, R269, R425, R510). With the copies of the latch word agreeing, SYS_TAMPER_CONFIG takes the settings of its input,
whose debounce starts afresh; SYS_TAMPER_CLEAR clears the latched bits of an inactive input and of the position input beside it, and is refused
while the input is enabled and active. Once in 32 ticks each tamper and position input is sampled and debounced; a tamper input that is
enabled and becomes active latches its bit, and no latch is ever cleared by a sample. -/
def Obligations.TamperInputsAreKeptAndSampled : Prop :=
  (∀ (s : State) (h : Hdr) (p : Octets) (k : Fin 2), s.Ready .sysTamperConfig h p .none → s.critSound [5] = true → p8 p 0 = k.val →
    p8 p 1 = 0 → p8 p 2 ≤ 1 → p8 p 3 ≤ 1 → p8 p 4 ≠ 0 →
    ∃ t, exec (.sysTamperConfig h p) s = .next t ∧
      State.Becomes { s with sys := { s.sys with tamper := (s.sys.tamper.set k
        { enable := p8 p 2 = 1, high := p8 p 3 = 1, debounce := p8 p 4, input := Debounce.reset }) } } t) ∧
  (∀ (s : State) (h : Hdr) (p : Octets) (k : Fin 2), s.Ready .sysTamperConfig h p .none → s.critSound [5] = true → s.jrn.next + 4098 ≤ s.jrn.blockEnd → p8 p 0 = k.val →
    p8 p 1 = 1 → ((s.sys.tamper[k]).enable && (s.sys.tamper[k]).active) = false →
    ∃ t, exec (.sysTamperClear h p) s = .next t ∧
      State.Becomes { s with sys := { s.sys with latch := s.sys.latch &&& ~~~(BitVec.ofNat 4 (2 ^ k.val) ||| BitVec.ofNat 4 (2 ^ (2 + k.val))) } } t) ∧
  (∀ (s : State) (h : Hdr) (p : Octets) (k : Fin 2), s.Ready .sysTamperConfig h p .none → s.critSound [5] = true → p8 p 0 = k.val →
    p8 p 1 = 1 → (s.sys.tamper[k]).enable = true → (s.sys.tamper[k]).active = true →
    ∃ t, exec (.sysTamperClear h p) s = .next t ∧ s.Becomes t ∧ s.Replies .sysTamperConfig h .wrongState [] t) ∧
  (∀ (s : State) (t0 t1 a b : Bool) (ia ib : Nat), s.Calm → s.working = true →
    (∀ x, s.sys.sampled = some x → 32 ≤ s.age x) →
    ∃ t, exec (.alwaysOnInputSample t0 t1 a b ia ib) s = .next t ∧ t.sys.sampled = some s.aon.tick ∧
      (t.sys.tamper[(0 : Fin 2)]).input = (s.sys.tamper[(0 : Fin 2)]).input.sample (debounceN (s.sys.tamper[(0 : Fin 2)]).debounce) t0 ∧
      (t.sys.tamper[(1 : Fin 2)]).input = (s.sys.tamper[(1 : Fin 2)]).input.sample (debounceN (s.sys.tamper[(1 : Fin 2)]).debounce) t1 ∧
      t.sys.pos[(0 : Fin 2)] = (s.sys.pos[(0 : Fin 2)]).sample (debounceN 10) a ∧ t.sys.pos[(1 : Fin 2)] = (s.sys.pos[(1 : Fin 2)]).sample (debounceN 10) b ∧
      s.sys.latch &&& ~~~t.sys.latch = 0 ∧
      (∀ k : Fin 2, (s.sys.tamper[k]).enable = true → (s.sys.tamper[k]).active = false → (t.sys.tamper[k]).active = true →
        t.sys.latch.getLsbD k.val = true))


/-- Sessions (R54, R58, R87). HST_OPEN of a closed context on a wired port opens it on that port with role OBSERVER, an empty event mask, no
claim, and a fresh nonce, which the reply carries; HST_CLOSE ends the session and closes the context, and clears its duplicate filter and
its mark.
The nonce is a free value (log entry 2). -/
def Obligations.SessionsOpenAndClose : Prop :=
  (∀ (s : State) (h : Hdr) (p : Octets), s.Calm → s.working = true → s.hears h.port = true → h.port ≠ .net → s.pwr.entry = none →
    s.pwr.presentVisit = false → (s.ctx h.ctx).isOpen = false → (s.ctx h.ctx).role = .observer → p.length = 9 → s.jrn.exhausted = false →
    s.jrn.next + 4097 ≤ s.jrn.blockEnd → s.jrn.head < 2048 → p8 p 0 = h.ctx.val → p8 p 1 ≤ 1 → p8 p 2 = 0 → p48 p 3 = 0 →
    s.drbgBlocked = none →
    ∃ t, exec (.hstOpen h p) s = .next t ∧
      (t.port h.port).out.getLast? = some (replyPacket h.ctx h.seq .hstOpen .ok (BitVec.ofNat 40 s.jrn.next) (leOf 8 (Config.drbg s.free).toNat)) ∧
      (t.ctx h.ctx).isOpen = true ∧ (t.ctx h.ctx).port = h.port ∧ (t.ctx h.ctx).push = decide (p8 p 1 = 1) ∧
      (t.ctx h.ctx).role = .observer ∧ (t.ctx h.ctx).mask = 0 ∧ (t.ctx h.ctx).claim = 0 ∧ (t.ctx h.ctx).events = [] ∧
      (t.ctx h.ctx).nonce = Config.drbg s.free ∧ (t.ctx h.ctx).nonceLive = true ∧
      (∀ m, m ≠ h.ctx → (t.ctx m).settled = (s.ctx m).settled)) ∧
  (∀ (s : State) (h : Hdr) (p : Octets), s.Ready .hstClose h p .none → h.port ≠ .net →
    ∃ t, exec (.hstClose h p) s = .next t ∧
      (t.port h.port).out.getLast? = some (replyPacket h.ctx h.seq .hstClose .ok (BitVec.ofNat 40 s.jrn.next) []) ∧
      (t.ctx h.ctx).isOpen = false ∧ (t.ctx h.ctx).role = .observer ∧ (t.ctx h.ctx).mask = 0 ∧ (t.ctx h.ctx).claim = 0 ∧
      (t.ctx h.ctx).events = [] ∧ (t.ctx h.ctx).filter = [] ∧ (t.ctx h.ctx).mark = 0 ∧
      (∀ m, m ≠ h.ctx → (t.ctx m).settled = (s.ctx m).settled))

/-- Roles (R55, R56). HST_SET_ROLE sets the role OBSERVER at once, and another role where its slot is EMPTY on SPI or the proof is the CMAC of
the context's live nonce, its number and the role; a wrong proof leaves the role, counts as a failure and is answered AUTH_FAIL; every
attempt uses the nonce up and draws a fresh one, which the reply carries.
Nonces and CMAC keys are free values (log entry 2). -/
def Obligations.RolesNeedTheirProof : Prop :=
  (∀ (s : State) (h : Hdr) (p : Octets) (role : Role), s.Ready .hstSetRole h p .none → Role.ofCode (p8 p 0) = some role →
    (role = .battery → h.port = .net) → (s.ctx h.ctx).roleTries.active s.aon.tick = false →
    (role = .observer ∨ ((s.slot role.code).st = .empty ∧ (h.port = .spiA ∨ h.port = .spiB)) ∨
      ((s.slot role.code).st = .written ∧ (s.ctx h.ctx).nonceLive = true ∧ s.cph.katModes.getLsbD 0 = false ∧
        s.latch role.code = .key (s.slot role.code).key ∧
        (cmac (s.slot role.code).key (leOf 8 (s.ctx h.ctx).nonce.toNat ++ o8 h.ctx.val ++ o8 role.code)).take 8 = pRun p 1 8)) →
    s.drbgBlocked = none →
    ∃ t, exec (.hstSetRole h p) s = .next t ∧
      (s.useRandom.modCtx h.ctx (fun x => { x with role := role, nonce := Config.drbg s.free, nonceLive := true })).Becomes t ∧
      s.Replies .hstSetRole h .ok (leOf 8 (Config.drbg s.free).toNat) t) ∧
  (∀ (s : State) (h : Hdr) (p : Octets) (role : Role), s.Ready .hstSetRole h p .none → Role.ofCode (p8 p 0) = some role →
    role ≠ .observer → (role = .battery → h.port = .net) → (s.ctx h.ctx).roleTries.active s.aon.tick = false →
    (s.slot role.code).st = .written → (s.ctx h.ctx).nonceLive = true → s.cph.katModes.getLsbD 0 = false →
    s.latch role.code = .key (s.slot role.code).key →
    (cmac (s.slot role.code).key (leOf 8 (s.ctx h.ctx).nonce.toNat ++ o8 h.ctx.val ++ o8 role.code)).take 8 ≠ pRun p 1 8 →
    s.drbgBlocked = none →
    ∃ t, exec (.hstSetRole h p) s = .next t ∧
      (s.useRandom.modCtx h.ctx (fun x => { x with
        roleTries := x.roleTries.fail s.aon.tick, nonce := Config.drbg s.free, nonceLive := true })).Becomes t ∧
      s.Replies .hstSetRole h .authFail (leOf 8 (Config.drbg s.free).toNat) t) ∧
  (∀ (s : State) (n : Fin 8), s.Calm →
    exec (.roleBackoffEnd n) s = .next (s.modCtx n (fun x => { x with roleTries := x.roleTries.expire s.aon.tick }))) ∧
  (∀ (s : State) (n : Fin 8), s.Calm →
    exec (.pwBackoffEnd n) s = .next (s.modCtx n (fun x => { x with pwTries := x.pwTries.expire s.aon.tick })))

/-- Events and claims (R65, R67, R68, R481). HST_EVENT_READ takes from the oldest on as many whole events as fit; HST_EVENT_MASK takes a
mask whose reserved bits are zero; a claim on a power state is set, given up, and lapses after the lease without an accepted command. -/
def Obligations.EventsAndClaims : Prop :=
  (∀ (s : State) (h : Hdr) (p : Octets), s.Ready .hstEventRead h p .none → 1 ≤ p8 p 0 → p8 p 0 ≤ 8 → (s.ctx h.ctx).push = false →
    ∃ t, exec (.hstEventRead h p) s = .next t ∧ s.Becomes t ∧
      (let r := takeEvents (p8 p 0) 1016 (s.ctx h.ctx).lost (s.ctx h.ctx).events
       s.Replies .hstEventRead h .ok (o8 r.1 ++ r.2) t ∧ (t.ctx h.ctx).events = (s.ctx h.ctx).events.drop r.1 ∧
        (t.ctx h.ctx).lost = (if r.1 = 0 then (s.ctx h.ctx).lost else 0))) ∧
  (∀ (s : State) (h : Hdr) (p : Octets), s.Ready .hstEventMask h p .none → BitVec.ofNat 16 (p16 p 0) &&& 0xE001 = 0 →
    ∃ t, exec (.hstEventMask h p) s = .next t ∧ (s.modCtx h.ctx (fun x => { x with mask := BitVec.ofNat 16 (p16 p 0) })).Becomes t ∧
      s.Replies .hstEventMask h .ok [] t) ∧
  (∀ (s : State) (h : Hdr) (p : Octets), s.Ready .hstClaim h p .none → 1 ≤ p8 p 0 → p8 p 0 ≤ 3 →
    ∃ t, exec (.hstClaim h p) s = .next t ∧ (s.modCtx h.ctx (fun x => { x with claim := p8 p 0 })).Becomes t ∧
      s.Replies .hstClaim h .ok [] t) ∧
  (∀ (s : State) (h : Hdr) (p : Octets), s.Ready .hstUnclaim h p .none →
    ∃ t, exec (.hstUnclaim h p) s = .next t ∧ (s.modCtx h.ctx (fun x => { x with claim := 0 })).Becomes t ∧
      s.Replies .hstUnclaim h .ok [] t) ∧
  (∀ (s : State) (n : Fin 8), s.Calm → (s.ctx n).claim ≠ 0 →
    exec (.claimLeaseLapse n) s =
      .next (if fld s.hst.claimLease 0 12 * 32768 ≤ s.age (s.ctx n).renewed then s.modCtx n (fun x => { x with claim := 0 }) else s))


/-- Reading the almanac, and the wrap mark (R85, R88 to R91). JRN_STATUS gives the numbers and counts of both rings. With every word of the
working ring good and no entry asked for in the non-volatile ring alone, JRN_READ gives the first M entries, oldest first, whose number is at
least FROM; JRN_LOOKUP finds an entry by its number, and the newest one by its context and host sequence, and answers BLANK where there is none.
JRN_MARK of a number that no further entry threatens sets the mark of its context; a mark of 0 takes it away; a number beyond the newest
entry, which is that of the command itself, is answered BAD_PARAM. -/
def Obligations.AlmanacIsReadAndMarked : Prop :=
  (∀ (s : State) (h : Hdr) (p : Octets), s.Ready .jrnStatus h p .none →
    ∃ t, exec (.jrnStatus h p) s = .next t ∧ s.Becomes t ∧
      s.Replies .jrnStatus h .ok (wordOctets s.newest ++ wordOctets s.oldestWm ++ wordOctets s.newest ++ wordOctets s.oldestNv
        ++ wordOctets s.newestNv ++ o16 s.jrn.count ++ o16 s.jrn.nvCount ++ wordOctets s.jrn.startSeq ++ o8 s.jrn.startKind) t) ∧
  (∀ (s : State) (h : Hdr) (p : Octets) (w : Nat → Nat → Word), s.Ready .jrnRead h p .none → 1 ≤ p8 p 5 → p8 p 5 ≤ 40 →
    (∀ i < s.jrn.count, ∀ j < 5, decode47 (s.mem.stored (ringAddr (s.jrn.slotOf i) + j)) = .good (w i j)) →
    (∀ x ∈ s.nvSeqs, x.1 < (pW p 0).toNat ∨ (s.jrn.count ≠ 0 ∧ s.oldestWm.toNat ≤ x.1)) →
    ∃ t, exec (.jrnRead h p) s = .next t ∧ s.Becomes t ∧
      (let l := ((List.range s.jrn.count).filter (fun i => decide ((pW p 0).toNat ≤ (w i 0).toNat))).take (p8 p 5)
       s.Replies .jrnRead h .ok (o8 l.length ++ [0, 0] ++
         (l.map (fun i => ((List.range 5).map (fun j => wordOctets (w i j))).flatten)).flatten) t)) ∧
  (∀ (s : State) (h : Hdr) (p : Octets) (w : Nat → Nat → Word) (i : Nat), s.Ready .jrnLookup h p .none → p8 p 0 = 0 → p8 p 6 ≤ 7 →
    (∀ k < s.jrn.count, ∀ j < 5, decode47 (s.mem.stored (ringAddr (s.jrn.slotOf k) + j)) = .good (w k j)) →
    i < s.jrn.count → w i 0 = pW p 1 → (∀ k < i, w k 0 ≠ pW p 1) →
    ∃ t, exec (.jrnLookup h p) s = .next t ∧ s.Becomes t ∧
      s.Replies .jrnLookup h .ok (0 :: ((List.range 5).map (fun j => wordOctets (w i j))).flatten) t) ∧
  (∀ (s : State) (h : Hdr) (p : Octets) (w : Nat → Nat → Word) (i : Nat), s.Ready .jrnLookup h p .none → p8 p 0 = 1 → p8 p 6 ≤ 7 →
    (∀ k < s.jrn.count, ∀ j < 5, decode47 (s.mem.stored (ringAddr (s.jrn.slotOf k) + j)) = .good (w k j)) →
    i < s.jrn.count → fld (w i 2) 32 3 = p8 p 6 → fld (w i 2) 16 16 = p16 p 7 → bit (w i 3) 18 = false →
    (∀ k < s.jrn.count, i < k → fld (w k 2) 32 3 ≠ p8 p 6 ∨ fld (w k 2) 16 16 ≠ p16 p 7 ∨ bit (w k 3) 18 = true) →
    ∃ t, exec (.jrnLookup h p) s = .next t ∧ s.Becomes t ∧
      s.Replies .jrnLookup h .ok (0 :: ((List.range 5).map (fun j => wordOctets (w i j))).flatten) t) ∧
  (∀ (s : State) (h : Hdr) (p : Octets) (w : Nat → Nat → Word), s.Ready .jrnLookup h p .none → p8 p 0 = 1 → p8 p 6 ≤ 7 →
    (∀ k < s.jrn.count, ∀ j < 5, decode47 (s.mem.stored (ringAddr (s.jrn.slotOf k) + j)) = .good (w k j)) →
    (∀ k < s.jrn.count, fld (w k 2) 32 3 ≠ p8 p 6 ∨ fld (w k 2) 16 16 ≠ p16 p 7 ∨ bit (w k 3) 18 = true) →
    ∃ t, exec (.jrnLookup h p) s = .next t ∧ s.Becomes t ∧ s.Replies .jrnLookup h .blank [] t) ∧
  (∀ (s : State) (h : Hdr) (p : Octets), s.Ready .jrnMark h p .none → pW p 0 = BitVec.ofNat 40 s.jrn.next → s.jrn.next < 2 ^ 40 →
    s.jrn.count < 1024 → s.mem.wf = true →
    (∀ i < s.jrn.count, ∃ w, decode47 (s.mem.stored (ringAddr (s.jrn.slotOf i))) = .good w ∧ w ≤ pW p 0) →
    ∃ t, exec (.jrnMark h p) s = .next t ∧ s.Becomes t ∧ s.Replies .jrnMark h .ok [] t ∧ (t.ctx h.ctx).mark = pW p 0 ∧
      (t.ctx h.ctx).markWarned = false) ∧
  (∀ (s : State) (h : Hdr) (p : Octets), s.Ready .jrnMark h p .none → pW p 0 = 0 →
    ∃ t, exec (.jrnMark h p) s = .next t ∧ s.Becomes t ∧ s.Replies .jrnMark h .ok [] t ∧ (t.ctx h.ctx).mark = 0) ∧
  (∀ (s : State) (h : Hdr) (p : Octets), s.Ready .jrnMark h p .none → s.jrn.next < (pW p 0).toNat →
    ∃ t, exec (.jrnMark h p) s = .next t ∧ s.Becomes t ∧ s.Replies .jrnMark h .badParam [] t)


/-- The power commands (R394, R397 to R401, R413, R414). IDLE is reached at once where no claim forbids it; naming the present state changes
nothing; a claim that forbids the state with WAIT_MS 0 refuses the entry, with ENTRY_REFUSED; SLEEP and DEEP with a wake source, and OFF with
WAKE0, begin their entry: the state is aimed at, with the drain under way and no reply yet. PWR_WAKE_CONFIG takes the sources, the wake timer and
the retention mask; PWR_PROFILE naming the profile in force changes nothing, in IDLE without a boost it takes the profile at once, and
otherwise VCORE ramps to it; the residency and the wake record are read without an effect. -/
def Obligations.PowerCommands : Prop :=
  (∀ (s : State) (h : Hdr) (p : Octets), s.Ready .pwrEnter h p .none → p8 p 0 = 1 → p8 p 1 = 0 → p16 p 3 ≤ 60000 → s.pwr.state = .run →
    s.claimForbids .idle = false →
    ∃ t, exec (.pwrEnter h p) s = .next t ∧ s.Replies .pwrEnter h .ok [] t ∧
      State.Becomes { s with pwr := { s.pwr with
        state := .idle, visit := s.aon.tick, forced := false, onBkup := false, entry := none,
        boost := s.pwr.boost || s.fullRound || s.uwb.round.isSome } } t) ∧
  (∀ (s : State) (h : Hdr) (p : Octets), s.Ready .pwrEnter h p .none → p8 p 1 = 0 → p16 p 3 ≤ 60000 → s.pwr.state.code = p8 p 0 →
    ((s.ctx h.ctx).role = .drive → p8 p 0 = 1) →
    ∃ t, exec (.pwrEnter h p) s = .next t ∧ s.Becomes t ∧ s.Replies .pwrEnter h .ok [] t) ∧
  (∀ (s : State) (h : Hdr) (p : Octets), s.Ready .pwrEnter h p .none → p8 p 0 = 1 → p8 p 1 = 0 → p16 p 3 = 0 → s.pwr.state = .run →
    s.claimForbids .idle = true →
    ∃ t, exec (.pwrEnter h p) s = .next t ∧ s.Replies .pwrEnter h .busy [] t ∧
      State.Becomes { s with pwr := { s.pwr with flags := s.pwr.flags ||| 0x80 } } t) ∧
  (∀ (s : State) (h : Hdr) (p : Octets), s.Ready .pwrEnter h p .none → 2 ≤ p8 p 0 → p8 p 0 ≤ 4 → p8 p 1 = 0 → p16 p 3 ≤ 60000 →
    (s.ctx h.ctx).role ≠ .drive → s.aboveDeny = false → s.pwr.xo32 = true → (p8 p 0 ≤ 3 → s.pwr.canWake = true) →
    (p8 p 0 = 4 → bit s.pwr.wakeCfg 0 = true) → s.claimForbids (PState.ofCode (p8 p 0)) = false →
    ∃ t e, exec (.pwrEnter h p) s = .next t ∧ t.pwr.state = s.pwr.state ∧ t.pwr.entry = some e ∧ e.target = PState.ofCode (p8 p 0) ∧
      e.retain = BitVec.ofNat 8 (p8 p 2) ∧ e.force = false ∧ e.phase = .drain ∧ (t.ctx h.ctx).cmds.length = 1 ∧
      t.hst.ports = s.hst.ports ∧ t.sys = s.sys ∧ t.tmr = s.tmr ∧ t.aon = s.aon ∧ s.mem.RingOnly t.mem) ∧
  (∀ (s : State) (h : Hdr) (p : Octets), s.Ready .pwrWakeConfig h p .none → p16 p 0 ≤ 2047 → (p16 p 0).testBit 10 = true →
    (p16 p 0).testBit 9 = false → p8 p 6 ≤ 3 → p8 p 7 ≤ 1 →
    ∃ t, exec (.pwrWakeConfig h p) s = .next t ∧ State.Becomes { s with pwr := { s.pwr with
      wakeCfg := put 0 11 (p16 p 0) ||| put 11 2 (p8 p 6) ||| put 13 2 (p8 p 7) ||| put 15 8 (p8 p 8), wakeTmr := put 0 32 (p32 p 2) } } t) ∧
  (∀ (s : State) (h : Hdr) (p : Octets), s.Ready .pwrProfile h p .none → p8 p 0 ≤ 2 → s.pwr.profNext = none → s.pwr.profile = p8 p 0 →
    ∃ t, exec (.pwrProfile h p) s = .next t ∧ s.Becomes t) ∧
  (∀ (s : State) (h : Hdr) (p : Octets), s.Ready .pwrProfile h p .none → p8 p 0 ≤ 2 → s.pwr.profile ≠ p8 p 0 → s.pwr.state = .idle →
    s.pwr.boost = false →
    ∃ t, exec (.pwrProfile h p) s = .next t ∧ State.Becomes { s with pwr := { s.pwr with profile := p8 p 0, profNext := none } } t) ∧
  (∀ (s : State) (h : Hdr) (p : Octets), s.Ready .pwrProfile h p .none → p8 p 0 ≤ 2 → s.pwr.profile ≠ p8 p 0 →
    (s.pwr.state = .run ∨ s.pwr.boost = true) →
    ∃ t, exec (.pwrProfile h p) s = .next t ∧ State.Becomes { s with pwr := { s.pwr with profNext := some (p8 p 0), ramping := true } } t) ∧
  (∀ (s : State) (h : Hdr) (p : Octets), s.Ready .pwrResidencyRead h p .none →
    ∃ t, exec (.pwrResidencyRead h p) s = .next t ∧ s.Becomes t ∧
      s.Replies .pwrResidencyRead h .ok ((s.pwr.res.toList.map wordOctets).flatten ++ (s.pwr.wrap.toList.map o8).flatten) t) ∧
  (∀ (s : State) (h : Hdr) (p : Octets), s.Ready .pwrWakeRecordRead h p .none →
    ∃ t, exec (.pwrWakeRecordRead h p) s = .next t ∧ s.Becomes t ∧ s.Replies .pwrWakeRecordRead h .ok s.pwr.wake.octets t)



/-- LF configuration (R122, R124, R128). Between rounds LF_CHANNEL_CONFIG gives each coil of its mask the fields its SET octet names, and
leaves every other coil and field; during a round the change waits for the headland; a current or carrier outside the regulatory limits is
refused with REGULATORY_LIMIT, and the flag is raised. -/
def Obligations.LfChannelsAreConfigured : Prop :=
  (∀ (s : State) (h : Hdr) (p : Octets), s.Ready .lfChannelConfig h p .none → p16 p 0 ≤ 0xFFF → p8 p 2 ≤ 15 → p8 p 3 ≤ 1 → p8 p 4 ≤ 63 →
    p8 p 5 ≤ 127 → p8 p 6 ≤ 1 → s.lf.round = none → s.lf.changes = [] →
    (let l := s.lf.apply (.channels (p16 p 0) (p8 p 2) (p8 p 3) (p8 p 4) (p8 p 5) (p8 p 6))
     l.frameOk = true ∧ l.planOk = true ∧ s.lfLegal l = true) →
    ∃ t, exec (.lfChannelConfig h p) s = .next t ∧ State.Becomes { s with lf := { s.lf with coils := t.lf.coils } } t ∧
      s.Replies .lfChannelConfig h .ok [] t ∧
      ∀ n : Fin 12, (if (p16 p 0).testBit n.val then
          (t.lf.coil n).enabled = (if (p8 p 2).testBit 0 then decide (p8 p 3 = 1) else (s.lf.coil n).enabled) ∧
          (t.lf.coil n).current = (if (p8 p 2).testBit 1 then p8 p 4 else (s.lf.coil n).current) ∧
          (t.lf.coil n).trim = (if (p8 p 2).testBit 2 then p8 p 5 else (s.lf.coil n).trim) ∧
          (t.lf.coil n).auto = (if (p8 p 2).testBit 3 then decide (p8 p 6 = 1) else (s.lf.coil n).auto) ∧
          (t.lf.coil n).cls = (s.lf.coil n).cls
        else t.lf.coil n = s.lf.coil n)) ∧
  (∀ (s : State) (h : Hdr) (p : Octets), s.Ready .lfChannelConfig h p .none → p16 p 0 ≤ 0xFFF → p8 p 2 ≤ 15 → p8 p 3 ≤ 1 → p8 p 4 ≤ 63 →
    p8 p 5 ≤ 127 → p8 p 6 ≤ 1 → s.lf.round.isSome = true →
    (let l := s.lf.ahead.apply (.channels (p16 p 0) (p8 p 2) (p8 p 3) (p8 p 4) (p8 p 5) (p8 p 6))
     l.frameOk = true ∧ l.planOk = true ∧ s.lfLegal l = true) →
    ∃ t, exec (.lfChannelConfig h p) s = .next t ∧
      (s.modLf (fun l => { l with
        changes := l.changes ++ [.channels (p16 p 0) (p8 p 2) (p8 p 3) (p8 p 4) (p8 p 5) (p8 p 6)] })).Becomes t) ∧
  (∀ (s : State) (h : Hdr) (p : Octets), s.Ready .lfChannelConfig h p .none → p16 p 0 ≤ 0xFFF → p8 p 2 ≤ 15 → p8 p 3 ≤ 1 → p8 p 4 ≤ 63 →
    p8 p 5 ≤ 127 → p8 p 6 ≤ 1 →
    (let l := s.lf.ahead.apply (.channels (p16 p 0) (p8 p 2) (p8 p 3) (p8 p 4) (p8 p 5) (p8 p 6))
     l.frameOk = true ∧ l.planOk = true ∧ s.lfLegal l = false) →
    ∃ t, exec (.lfChannelConfig h p) s = .next t ∧ s.Replies .lfChannelConfig h .regulatoryLimit [] t ∧
      (s.modLf (fun l => { l with flags := l.flags ||| 8 })).Becomes t)

/-- Tuning, diagnosis and service frames, the plough's unit and the field map (R63, R98, R116, R121, R123, R129 to R131, R224). In a gap LF_TUNE
and LF_DIAGNOSE with FRESH pulse the enabled coils of their mask, each pulse recorded for the duty rule and measured at DIAG_CURRENT; LF_DIAGNOSE
without FRESH reads the kept results and changes nothing; LF_SEND puts the service frame on the coils it may use and measures them; without the
supply no pulse goes out. LF_POLL_START of a stopped plough with good wake words, a plan and a usable frame coil starts it, clears the cause of
its last stop, counts as activity and waits for ON; LF_POLL_STOP of a running plough stops it, and of a stopped one answers at once;
LF_FIELD_MAP_LOAD takes its zones. -/
def Obligations.LfServiceAndUnit : Prop :=
  (∀ (s : State) (h : Hdr) (p : Octets) (n : Fin 12) (m : CoilMeas), s.Ready .lfTune h p (.coils true [m]) → p16 p 0 = 2 ^ n.val →
    s.lfGap = true → (s.lf.coil n).enabled = true → s.lf.isHot n = false → m.coil = n → s.dutyOk (s.lf.us 64) = true →
    ∃ t, exec (.lfTune h p (.coils true [m])) s = .next t ∧
      ((s.addOn (s.lf.us 64)).measure m (fld s.lf.cfg 27 6) 2 true).Becomes t ∧
      (t.lf.coil n).phase = m.phase ∧ (t.lf.coil n).ampl = m.ampl ∧ (t.lf.coil n).q = m.q ∧
      s.Replies .lfTune h .ok (o8 n.val ++ o8 (t.lf.coil n).trim ++ o8 (min m.q 255) ++ o8 (t.lf.coil n).cls) t) ∧
  (∀ (s : State) (h : Hdr) (p : Octets) (n : Fin 12) (m : CoilMeas), s.Ready .lfTune h p (.coils false [m]) → p16 p 0 = 2 ^ n.val →
    s.lfGap = true → (s.lf.coil n).enabled = true → s.lf.isHot n = false → m.coil = n →
    ∃ t, exec (.lfTune h p (.coils false [m])) s = .next t ∧ (s.modLf (fun l => { l with flags := l.flags ||| 2 })).Becomes t) ∧
  (∀ (s : State) (h : Hdr) (p : Octets) (n : Fin 12) (m : CoilMeas), s.Ready .lfDiagnose h p (.coils true [m]) → p16 p 0 = 2 ^ n.val →
    p8 p 2 = 1 → s.lfGap = true → (s.lf.coil n).enabled = true → s.lf.isHot n = false → m.coil = n → s.dutyOk (s.lf.us 64) = true →
    ∃ t, exec (.lfDiagnose h p (.coils true [m])) s = .next t ∧
      ((s.addOn (s.lf.us 64)).measure m (fld s.lf.cfg 27 6) 4 false).Becomes t ∧
      s.Replies .lfDiagnose h .ok (o8 n.val ++ wordOctets (t.lf.coil n).status) t) ∧
  (∀ (s : State) (h : Hdr) (p : Octets), s.Ready .lfDiagnose h p .none → p16 p 0 ≤ 0xFFF → p8 p 2 = 0 →
    ∃ t, exec (.lfDiagnose h p .none) s = .next t ∧ s.Becomes t ∧
      s.Replies .lfDiagnose h .ok
        (((allCoils.filter (fun n => (p16 p 0).testBit n.val)).map (fun n => o8 n.val ++ wordOctets (s.lf.coil n).status)).flatten) t) ∧
  (∀ (s : State) (h : Hdr) (p : Octets) (l : List CoilMeas), s.Ready .lfSend h p (.coils true l) → p16 p 0 ≤ 0xFFF → 1 ≤ p8 p 2 →
    p8 p 2 ≤ 32 → s.lfGap = true → s.lf.known = true →
    s.lf.sendMask (p16 p 0) &&& coilMask (fun n => !s.lf.isHot n) ≠ 0 → s.dutyOk (s.lf.us ((36 + 8 * p8 p 2) * 16)) = true →
    ∃ t, exec (.lfSend h p (.coils true l)) s = .next t ∧ t.lf.frame = serviceFrame (p.drop 3) ∧ s.Replies .lfSend h .ok [] t ∧
      (((s.addOn (s.lf.us ((36 + 8 * p8 p 2) * 16))).modLf (fun l => { l with frame := serviceFrame (p.drop 3) })).measureAll
        (s.lf.sendMask (p16 p 0) &&& coilMask (fun n => !s.lf.isHot n)) l).Becomes t) ∧
  (∀ (s : State) (h : Hdr) (p : Octets), s.Ready .lfPollStart h p .none → p8 p 0 ≤ 1 → p8 p 1 = 0 → s.lf.pollRefused = false →
    s.lf.unit = .off →
    ∃ t, exec (.lfPollStart h p) s = .next t ∧ (t.ctx h.ctx).cmds.length = 1 ∧
      (s.modLf (fun l => { l with unit := .starting, stopCause := 0, idleSince := s.aon.calendar, baseNext := p8 p 0 })).Becomes t) ∧
  (∀ (s : State) (h : Hdr) (p : Octets), s.Ready .lfPollStart h p .none → p8 p 0 ≤ 1 → p8 p 1 = 1 → s.lf.pollRefused = false →
    s.lf.unit = .on →
    ∃ t, exec (.lfPollStart h p) s = .next t ∧ s.Replies .lfPollStart h .ok [] t ∧
      (s.modLf (fun l => { l with stopCause := 0, idleSince := s.aon.calendar, baseNext := p8 p 0, base := p8 p 0, origin := s.aon.tick,
                                  want := some 2 })).Becomes t) ∧
  (∀ (s : State) (h : Hdr) (p : Octets), s.Ready .lfPollStop h p .none → s.lf.unit = .on →
    ∃ t, exec (.lfPollStop h p) s = .next t ∧ (t.ctx h.ctx).cmds.length = 1 ∧
      (s.modLf (fun l => { l with unit := .stopping, stopCause := 1 })).Becomes t) ∧
  (∀ (s : State) (h : Hdr) (p : Octets), s.Ready .lfPollStop h p .none → s.lf.unit = .off →
    ∃ t, exec (.lfPollStop h p) s = .next t ∧ s.Replies .lfPollStop h .ok [] t ∧
      (s.modLf (fun l => { l with stopCause := 1 })).Becomes t) ∧
  (∀ (s : State) (h : Hdr) (p : Octets), s.Ready .lfFieldMapLoad h p .none → 1 ≤ p8 p 0 → p8 p 0 ≤ 8 →
    (∀ z ∈ zonesOf (p.drop 1) (p8 p 0), ∀ i < 12, p8 z.lo i ≤ p8 z.hi i) →
    ∃ t, exec (.lfFieldMapLoad h p) s = .next t ∧
      (s.modCrd (fun c => { c with zones := zonesOf (p.drop 1) (p8 p 0), mapCrc := crc32c p })).Becomes t)



/-- UHF commands (R138 to R141, R156, R159 to R165). A good plan waits for its lanes to retune; a plan with a reserved value is answered
BAD_PARAM, and one outside the allowed ranges REGULATORY_LIMIT, neither changing anything; enabling needs a plan, and starts the tract;
disabling stops it; a calibration runs between rounds and is counted; the vigil receiver takes its settings and is calibrated; a capture
is armed, and read once it is done. -/
def Obligations.UhfCommands : Prop :=
  (∀ (s : State) (h : Hdr) (p : Octets), s.Ready .uhfChannelPlan h p .none → planReserved p = false → (planOf p).bad = false →
    s.planAllowed (planOf p) = true →
    ∃ t, exec (.uhfChannelPlan h p) s = .next t ∧ (t.ctx h.ctx).cmds.length = 1 ∧
      (s.modUhf (fun u => { u with planNext := some (planOf p) })).Becomes t) ∧
  (∀ (s : State) (h : Hdr) (p : Octets), s.Ready .uhfChannelPlan h p .none → (planReserved p = true ∨ (planOf p).bad = true) →
    ∃ t, exec (.uhfChannelPlan h p) s = .next t ∧ s.Becomes t ∧ s.Replies .uhfChannelPlan h .badParam [] t) ∧
  (∀ (s : State) (h : Hdr) (p : Octets), s.Ready .uhfChannelPlan h p .none → planReserved p = false → (planOf p).bad = false →
    s.planAllowed (planOf p) = false →
    ∃ t, exec (.uhfChannelPlan h p) s = .next t ∧ s.Becomes t ∧ s.Replies .uhfChannelPlan h .regulatoryLimit [] t) ∧
  (∀ (s : State) (h : Hdr) (p : Octets), s.Ready .uhfEnable h p .none → s.uhf.plan.isSome = true → s.uhf.unit = .off →
    ∃ t, exec (.uhfEnable h p) s = .next t ∧ (t.ctx h.ctx).cmds.length = 1 ∧ (s.modUhf (fun u => { u with unit := .starting })).Becomes t) ∧
  (∀ (s : State) (h : Hdr) (p : Octets), s.Ready .uhfEnable h p .none → s.uhf.plan = none →
    ∃ t, exec (.uhfEnable h p) s = .next t ∧ s.Becomes t ∧ s.Replies .uhfEnable h .wrongState [] t) ∧
  (∀ (s : State) (h : Hdr) (p : Octets), s.Ready .uhfDisable h p .none → s.uhf.unit = .on →
    ∃ t, exec (.uhfDisable h p) s = .next t ∧ (t.ctx h.ctx).cmds.length = 1 ∧ (s.modUhf (fun u => { u with unit := .stopping })).Becomes t) ∧
  (∀ (s : State) (h : Hdr) (p : Octets) (temp : Int), s.Ready .uhfCalibrate h p (.cal true temp) → s.uhf.unit = .on → s.fullRound = false →
    ∃ t, exec (.uhfCalibrate h p (.cal true temp)) s = .next t ∧ s.Replies .uhfCalibrate h .ok (wordOctets t.uhf.calStatus) t ∧
      (s.modUhf (fun u => { u with
        calAt := s.aon.tick, calDue := false, calCount := min (u.calCount + 1) 0xFFFF, failRun := 0, calTemp := temp,
        calValid := true })).Becomes t) ∧
  (∀ (s : State) (h : Hdr) (p : Octets) (temp : Int), s.Ready .uhfVigilConfig h p (.cal true temp) → s.vigilRefusal p = none →
    (s.lf.round = none ∨ s.fullRound = true) →
    ∃ t, exec (.uhfVigilConfig h p (.cal true temp)) s = .next t ∧ s.Replies .uhfVigilConfig h .ok [] t ∧
      (s.modUhf (fun u => { u with vigil := put 0 30 (p32 p 0) ||| put 30 5 (p8 p 4) ||| put 35 1 (p8 p 5), vigilTemp := temp })).Becomes t) ∧
  (∀ (s : State) (h : Hdr) (p : Octets), s.Ready .uhfCapture h p .none → s.uhf.unit = .on → p8 p 0 = 0 → p8 p 1 = 0 → p8 p 3 ≤ 2 →
    p16 p 4 ≠ 0 → p16 p 4 % 16 = 0 → p16 p 4 ≤ 16384 →
    ∃ t, exec (.uhfCaptureArm h p) s = .next t ∧ s.Replies .uhfCapture h .ok [] t ∧
      (s.modUhf (fun u => { u with capt :=
        { state := if p8 p 3 = 0 ∧ s.lf.round = none then 2 else 1, kind := 0, lane := p8 p 2, trigger := p8 p 3, length := p16 p 4,
          samples := 0, data := [] } })).Becomes t) ∧
  (∀ (s : State) (h : Hdr) (p : Octets), s.Ready .uhfCapture h p .none → s.uhf.unit = .on → p8 p 0 = 1 → s.uhf.capt.state = 3 →
    1 ≤ p16 p 10 → p16 p 10 ≤ 1000 →
    ∃ t, exec (.uhfCaptureRead h p) s = .next t ∧ s.Becomes t ∧
      s.Replies .uhfCapture h .ok (o32 s.uhf.capt.data.length ++ o16 s.uhf.capt.samples ++ (s.uhf.capt.data.drop (p32 p 6)).take (p16 p 10)) t)

/-- UHF and coexistence events (R141, R155, R159, R162 to R164, R167, R200, R201). A waiting plan is taken between full rounds; a due
calibration runs in a gap, and otherwise waits for it; a calibration runs again when the die temperature has moved; a running capture is done
with the samples taken; a late frame enters the log and is counted against its lane; a parity error raises its flag and abandons the lanes that
were collecting. A coexistence set takes its new configuration between the rounds of the tracts it concerns, its outputs starting from inactive;
a grantor grants at once outside its tract's rounds, inside them only under PRI, and takes the grant back with the request; a grant change on a
requester is noted. -/
def Obligations.UhfAndCoexistenceEvents : Prop :=
  (∀ (s : State) (pl : Plan), s.Calm → s.uhf.planNext = some pl → s.fullRound = false →
    exec .uhfPlanApply s = .next (s.modUhf (fun u => { u with plan := some pl, planNext := none }))) ∧
  (∀ (s : State) (temp : Int), s.Calm → s.uhf.unit = .on → fld s.uhf.calCfg 0 12 * 32768 ≤ s.age s.uhf.calAt → s.fullRound = false →
    exec (.uhfCalibrationDue true temp) s = .next (s.modUhf (fun u => { u with
      calAt := s.aon.tick, calDue := false, calCount := min (u.calCount + 1) 0xFFFF, failRun := 0, calTemp := temp, calValid := true }))) ∧
  (∀ (s : State) (ok : Bool) (temp : Int), s.Calm → s.uhf.unit = .on → fld s.uhf.calCfg 0 12 * 32768 ≤ s.age s.uhf.calAt →
    s.fullRound = true → exec (.uhfCalibrationDue ok temp) s = .next (s.modUhf (fun u => { u with calDue := true }))) ∧
  (∀ (s : State) (temp : Int), s.Calm → s.uhf.unit = .on → fld s.uhf.calCfg 0 12 * 32768 ≤ s.age s.uhf.calAt → s.fullRound = false →
    exec (.uhfCalibrationDue false temp) s = .next (s.modUhf (fun u => { u with
      calAt := s.aon.tick, calDue := false, failRun := min (u.failRun + 1) 255, flags := u.flags ||| 1 }))) ∧
  (∀ (s : State) (temp : Int) (v : Bool) (c : UwbCal), s.Calm → s.uhf.unit = .on → s.fullRound = false →
    s.uhf.calDt ≤ (temp - s.uhf.calTemp).natAbs → bit s.uhf.vigil 35 = false → s.uwb.radio = 0 →
    exec (.temperatureDrift temp true v c) s = .next (s.modUhf (fun u => { u with
      calAt := s.aon.tick, calDue := false, calCount := min (u.calCount + 1) 0xFFFF, failRun := 0, calTemp := temp, calValid := true }))) ∧
  (∀ (s : State) (l : List (Int × Int)), s.Calm → s.uhf.capt.state = 2 → s.uhf.capt.kind = 0 →
    exec (.uhfCaptureDone l) s = .next (s.modUhf (fun u => { u with capt := { u.capt with
      state := 3, samples := (l.take u.capt.length).length, data := blocks16 false (l.take u.capt.length) } }))) ∧
  (∀ (s : State) (lane : Fin 64) (crc inc : Bool) (id : BitVec 40) (rssi : Nat) (n : BitVec 16), s.Calm → s.uhf.collected = some n →
    s.uhf.unit ≠ .off → s.lf.round = none → lane.val < s.uhf.lanesUp → s.uhf.late.length < 16 →
    ∃ t, exec (.lateFrameEnd lane crc inc id rssi) s = .next t ∧
      t = { s with uhf := t.uhf } ∧ (t.uhf.late.getLast?).map (·.id) = some id ∧ t.uhf.late.length = s.uhf.late.length + 1 ∧
      bit t.uhf.flags 4 = true ∧ t.uhf.lanes[lane] = bump s.uhf.lanes[lane] 0 ∧ (∀ k, k ≠ lane → t.uhf.lanes[k] = s.uhf.lanes[k])) ∧
  (∀ (s : State), s.Calm → s.uhf.unit = .on → s.lf.round = none →
    exec (.sampleParityError none) s = .next (s.modUhf (fun u => { u with flags := u.flags ||| 2 }))) ∧
  (∀ (s : State) (strip : Fin 8) (r : PloughRound) (lane : Fin 64), s.Calm → s.uhf.unit = .on → s.lf.round = some r → r.full = true →
    r.listening = true → lane.val / 8 = strip.val → lane.val < s.uhf.lanesUp → r.lost.getLsbD lane.val = false →
    ∃ t, exec (.sampleParityError (some strip)) s = .next t ∧ bit t.uhf.flags 2 = true ∧
      (∃ r', t.lf.round = some r' ∧ r'.lost.getLsbD lane.val = true ∧ (∀ k : Fin 64, k.val / 8 ≠ strip.val → r'.lost.getLsbD k.val = r.lost.getLsbD k.val)) ∧
      t.uhf.lanes[lane] = bump s.uhf.lanes[lane] 16 ∧ (∀ k : Fin 64, k.val / 8 ≠ strip.val → t.uhf.lanes[k] = s.uhf.lanes[k])) ∧
  (∀ (s : State) (h : Hdr) (p : Octets) (k : Fin 2), s.Ready .radioCoexConfig h p .none → p8 p 0 = k.val → p8 p 1 ≤ 2 → p8 p 2 ≤ 1 →
    p8 p 3 ≤ 7 → p16 p 4 ≤ 1000 → s.lf.round = none → s.uwb.round = none →
    ∃ t, exec (.radioCoexConfig h p) s = .next t ∧ s.Replies .radioCoexConfig h .ok [] t ∧
      (s.modUhf (fun u => { u with coex := u.coex.set k { u.coex[k] with
        cfg := put 0 2 (p8 p 1) ||| put 2 1 (p8 p 2) ||| put 3 3 (p8 p 3) ||| put 6 10 (p16 p 4), next := none, req := false, pri := false,
        given := decide (p8 p 1 ≠ 0) && decide (p8 p 2 = 1) && u.coex[k].reqIn, blanked := false } })).Becomes t) ∧
  (∀ (s : State) (k : Fin 2) (w : Word), s.Calm → (s.uhf.coex[k]).next = some w → s.lf.round = none → s.uwb.round = none →
    exec (.coexConfigApply k) s = .next (s.modUhf (fun u => { u with coex := u.coex.set k { u.coex[k] with
      cfg := w, next := none, req := false, pri := false, given := decide (fld w 0 2 ≠ 0) && bit w 2 && u.coex[k].reqIn,
      blanked := false } }))) ∧
  (∀ (s : State) (k : Fin 2) (pri : Bool), s.Calm → (s.uhf.coex[k]).grants (s.uhf.coex[k]).tract = true → (s.uhf.coex[k]).tract ≠ 0 →
    s.coexInside (s.uhf.coex[k]).tract = false →
    exec (.coexRequest k true pri) s = .next (s.modUhf (fun u => { u with
      coex := u.coex.set k { u.coex[k] with reqIn := true, priIn := pri, given := true } }))) ∧
  (∀ (s : State) (k : Fin 2), s.Calm → (s.uhf.coex[k]).grants 1 = true → s.coexInside 1 = true →
    exec (.coexRequest k true true) s = .next (s.modUhf (fun u => { u with
      coex := u.coex.set k { u.coex[k] with reqIn := true, priIn := true, given := true, blanked := true } })) ∧
    exec (.coexRequest k true false) s = .next (s.modUhf (fun u => { u with
      coex := u.coex.set k { u.coex[k] with reqIn := true, priIn := false } }))) ∧
  (∀ (s : State) (k : Fin 2) (pri : Bool), s.Calm → (s.uhf.coex[k]).grants 1 = true →
    exec (.coexRequest k false pri) s = .next (s.modUhf (fun u => { u with
      coex := u.coex.set k { u.coex[k] with reqIn := false, priIn := pri, given := false } }))) ∧
  (∀ (s : State) (k : Fin 2) (g : Bool), s.Calm →
    exec (.coexGrantChange k g) s = .next (s.modUhf (fun u => { u with coex := u.coex.set k { u.coex[k] with gnt := g } })))



/-- UWB commands (R173, R175, R176, R178 to R183, R199, R204, R485, R486). UWB_CONFIG takes a good value at once between rounds and at the
headland in one; a good session opens with its first RMARKER, START µs after a count the spec leaves open; a close outside a round
is immediate, with its CLOSED record; UWB_RANGE_NOW waits for its round; a kept CIR is read; a calibration ends with its check; and the
radio state is taken, and switched off only with no session open.
The count of the open is a free value (log entry 2). -/
def Obligations.UwbCommands : Prop :=
  (∀ (s : State) (h : Hdr) (p : Octets), s.Ready .uwbConfig h p .none → uwbCfgBad (pW p 0) = false → s.uwb.round = none →
    ∃ t, exec (.uwbConfig h p) s = .next t ∧ s.Replies .uwbConfig h .ok [] t ∧ (s.modUwb (fun u => { u with cfg := pW p 0 })).Becomes t) ∧
  (∀ (s : State) (h : Hdr) (p : Octets), s.Ready .uwbConfig h p .none → uwbCfgBad (pW p 0) = false → s.uwb.round.isSome = true →
    ∃ t, exec (.uwbConfig h p) s = .next t ∧ (s.modUwb (fun u => { u with cfgNext := some (pW p 0) })).Becomes t) ∧
  (∀ (s : State) (h : Hdr) (p : Octets) (n : Fin 8) (o : Obs) (pos : Nat) (ws : List Word), s.Ready .uwbSessionOpen h p o →
    badSession p = false → p8 p 0 = n.val → (s.sess n).isOpen = false → s.RosterAt (pW p 1) pos ws → fld (ws.getD 1 0) 0 3 = 4 →
    s.openRefusal (sessionOf p) = none → s.uwb.radio ≠ 0 →
    ∃ t, exec (.uwbSessionOpen h p o) s = .next t ∧
      (let first := ((Config.uwbCount s.free).toNat + p32 p 43 * 159744) % 2 ^ 40
       s.Replies .uwbSessionOpen h .ok (wordOctets (BitVec.ofNat 40 first)) t ∧
       State.Becomes { s with
         free := s.free + 1
         uwb := { s.uwb with
           sessions := s.uwb.sessions.set n { sessionOf p with anchor := first }
           recs := s.uwb.recs.set n none
           shown := s.uwb.shown.set n none } } t)) ∧
  (∀ (s : State) (h : Hdr) (p : Octets) (n : Fin 8), s.Ready .uwbSessionClose h p .none → p8 p 0 = n.val → (s.sess n).isOpen = true →
    s.rangingOn n = false →
    ∃ t, exec (.uwbSessionClose h p) s = .next t ∧ s.Replies .uwbSessionClose h .ok [] t ∧ (t.sess n).isOpen = false ∧
      (t.uwb.recs[n]).map (·.octets) = some (closedRecord n 0 (s.sess n).id s.aon.tick) ∧
      (∀ m, m ≠ n → t.sess m = s.sess m) ∧ State.Becomes { s with uwb := { s.uwb with sessions := t.uwb.sessions, recs := t.uwb.recs } } t) ∧
  (∀ (s : State) (h : Hdr) (p : Octets) (n : Fin 8), s.Ready .uwbSessionClose h p .none → p8 p 0 = n.val → (s.sess n).isOpen = true →
    s.rangingOn n = true →
    ∃ t, exec (.uwbSessionClose h p) s = .next t ∧ (s.modSess n (fun x => { x with closing := true })).Becomes t) ∧
  (∀ (s : State) (h : Hdr) (p : Octets) (n : Fin 8), s.Ready .uwbRangeNow h p .none → p8 p 0 = n.val → (s.sess n).isOpen = true →
    (s.sess n).role = 0 →
    ∃ t c, exec (.uwbRangeNow h p) s = .next t ∧ s.Becomes t ∧ (t.ctx h.ctx).cmds = [c] ∧ c.phase = .running (.range n s.aon.tick)) ∧
  (∀ (s : State) (h : Hdr) (p : Octets) (l : List Timed) (a : Timed), s.Ready .uwbCirRead h p .none → p8 p 0 ≤ 1 → p8 p 1 ≤ 1 → p8 p 2 ≤ 1 →
    1 ≤ p16 p 5 → p16 p 5 ≤ 1000 → s.uwb.cir = some l → l[p8 p 0]? = some a →
    ∃ t, exec (.uwbCirRead h p) s = .next t ∧ s.Becomes t ∧
      (let d := a.cirs.getD (2 * p8 p 1 + p8 p 2) []
       s.Replies .uwbCirRead h .ok (o16 d.length ++ (d.drop (p16 p 3)).take (p16 p 5)) t)) ∧
  (∀ (s : State) (h : Hdr) (p : Octets) (c : UwbCal), s.Ready .uwbCalibrate h p (.uwbCal true c) → s.uwb.round = none → c.ok = true →
    c.loop.sampler = true → loopBad c.loop = 0 →
    ∃ t, exec (.uwbCalibrate h p (.uwbCal true c)) s = .next t ∧
      s.Replies .uwbCalibrate h .ok (wordOctets t.uwb.status ++ wordOctets t.uwb.estWord) t ∧
      (s.modUwb (fun u => { u with
        calAt := s.aon.tick, calDue := false, radio := if u.radio = 0 then 4 else u.radio, calValid := true, calTemp := c.temp,
        failed := 0, disabled := false })).Becomes t) ∧
  (∀ (s : State) (h : Hdr) (p : Octets), s.Ready .uwbRadioState h p .none → p8 p 0 ≤ 2 → p8 p 1 = 0 → s.uwb.cfgNext = none →
    ∃ t, exec (.uwbRadioState h p) s = .next t ∧ s.Replies .uwbRadioState h .ok (o8 s.uwb.radio) t ∧
      (s.modUwb (fun u => { u with cfg := setFld u.cfg 0 2 (p8 p 0) })).Becomes t) ∧
  (∀ (s : State) (h : Hdr) (p : Octets), s.Ready .uwbRadioState h p .none → p8 p 0 = 255 → p8 p 1 = 1 → s.uwb.openMask = 0 →
    s.uwb.round = none →
    ∃ t, exec (.uwbRadioState h p) s = .next t ∧ s.Replies .uwbRadioState h .ok [0] t ∧
      (s.modUwb (fun u => { u with radio := 0, calValid := false, calDue := false })).Becomes t)

/-- UWB configuration, calibration and radio events (R173, R175, R176, R194, R204). -/
def Obligations.UwbEvents : Prop :=
  (∀ (s : State) (v : Word), s.Calm → s.uwb.round = none → s.uwb.cfgNext = some v → s.uwb.calNext = [] →
    exec .uwbCfgApply s = .next (s.modUwb (fun u => { u with cfg := v, cfgNext := none }))) ∧
  (∀ (s : State) (c : UwbCal), s.Calm → s.uwb.radio ≠ 0 → fld s.uwb.cfg 10 12 * 32768 ≤ s.age s.uwb.calAt → s.uwb.round = none →
    c.ok = true → c.loop.sampler = true → loopBad c.loop = 0 →
    exec (.uwbCalibrationDue c) s = .next (s.modUwb (fun u => { u with
      calAt := s.aon.tick, calDue := false, calValid := true, calTemp := c.temp, failed := 0 }))) ∧
  (∀ (s : State) (c : UwbCal), s.Calm → s.uwb.radio ≠ 0 → fld s.uwb.cfg 10 12 * 32768 ≤ s.age s.uwb.calAt → s.uwb.round.isSome = true →
    exec (.uwbCalibrationDue c) s = .next (s.modUwb (fun u => { u with calDue := true }))) ∧
  (∀ (s : State), s.Calm → s.uwb.openMask = 0 → s.uwb.round = none →
    exec .radioIdleTimeout s = .next (s.modUwb (fun u => { u with radio := 0, calValid := false, calDue := false }))) ∧
  (∀ (s : State), s.Calm → s.uwb.radio = 2 → s.uwb.round = none →
    exec .synthesiserLock s = .next (s.modUwb (fun u => { u with radio := 4 })))

/-- A ranging round (R181, R184 to R195). A prepared round of an open session latches its keys, takes its blocks of the STS counter, and
enters the ranging sequencer at its entry, with the grid moved on by one interval; the device's frames leave at their times; each arrival
in the slot that expects it is timed; a good REPORT ends the slots; and a slot without its frame ends the round with NO_FRAME. -/
def Obligations.RangingRoundGoesThroughItsSlots : Prop :=
  (∀ (s : State) (n : Fin 8) (c : LoopCheck) (key : Octets), s.Calm → s.working = true → (s.sess n).isOpen = true → s.uwb.round = none →
    s.seqReady 1 = true → s.pwr.xoOk = true → s.uwb.calValid = true → s.uwb.disabled = false → s.latchSession (s.sess n) = .ok key →
    (s.sess n).v.toNat % 2 ^ 32 + (s.sess n).stsBlocks < 2 ^ 32 → c.sampler = true → loopBad c = 0 → noPair s.uwb.failed = false →
    (s.sq 1).image.entry0 < (s.sq 1).image.code.length →
    ∃ t r, exec (.rangingRoundPreparation n false c) s = .next t ∧ t.uwb.round = some r ∧ r.session = n ∧ r.macKey = key ∧
      r.index = (s.sess n).round ∧ r.grid = some (s.sess n).anchor ∧ r.loopOk = true ∧ r.ran = false ∧ r.isOver = false ∧
      (t.sess n).v = (s.sess n).v + BitVec.ofNat 128 (s.sess n).stsBlocks ∧
      (t.sess n).anchor = ((s.sess n).anchor + (s.sess n).intervalTicks) % 2 ^ 40 ∧ (∀ m, m ≠ n → t.sess m = s.sess m) ∧
      (t.sq 1).inRound = true ∧ (t.sq 1).pc = (s.sq 1).image.entry0 ∧ t.sq 0 = s.sq 0 ∧ t.sq 2 = s.sq 2 ∧
      t = { s with uwb := t.uwb, seq := t.seq, pwr := t.pwr, uhf := t.uhf }) ∧
  (∀ (s : State) (r : RangeRound) (raw g : Nat), s.Calm → s.uwb.round = some r → r.ran = true → r.isOver = false →
    r.next (s.sess r.session) = .txPoll → s.txRefusal r (s.sess r.session) false true = none → r.grid = some g →
    ∃ t, exec (.uwbFrameTxDue raw false) s = .next t ∧ t.uwb.radio = 5 ∧
      t.uwb.round = some { r with pollTx := some g, stamp := some s.aon.tick } ∧ t = { s with uwb := t.uwb }) ∧
  (∀ (s : State) (r : RangeRound) (a : Arrival) (k : Nat), s.Calm → s.uwb.round = some r → r.ran = true → r.isOver = false →
    r.next (s.sess r.session) = .rxPoll → a.ours = true → ((s.sess r.session).stsCfg = 3 ∨ a.msg = 1) → a.clean = true → a.fault = false →
    s.quarantined = false → r.blanked = false → pairOf s.uwb.failed (r.index + r.timed.length) = some k →
    ∃ t r', exec (.uwbPollReceived a) s = .next t ∧ t.uwb.round = some r' ∧ r'.pollRx = some (s.timedOf (s.sess r.session) a k) ∧
      r'.stamp = some s.aon.tick ∧ r'.isOver = false ∧
      (t.sess r.session).anchor = ((s.timedOf (s.sess r.session) a k).ta + (s.sess r.session).intervalTicks) % 2 ^ 40 ∧
      t = { s with uwb := t.uwb }) ∧
  (∀ (s : State) (r : RangeRound) (a : Arrival) (k : Nat), s.Calm → s.uwb.round = some r → r.ran = true → r.isOver = false →
    a.ours = true → a.clean = true → a.fault = false → s.quarantined = false → r.blanked = false → s.uwb.disabled = false →
    pairOf s.uwb.failed (r.index + r.timed.length) = some k → a.loop.sampler = true → loopBad a.loop &&& ~~~s.uwb.failed = 0 →
    (r.next (s.sess r.session) = .rxResponse → ((s.sess r.session).stsCfg = 3 ∨ a.msg = 2) →
      ∃ t r', exec (.uwbResponseReceived a) s = .next t ∧ t.uwb.round = some r' ∧
        r'.respRx = some (s.timedOf (s.sess r.session) a k) ∧ r'.loopOk = r.loopOk ∧ r'.isOver = false ∧ t = { s with uwb := t.uwb }) ∧
    (r.next (s.sess r.session) = .rxFinal → ((s.sess r.session).stsCfg = 3 ∨ a.msg = 3) →
      ∃ t r', exec (.uwbFinalReceived a) s = .next t ∧ t.uwb.round = some r' ∧
        r'.finalRx = some (s.timedOf (s.sess r.session) a k) ∧ r'.loopOk = r.loopOk ∧ r'.isOver = false ∧ t = { s with uwb := t.uwb })) ∧
  (∀ (s : State) (r : RangeRound) (os : Octets) (ra : Fin 8), s.Calm → s.uwb.round = some r → r.ran = true → r.isOver = false →
    r.next (s.sess r.session) = .rxReport → s.quarantined = false → (s.sq 1).stall = .element ra →
    (s.sq 1).pc + 1 < (s.sq 1).image.code.length → os.length = 24 → p8 os 0 = 4 →
    (cmac64 r.macKey (os.take 16)).toNat = p64 os 16 → p32 os 1 = r.index → p8 os 15 = 3 →
    ∃ t, exec (.uwbReportReceived true false os) s = .next t ∧
      t.uwb.round = some { r with report := some (pN os 5 5, pN os 10 5), isOver := true } ∧ (t.sq 1).lines.getLsbD 12 = true ∧
      (t.sq 1).pc = (s.sq 1).pc + 1 ∧ (t.sq 1).stall = .none ∧ t = { s with uwb := t.uwb, seq := t.seq }) ∧
  (∀ (s : State) (r : RangeRound) (ra : Fin 8), s.Calm → s.uwb.round = some r → r.ran = true → r.isOver = false → r.fail = none →
    (s.sq 1).stall = .element ra → (s.sq 1).pc + 1 < (s.sq 1).image.code.length →
    (r.next (s.sess r.session) = .rxResponse ∨ r.next (s.sess r.session) = .rxFinal ∨ r.next (s.sess r.session) = .rxReport) →
    ∃ t, exec .uwbReceiveSlotEnd s = .next t ∧ t.uwb.round = some { r with fail := some 4, isOver := true } ∧
      (t.sq 1).reg ra = put 0 8 0 ||| put 8 8 (RangeRound.outcome { r with fail := some 4, isOver := true } (s.sess r.session) (fld s.uwb.cfg 2 8)).reason ∧
      (t.sq 1).pc = (s.sq 1).pc + 1 ∧ t = { s with uwb := t.uwb, seq := t.seq })


/-- The roster (R208 to R216). CRD_ROSTER_WRITE puts a new member at a FREE position, replaces an entry of the same epoch without lowering its
CTR, and frees the position of a deleted one; CRD_ROSTER_READ gives an entry or a run of positions; CRD_REVOKE marks an entry REVOKED;
CRD_EPOCH_ADVANCE naming the epoch starts the increment of its counter; compaction and the folding of the counter log end.
The FREE position is a free value (log entry 2). -/
def Obligations.RosterIsKept : Prop :=
  (∀ (s : State) (h : Hdr) (p : Octets) (o : Obs), s.Ready .crdRosterWrite h p o → s.mem.Sound → p8 p 0 = 1 →
    (let ws := wordsOf (p.drop 1) 4
     badRow s.epoch ws = false ∧ fld (ws.getD 1 0) 3 2 = 1 ∧ s.crd.pos? (ws.getD 0 0) = none ∧ keysRise s.crd.index = true) →
    (∃ k < 16384, k ∉ s.crd.index.map (·.2)) → s.crd.index.length < 16384 → o ≠ .indexFull →
    ∃ t pos, exec (.crdRosterWrite h p o) s = .next t ∧ pos < 16384 ∧ pos ∉ s.crd.index.map (·.2) ∧
      t.crd.pos? (pW p 1) = some pos ∧ (∀ j, j ≠ pW p 1 → t.crd.pos? j = s.crd.pos? j) ∧
      (Member.ofWords ((List.range 4).map (fun i => (t.mem.peek (rosterAddr pos i)).getD 0)) = Member.ofWords (wordsOf (p.drop 1) 4)) ∧
      t.outside = State.outside { s with free := s.free + 1, crd := t.crd }) ∧
  (∀ (s : State) (h : Hdr) (p : Octets) (pos : Nat) (old : List Word), s.Ready .crdRosterWrite h p .none → s.mem.Sound → p8 p 0 = 1 →
    (let ws := wordsOf (p.drop 1) 4
     badRow s.epoch ws = false ∧ fld (ws.getD 1 0) 3 2 = 1 ∧ fld (old.getD 1 0) 8 24 = fld (ws.getD 1 0) 8 24) → pos < 16384 →
    s.RosterAt (pW p 1) pos old → keysRise s.crd.index = true → s.lf.round = none → s.crd.index.length ≤ 16320 →
    ∃ t, exec (.crdRosterWrite h p .none) s = .next t ∧ t.crd.pos? (pW p 1) = some pos ∧
      t.mem.peek (rosterAddr pos 2) = some (if pW p 11 < old.getD 2 0 then old.getD 2 0 else pW p 11) ∧
      (Member.ofWords ((List.range 4).map (fun i => (t.mem.peek (rosterAddr pos i)).getD 0))).standing = fld (pW p 16) 0 2) ∧
  (∀ (s : State) (h : Hdr) (p : Octets) (pos : Nat), s.Ready .crdRosterWrite h p .none → p8 p 0 = 1 → reservedId (pW p 1) = false →
    fld (pW p 6) 3 2 = 0 → keysRise s.crd.index = true → s.crd.pos? (pW p 1) = some pos → s.crd.index.length ≤ 16320 →
    ∃ t, exec (.crdRosterWrite h p .none) s = .next t ∧ t.crd.pos? (pW p 1) = none ∧
      t.crd = { s.crd with index := s.crd.index.filter (fun kv => kv.2 ≠ pos) }) ∧
  (∀ (s : State) (h : Hdr) (p : Octets) (pos : Nat) (ws : List Word), s.Ready .crdRosterRead h p .none → p8 p 0 = 0 →
    s.RosterAt (pW p 1) pos ws →
    ∃ t, exec (.crdRosterRead h p) s = .next t ∧ s.Becomes t ∧
      s.Replies .crdRosterRead h .ok (o16 pos ++ [1] ++ (Member.ofWords ws).octets) t) ∧
  (∀ (s : State) (h : Hdr) (p : Octets), s.Ready .crdRosterRead h p .none → p8 p 0 = 0 → s.crd.pos? (pW p 1) = none →
    ∃ t, exec (.crdRosterRead h p) s = .next t ∧ s.Becomes t ∧ s.Replies .crdRosterRead h .blank [] t) ∧
  (∀ (s : State) (h : Hdr) (p : Octets) (w : Nat → Nat → Word), s.Ready .crdRosterRead h p .none → p8 p 0 = 1 → 1 ≤ p8 p 8 → p8 p 8 ≤ 48 →
    p16 p 6 + p8 p 8 ≤ 16384 → (∀ k < p8 p 8, ∀ i < 4, decode47 (s.mem.stored (rosterAddr (p16 p 6 + k) i)) = .good (w k i)) →
    ∃ t, exec (.crdRosterRead h p) s = .next t ∧ s.Becomes t ∧ s.Replies .crdRosterRead h .ok (o16 (p16 p 6) ++ o8 (p8 p 8) ++
      ((List.range (p8 p 8)).map (fun k => (Member.ofWords [w k 0, w k 1, w k 2, w k 3]).octets)).flatten) t) ∧
  (∀ (s : State) (h : Hdr) (p : Octets) (pos : Nat) (ws : List Word), s.Ready .crdRevoke h p .none → s.mem.Sound → p8 p 0 = 1 →
    pos < 16384 → s.RosterAt (pW p 1) pos ws → s.crd.batAuth = none → (s.crd.revoked + 1) % 256 ≠ 0 →
    ∃ t, exec (.crdRevoke h p) s = .next t ∧ t.crd = { s.crd with revoked := s.crd.revoked + 1 } ∧
      (t.mem.peek (rosterAddr pos 1)).map (fun v => fld v 3 2) = some 2) ∧
  (∀ (s : State) (h : Hdr) (p : Octets), s.Ready .crdRevoke h p .none → p8 p 0 = 1 → s.crd.pos? (pW p 1) = none →
    ∃ t, exec (.crdRevoke h p) s = .next t ∧ s.Becomes t) ∧
  (∀ (s : State) (h : Hdr) (p : Octets), s.Ready .crdEpochAdvance h p .none → p24 p 0 = s.epoch → s.nvm.epochPending = false →
    s.epoch < 0xFFFE00 → s.nvm.tallyFull 1 = false →
    ∃ t, exec (.crdEpochAdvance h p) s = .next t ∧ (s.startTally 1 .epoch).Becomes t ∧ (t.ctx h.ctx).cmds.length = 1) ∧
  (∀ (s : State), s.Calm → s.crd.compacting = true → s.crd.index = [] →
    exec .rosterCompactionDone s = .next (s.modCrd (fun c => { c with compacting := false }))) ∧
  (∀ (s : State), s.Calm → s.crd.ctrLog = [] → s.calDay ≠ s.crd.foldDay →
    exec .counterLogFold s = .next (s.modCrd (fun c => { c with foldDay := s.calDay })))

/-- Tickets, the lock-out and round results (R227, R228, R231 to R233, R243). A ticket whose MAC verifies and whose fields hold is taken, with
its serial; another is answered AUTH_FAIL. With the copies of the lock-out words agreeing, the status is read with its live nonce; a right
proof clears the lock-out and uses the nonce up, a wrong one only uses the nonce and counts as a failed proof. A kept set of results is
read in part.
Nonces are free values (log entry 2). -/
def Obligations.TicketsLockOutAndResults : Prop :=
  (∀ (s : State) (h : Hdr) (p : Octets) (k : Octets), s.Ready .crdTicketLoad h p .none → s.crd.self ≠ 0 → s.latch 9 = .key k →
    (cmac k (pRun p 0 32)).take 8 = pRun p 32 8 → p24 p 20 = s.crd.domain → p24 p 23 = s.epoch → pW p 26 = s.crd.self → p8 p 31 = 0 →
    (p8 p 17 = 2 ∨ p8 p 17 = 3) → p32 p 9 < p32 p 13 → s.crd.serialHigh < p32 p 5 → s.calSec < p32 p 13 →
    (s.crd.tickets.filter (fun x => x.id ≠ pW p 0)).length < 32 →
    ∃ t, exec (.crdTicketLoad h p) s = .next t ∧ (s.modCrd (fun c => { c with
      tickets := c.tickets.filter (fun x => x.id ≠ pW p 0) ++
        [{ id := pW p 0, serial := p32 p 5, since := p32 p 9, until_ := p32 p 13, level := p8 p 17, cap := p16 p 18 }],
      serialHigh := p32 p 5 })).Becomes t) ∧
  (∀ (s : State) (h : Hdr) (p : Octets) (k : Octets), s.Ready .crdTicketLoad h p .none → s.crd.self ≠ 0 → s.latch 9 = .key k →
    (cmac k (pRun p 0 32)).take 8 ≠ pRun p 32 8 →
    ∃ t, exec (.crdTicketLoad h p) s = .next t ∧ s.Becomes t ∧ s.Replies .crdTicketLoad h .authFail [] t) ∧
  (∀ (s : State) (h : Hdr) (p : Octets), s.Ready .crdLockoutStatus h p .none → s.critSound [0, 1, 2, 3] = true → s.crd.nonceLive = true →
    ∃ t, exec (.crdLockoutStatus h p) s = .next t ∧ s.Becomes t ∧ s.Replies .crdLockoutStatus h .ok
      (o8 s.crd.fails ++ o8 s.crd.level ++ o8 (b2n s.crd.active) ++ [0] ++ wordOctets s.crd.lockEnd ++ leOf 8 s.crd.nonce.toNat) t) ∧
  (∀ (s : State) (h : Hdr) (p : Octets), s.Ready .crdLockoutStatus h p .none → s.critSound [0, 1, 2, 3] = true → s.crd.nonceLive = false →
    s.drbgBlocked = none →
    ∃ t, exec (.crdLockoutStatus h p) s = .next t ∧
      (s.useRandom.modCrd (fun c => { c with nonce := Config.drbg s.free, nonceLive := true })).Becomes t ∧
      s.Replies .crdLockoutStatus h .ok
        (o8 s.crd.fails ++ o8 s.crd.level ++ o8 (b2n s.crd.active) ++ [0] ++ wordOctets s.crd.lockEnd ++ leOf 8 (Config.drbg s.free).toNat) t) ∧
  (∀ (s : State) (h : Hdr) (p : Octets) (k : Octets), s.Ready .crdLockoutClear h p .none → s.critSound [0, 1, 2, 3] = true → s.jrn.next + 4098 ≤ s.jrn.blockEnd →
    (s.ctx h.ctx).roleTries.active s.aon.tick = false → s.crd.nonceLive = true → s.cph.katModes.getLsbD 0 = false →
    s.latch (if (s.ctx h.ctx).role = .fleet then 1 else 4) = .key k →
    (cmac k (leOf 8 s.crd.nonce.toNat ++ o8 h.ctx.val)).take 8 = pRun p 0 8 →
    ∃ t, exec (.crdLockoutClear h p) s = .next t ∧
      (s.modCrd (fun c => { c with active := false, fails := 0, level := 0, nonceLive := false })).Becomes t) ∧
  (∀ (s : State) (h : Hdr) (p : Octets) (k : Octets), s.Ready .crdLockoutClear h p .none → s.critSound [0, 1, 2, 3] = true →
    (s.ctx h.ctx).roleTries.active s.aon.tick = false → s.crd.nonceLive = true → s.cph.katModes.getLsbD 0 = false →
    s.latch (if (s.ctx h.ctx).role = .fleet then 1 else 4) = .key k →
    (cmac k (leOf 8 s.crd.nonce.toNat ++ o8 h.ctx.val)).take 8 ≠ pRun p 0 8 →
    ∃ t, exec (.crdLockoutClear h p) s = .next t ∧ s.Replies .crdLockoutClear h .authFail [] t ∧
      ((s.modCrd (fun c => { c with nonceLive := false })).modCtx h.ctx (fun x => { x with roleTries := x.roleTries.fail s.aon.tick })).Becomes t) ∧
  (∀ (s : State) (h : Hdr) (p : Octets), s.Ready .crdRoundResultRead h p .none → p8 p 0 = 0 → 1 ≤ p16 p 4 → p16 p 4 ≤ 1000 →
    s.crd.latest ≠ [] →
    ∃ t, exec (.crdRoundResultRead h p) s = .next t ∧ s.Becomes t ∧
      s.Replies .crdRoundResultRead h .ok (o16 s.crd.latest.length ++ pRun s.crd.latest (p16 p 2) (p16 p 4)) t) ∧
  (∀ (s : State) (h : Hdr) (p : Octets), s.Ready .crdRoundResultRead h p .none → p8 p 0 = 0 → 1 ≤ p16 p 4 → p16 p 4 ≤ 1000 →
    s.crd.latest = [] →
    ∃ t, exec (.crdRoundResultRead h p) s = .next t ∧ s.Becomes t ∧ s.Replies .crdRoundResultRead h .blank [] t)

/-- The battery exchange (R235 to R239). A challenge puts a CHALLENGE with a fresh number on the segment; without a RESPONSE an attempt fails
and pauses, and the last one ends the exchange with its record and any fresh authentication; a retry sends the next CHALLENGE; without link
for a second an attempt fails; a recheck while the port is off is put off; RESPONSEs of unknown packs from two addresses before the decision fail the
attempt without a CONFIRM; and a RESPONSE whose checks all hold, with no other before its decision, authenticates the pack.
The challenge's number and the MAC are free values (log entry 2). -/
def Obligations.BatteryExchangeRuns : Prop :=
  (∀ (s : State) (h : Hdr) (p : Octets), s.Ready .crdBatteryChallenge h p .none → s.crd.self ≠ 0 → s.crd.battery = none →
    s.cph.drbg = .ready → s.quarantined = false → s.ntc.link = true →
    ∃ t, exec (.crdBatteryChallenge h p) s = .next t ∧
      (s.useRandom.modCrd (fun c => { c with
        battery := some { number := c.batNumber, tries := 1, phase := .waiting (Config.drbg s.free), began := s.aon.tick },
        batNumber := c.batNumber + 1, batAt := s.aon.tick, batDefer := false })).Becomes t ∧
      (t.ctx h.ctx).cmds.length = 1 ∧
      t.ntc.queue = s.ntc.queue ++ [batteryFrame batteryGroup (batteryPacket s.crd.batNumber 1
        (leOf 8 (Config.drbg s.free).toNat ++ wordOctets s.crd.self ++ leOf 3 s.crd.domain) (fun _ => List.replicate 8 0))]) ∧
  (∀ (s : State) (b : Battery) (rv : BitVec 64), s.Calm → s.crd.battery = some b → b.phase = .waiting rv → b.tries ≤ fld s.crd.batCfg 1 2 →
    exec .batteryResponseTimeout s = .next (s.modCrd (fun c => { c with battery := some { b with phase := .pause } }))) ∧
  (∀ (s : State) (b : Battery) (rv : BitVec 64), s.Calm → s.crd.battery = some b → b.phase = .waiting rv → fld s.crd.batCfg 1 2 < b.tries →
    ∃ t, exec .batteryResponseTimeout s = .next t ∧ t.crd.battery = none ∧ t.crd.batAuth = none ∧ t.crd.batFailed = true ∧
      t.crd.batRecord = batteryRecord 1 b.tries 0 b.began ∧ bit t.crd.flags 2 = true ∧ t = { s with crd := t.crd, hst := t.hst }) ∧
  (∀ (s : State) (b : Battery), s.Calm → s.crd.battery = some b → b.phase = .pause → s.cph.drbg = .ready → s.quarantined = false →
    s.ntc.link = true →
    exec .batteryRetry s = .next ((s.useRandom.modCrd (fun c => { c with
      battery := some { b with tries := b.tries + 1, phase := .waiting (Config.drbg s.free) } })).queueFrame
        (batteryFrame batteryGroup (batteryPacket b.number 1
          (leOf 8 (Config.drbg s.free).toNat ++ wordOctets s.crd.self ++ leOf 3 s.crd.domain) (fun _ => List.replicate 8 0))))) ∧
  (∀ (s : State) (b : Battery), s.Calm → s.crd.battery = some b → b.phase = .link → 32768 ≤ s.age b.began → 1 ≤ fld s.crd.batCfg 1 2 →
    exec .batteryLinkTimeout s = .next (s.modCrd (fun c => { c with battery := some { b with tries := 1, phase := .pause } }))) ∧
  (∀ (s : State), s.Calm → s.crd.battery = none → s.crd.batAuth.isSome = true → s.crd.self ≠ 0 → s.cph.drbg ≠ .error →
    fld s.crd.batCfg 3 8 ≠ 0 → 60 * fld s.crd.batCfg 3 8 * 32768 ≤ s.age s.crd.batAt → s.phyOn false = false →
    exec .batteryRecheck s = .next (s.modCrd (fun c => { c with batDefer := true }))) ∧
  (∀ (s : State) (b : Battery) (rv : BitVec 64) (f g : Frame) (others : List Frame) (kd : Octets), s.Calm → s.hears .net = true →
    s.crd.battery = some b → b.phase = .waiting rv → b.tries ≤ fld s.crd.batCfg 1 2 → s.isResponse b rv f = true → s.rivals b rv f others = [g] →
    s.latch 8 = .key kd → s.find (pW f.payload 28) = (s, none) → s.find (pW g.payload 28) = (s, none) →
    exec (.batteryResponse f others false) s = .next (s.modCrd (fun c => { c with battery := some { b with phase := .pause } }))) ∧
  (∀ (s : State) (b : Battery) (rv : BitVec 64) (f : Frame) (others : List Frame) (kd : Octets) (pos : Nat) (ws : List Word), s.Calm → s.hears .net = true →
    (s.acceptFrame f).2 = true → f.ether = 0x88B5 → f.dst = Config.mac → p8 f.payload 0 = 0x14 → s.crd.battery = some b →
    b.phase = .waiting rv → belongs f.payload b.number rv = true → s.latch 8 = .key kd →
    s.RosterAt (pW f.payload 28) pos ws → (Member.ofWords ws).id = pW f.payload 28 →
    (cmac (kCred kd (Member.ofWords ws).id (Member.ofWords ws).cls (Member.ofWords ws).epoch) (f.payload.take 38)).take 8 = pRun f.payload 38 8 →
    (Member.ofWords ws).cls = 3 → (Member.ofWords ws).revoked s.epoch = false → (Member.ofWords ws).ctr < pW f.payload 33 →
    s.validUntil (Member.ofWords ws) = true →
    s.rivals b rv f others = [] →
    ∃ t, exec (.batteryResponse f others false) s = .next t ∧ t.crd.battery = none ∧ t.crd.batAuth = some (pW f.payload 28, b.began) ∧
      t.crd.batFailed = false ∧ t.crd.batRecord = batteryRecord 0 b.tries (pW f.payload 28) b.began ∧ t.lf.idleSince = s.aon.calendar ∧
      t.ntc.queue.length = s.ntc.queue.length + 1)

/-- Receivers and policy (R247 to R249, R257, R278). A receiver that is OFF is configured; arming a configured receiver with a WRITTEN release
key makes it STARTING and reserves its block of counter values; disarming it with the last level DENY makes it STOPPING, or OFF at once
where sequencer 2 is not ON; HRV_POLICY sets both policy registers; HRV_STATUS gives the HRV_ registers between periods, and waits inside
one. -/
def Obligations.ReceiversAreKept : Prop :=
  (∀ (s : State) (h : Hdr) (p : Octets) (n : Fin 4), s.Ready .hrvReceiverConfig h p .none → p8 p 0 = n.val → pBit p 1 0 = false → p8 p 7 ≤ 1 →
    (s.rx n).unit = .off → (p8 p 7 = 1 → ∀ m, m ≠ n → (s.rx m).source = false) →
    ∃ t, exec (.hrvReceiverConfig h p) s = .next t ∧
      (s.modRx n (fun r => { r with mac := BitVec.ofNat 48 (p48 p 1), configured := true, source := decide (p8 p 7 = 1) })).Becomes t) ∧
  (∀ (s : State) (h : Hdr) (p : Octets) (n : Fin 4), s.Ready .hrvArm h p .none → p8 p 0 = n.val → p8 p 1 = 1 → (s.rx n).unit = .off →
    (s.rx n).configured = true → (s.slot (10 + n.val)).st = .written → (s.slot (10 + n.val)).usage = 6 →
    s.nvm.tally (rxTally n) + 1 < 2 ^ 24 → (s.rx n).reserving = false →
    ∃ t, exec (.hrvArm h p) s = .next t ∧
      (((s.active .hrvArm).startTally (rxTally n) (.rx n)).modRx n (fun r => { r with
        unit := .starting, next := 0, blockEnd := 0, nextBlock := none, reserving := true, ticket := (t.rx n).ticket })).Becomes t ∧
      (t.ctx h.ctx).cmds.length = 1) ∧
  (∀ (s : State) (h : Hdr) (p : Octets) (n : Fin 4), s.Ready .hrvArm h p .none → p8 p 0 = n.val → p8 p 1 = 0 → (s.rx n).unit = .on →
    (s.rx n).level = 0 → (s.sq 2).unit = .on →
    ∃ t, exec (.hrvArmDisarm h p) s = .next t ∧
      ((s.active .hrvArm).modRx n (fun r => { r with unit := .stopping, ticket := (t.rx n).ticket })).Becomes t ∧
      (t.ctx h.ctx).cmds.length = 1) ∧
  (∀ (s : State) (h : Hdr) (p : Octets) (n : Fin 4), s.Ready .hrvArm h p .none → p8 p 0 = n.val → p8 p 1 = 0 → (s.rx n).unit = .on →
    (s.rx n).level = 0 → (s.sq 2).unit ≠ .on →
    ∃ t, exec (.hrvArmDisarm h p) s = .next t ∧
      ((s.active .hrvArm).modRx n (fun r => { r with unit := .off, ticket := (t.rx n).ticket })).Becomes t) ∧
  (∀ (s : State) (h : Hdr) (p : Octets) (n : Fin 4), s.Ready .hrvArm h p .none → p8 p 0 = n.val → p8 p 1 = 0 → (s.rx n).unit = .on →
    (s.rx n).level ≠ 0 →
    ∃ t, exec (.hrvArmDisarm h p) s = .next t ∧ (s.active .hrvArm).Becomes t ∧ s.Replies .hrvArm h .wrongState [] t) ∧
  (∀ (s : State) (h : Hdr) (p : Octets), s.Ready .hrvPolicy h p .none → policy0Bad (pW p 0) = false → policy1Bad (pW p 5) = false →
    ∃ t, exec (.hrvPolicy h p) s = .next t ∧
      ((s.active .hrvPolicy).modHrv (fun v => { v with policy0 := pW p 0, policy1 := pW p 5 })).Becomes t) ∧
  (∀ (s : State) (h : Hdr) (p : Octets), s.Ready .hrvStatus h p .none → s.hrv.period = none →
    ∃ t, exec (.hrvStatus h p) s = .next t ∧ s.Becomes t ∧ s.Replies .hrvStatus h .ok s.hrvStatusData t) ∧
  (∀ (s : State) (h : Hdr) (p : Octets), s.Ready .hrvStatus h p .none → s.hrv.period.isSome = true →
    ∃ t, exec (.hrvStatus h p) s = .next t ∧ s.Becomes t ∧ (t.ctx h.ctx).cmds.length = 1)

/-- The remote lock and the lock drivers (R97, R266, R267, R274 to R276). HRV_LOCK sets and clears the lock in its triplicated word, and waits
for a period where a receiver is armed; a drive that R275 allows begins at once in a gap, or at LOCK_DRIVE_START; it ends with TIMEOUT at
MAX_MS, and with STALL after 20 ms at its current limit. -/
def Obligations.LocksAndDrivers : Prop :=
  (∀ (s : State) (h : Hdr) (p : Octets), s.Ready .hrvLock h p .none → p8 p 0 = 1 → p8 p 1 ≤ 1 → s.hrv.anyArmed = false →
    ∃ t, exec (.hrvLock h p) s = .next t ∧
      (((s.active .hrvLock).modHrv (fun v => { v with lock := true, wantB := v.wantB || decide (p8 p 1 = 1) })).critWritten 4 1).Becomes t) ∧
  (∀ (s : State) (h : Hdr) (p : Octets), s.Ready .hrvLock h p .none → p8 p 0 = 1 → p8 p 1 ≤ 1 → s.hrv.anyArmed = true → (s.sq 2).unit = .on →
    ∃ t, exec (.hrvLock h p) s = .next t ∧
      (((s.active .hrvLock).modHrv (fun v => { v with lock := true, wantB := v.wantB || decide (p8 p 1 = 1) })).critWritten 4 1).Becomes t ∧
      (t.ctx h.ctx).cmds.length = 1) ∧
  (∀ (s : State) (h : Hdr) (p : Octets), s.Ready .hrvLock h p .none → p8 p 0 = 0 → p8 p 1 ≤ 1 →
    ∃ t, exec (.hrvLockClear h p) s = .next t ∧ t.hrv.lock = false ∧ t.hrv.wantB = false ∧
      (((s.active .hrvLock).modHrv (fun v => { v with lock := false, wantB := false, drivers := t.hrv.drivers })).critWritten 4 1).Becomes t) ∧
  (∀ (s : State) (h : Hdr) (p : Octets) (n : Fin 2) (o : Obs), s.Ready .hrvActuate h p o → (coilObs o).1 = true → p8 p 0 = n.val → p8 p 1 ≤ 1 →
    10 ≤ p16 p 2 → p16 p 2 ≤ 2000 → 4 ≤ p8 p 4 → p8 p 4 ≤ 20 → (∀ k, (s.driver k).running = false ∧ (s.driver k).waiting = false) →
    s.lf.round = none → s.driveAllowed n (p8 p 1) = true →
    ∃ t, exec (.hrvActuate h p o) s = .next t ∧
      ((s.active .hrvActuate).modDriver n (fun d => { d with
        running := true, byHost := true, dir := p8 p 1, maxMs := p16 p 2, ilim := p8 p 4, began := s.aon.tick, peak := 0, now := 0 })).Becomes t ∧
      (t.ctx h.ctx).cmds.length = 1) ∧
  (∀ (s : State) (h : Hdr) (p : Octets) (n : Fin 2) (o : Obs), s.Ready .hrvActuate h p o → p8 p 0 = n.val → p8 p 1 ≤ 1 →
    10 ≤ p16 p 2 → p16 p 2 ≤ 2000 → 4 ≤ p8 p 4 → p8 p 4 ≤ 20 → (s.driver n).running = false → (s.driver n).waiting = false →
    s.driveAllowed n (p8 p 1) = false →
    ∃ t, exec (.hrvActuate h p o) s = .next t ∧ (s.active .hrvActuate).Becomes t ∧ s.Replies .hrvActuate h .wrongState [] t) ∧
  (∀ (s : State) (n : Fin 2), s.Calm → (s.driver n).waiting = true → s.driveFree = true → s.working = true →
    s.driveAllowed n (s.driver n).dir = true →
    exec (.lockDriveStart n true) s = .next (s.modDriver n (fun d => { d with
      running := true, waiting := false, began := s.aon.tick, peak := 0, now := 0 }))) ∧
  (∀ (s : State) (n : Fin 2) (i : Nat), s.Calm → (s.driver n).running = true → (s.driver n).maxMs * 32768 ≤ (s.age (s.driver n).began + 1) * 1000 →
    exec (.lockDriveTimeout n i) s = .next ((s.modDriver n (fun d => { d with
      running := false, waiting := false, now := 0, peak := max d.peak i, ended := some s.aon.tick, lastDir := d.dir })).modHrv
        (fun v => { v with lastResult := 1, flags := raiseFlag v.flags 5 }))) ∧
  (∀ (s : State) (n : Fin 2) (i : Nat), s.Calm → (s.driver n).running = true → 20 * 32768 ≤ (s.age (s.driver n).began + 1) * 1000 →
    (s.driver n).ilim * 50 ≤ i →
    exec (.lockDriveStall n i) s = .next ((s.modDriver n (fun d => { d with
      running := false, waiting := false, now := 0, peak := max d.peak i, ended := some s.aon.tick, lastDir := d.dir })).modHrv
        (fun v => { v with lastResult := 2, flags := raiseFlag v.flags 5 })))

/-- Release periods (R21, R250, R255, R257, R298). At a cadence point of sequencer 2 with no period in progress a period starts: the program
enters at its first word, every armed receiver has a sheaf composed under the next value of its counter, and no other has one. With a period in
progress the point is remembered, and its period starts after the headland as a late one; with sequencer 2 not ON the point is skipped and
counted. -/
def Obligations.ReleasePeriodsStartAtTheirCadence : Prop :=
  (∀ (s : State) (o : PeriodObs), s.Calm → s.trigDue 15 = true → s.periodsRun = true → s.hrv.period = none → (s.sq 2).unit = .on →
    (s.sq 2).image.entry0 < (s.sq 2).image.code.length → s.critSound [0, 1, 2, 3, 4, 5, 6, 7, 8, 9] = true → o.fault = 0 → o.composer = 0 →
    s.quarantined = false →
    (∀ n, (s.rx n).armed = true → (s.slot (10 + n.val)).st = .written ∧ (∃ k, s.latch (10 + n.val) = .key k) ∧ (s.rx n).next < (s.rx n).blockEnd) →
    ∃ t q, exec (.cadencePoint o) s = .next t ∧ t.hrv.period = some q ∧ q.began = s.aon.tick ∧ q.late = false ∧
      q.number = s.hrv.periods + 1 ∧ t.hrv.periods = s.hrv.periods + 1 ∧ t.hrv.lastAt = some s.aon.tick ∧ t.hrv.moving = s.movingNow ∧
      (t.sq 2).inRound = true ∧ (t.sq 2).pc = (s.sq 2).image.entry0 ∧ (t.sq 2).entered = s.aon.tick ∧
      (t.trig 15).nextNs = (s.trig 15).nextNs + (t.trig 15).period ∧ (t.trig 15).period = s.hrv.cadence * 1000000 ∧
      ∀ n, ((s.rx n).armed = true → ∃ pay, q.sheaf[n] = .held pay ∧ (t.rx n).next = (s.rx n).next + 1 ∧
          (q.plan[n].map (·.counter)) = some (s.rx n).next) ∧
        ((s.rx n).armed = false → q.sheaf[n] = .none ∧ t.rx n = s.rx n)) ∧
  (∀ (s : State) (o : PeriodObs), s.Calm → s.hrv.lateDue = true → s.periodsRun = true → s.hrv.period = none → (s.sq 2).unit = .on →
    (s.sq 2).image.entry0 < (s.sq 2).image.code.length → s.critSound [0, 1, 2, 3, 4, 5, 6, 7, 8, 9] = true →
    (∀ n, (s.rx n).armed = false) →
    ∃ t q, exec (.latePeriodStart o) s = .next t ∧ t.hrv.period = some q ∧ q.began = s.aon.tick ∧ q.late = true ∧ t.hrv.lateDue = false ∧
      bit t.hrv.flags 0 = true ∧ t.hrv.counts0 = bump s.hrv.counts0 0 ∧ (t.sq 2).inRound = true ∧
      (t.sq 2).pc = (s.sq 2).image.entry0 ∧ ∀ n, t.rx n = s.rx n) ∧
  (∀ (s : State) (o : PeriodObs), s.Calm → s.trigDue 15 = true → s.periodsRun = true → s.hrv.period.isSome = true → (s.sq 2).unit = .on →
    exec (.cadencePoint o) s = .next ((s.modTrig 15 (fun x => { x with
      nextNs := x.nextNs + x.period, fires := satSucc x.fires 0xFFFF, late := false })).modHrv (fun v => { v with lateDue := true }))) ∧
  (∀ (s : State) (o : PeriodObs), s.Calm → s.trigDue 15 = true → s.periodsRun = true → s.hrv.period = none → (s.sq 2).unit ≠ .on →
    exec (.cadencePoint o) s = .next ((s.modTrig 15 (fun x => { x with
      period := s.hrv.cadence * 1000000, nextNs := x.nextNs + s.hrv.cadence * 1000000, fires := satSucc x.fires 0xFFFF, late := false })).modSeq 2
        (fun q => { q with counts := bumpBy q.counts 32 8 1 })))


/-- Loading, starting and stopping sequencers (R281, R297, R301 to R303, R308). A first chunk opens the staging and puts its words there; a
last one that completes an image which passes every check installs it between rounds, its registers 0; an image that fails a check is refused
with SEQ_FAULT and its cause, and installs nothing; SEQ_START and SEQ_STOP move the unit, and sequencer 2 is not stopped above DENY; a checked
image that waited is installed once no round runs; a staging without a chunk for 10 s is dropped; SEQ_STATUS gives the SEQ_ registers. -/
def Obligations.SequencersAreLoadedAndRun : Prop :=
  (∀ (s : State) (h : Hdr) (p : Octets), s.Ready .seqLoad h p .none → p8 p 0 ≤ 2 → p8 p 1 = 1 → p16 p 2 = 0 → (p.length - 4) / 5 ≤ 517 →
    s.seq.stage = none →
    ∃ t, exec (.seqLoad h p) s = .next t ∧ s.Replies .seqLoad h .ok [] t ∧
      State.Becomes { s with
        mem := s.mem.writeRun stageBase (wordsOf (p.drop 4) ((p.length - 4) / 5))
        seq := { s.seq with stage := (some
          { ctx := h.ctx, seq := Fin.ofNat 3 (p8 p 0), words := (p.length - 4) / 5, gap := false, last := s.aon.tick }) } } t) ∧
  (∀ (s : State) (h : Hdr) (p : Octets) (n : Fin 3) (i : Image), s.Ready .seqLoad h p .none → p8 p 0 = n.val → p8 p 1 = 3 → p16 p 2 = 0 →
    s.seq.stage = none → s.mem.Sound → (s.mem.phys stageBase) / 16384 ≠ s.mem.ringBank → (s.sq n).inRound = false →
    s.checkImage n (wordsOf (p.drop 4) ((p.length - 4) / 5)) false = .image i →
    ∃ t, exec (.seqLoad h p) s = .next t ∧ s.Replies .seqLoad h .ok [] t ∧ t.seq.stage = none ∧ t.sq n = { s.sq n with
      image := i, source := 1, fallback := false, regs := Vector.replicate 8 0, next := none, ticket := none } ∧
      ∀ m, m ≠ n → t.sq m = s.sq m) ∧
  (∀ (s : State) (h : Hdr) (p : Octets) (n : Fin 3) (c w : Nat), s.Ready .seqLoad h p .none → p8 p 0 = n.val → p8 p 1 = 3 → p16 p 2 = 0 →
    s.seq.stage = none → s.mem.Sound → (s.mem.phys stageBase) / 16384 ≠ s.mem.ringBank →
    s.checkImage n (wordsOf (p.drop 4) ((p.length - 4) / 5)) false = .fault c w →
    ∃ t, exec (.seqLoad h p) s = .next t ∧ s.Replies .seqLoad h .seqFault (o8 c ++ o16 w) t ∧ t.seq.stage = none ∧
      t.sq n = { s.sq n with cause := c, faultPc := w } ∧ bit t.seq.flags 3 = true ∧ ∀ m, m ≠ n → t.sq m = s.sq m) ∧
  (∀ (s : State) (h : Hdr) (p : Octets) (n : Fin 3), s.Ready .seqStart h p .none → p8 p 0 = n.val → (s.sq n).unit = .off →
    ∃ t, exec (.seqStart h p) s = .next t ∧ (s.modSeq n (fun q => { q with unit := .starting })).Becomes t ∧ (t.ctx h.ctx).cmds.length = 1) ∧
  (∀ (s : State) (h : Hdr) (p : Octets) (n : Fin 3), s.Ready .seqStop h p .none → p8 p 0 = n.val → (s.sq n).unit = .on →
    (n = 2 → s.aboveDeny = false) →
    ∃ t, exec (.seqStop h p) s = .next t ∧ (s.modSeq n (fun q => { q with unit := .stopping, stopHalt := false })).Becomes t ∧
      (t.ctx h.ctx).cmds.length = 1) ∧
  (∀ (s : State) (h : Hdr) (p : Octets), s.Ready .seqStop h p .none → p8 p 0 = 2 → s.aboveDeny = true →
    ∃ t, exec (.seqStop h p) s = .next t ∧ s.Becomes t ∧ s.Replies .seqStop h .wrongState [] t) ∧
  (∀ (s : State) (h : Hdr) (p : Octets), s.Ready .seqStatus h p .none →
    ∃ t, exec (.seqStatus h p) s = .next t ∧ s.Becomes t ∧
      s.Replies .seqStatus h .ok ((seqAddrs.map (fun o => wordOctets ((seqReg s o).getD 0))).flatten) t) ∧
  (∀ (s : State) (n : Fin 3) (i : Image), s.Calm → (s.sq n).next = some i → (s.sq n).inRound = false →
    exec (.imageInstall n) s = .next (s.modSeq n (fun q => { q with
      image := i, source := if q.ticket.isSome then 2 else 1, fallback := false, regs := Vector.replicate 8 0, next := none, ticket := none }))) ∧
  (∀ (s : State) (g : Staging), s.Calm → s.seq.stage = some g → 327680 ≤ s.age g.last →
    exec .stagingTimeout s = .next { s with seq := { s.seq with stage := none, flags := raiseFlag s.seq.flags 4 } })

/-- The arithmetic and flow of Tilth (R284): at an instruction whose next index lies inside the program, NOP only goes on; SET, ADD, CMP, LOOP,
CALL and RET do what the table gives; BRANCH follows its condition; a CALL at depth 4 and a RET on an empty stack fault. The frame: no other
register of the sequencer, no other sequencer and nothing else of the device changes. -/
def Obligations.TilthArithmeticAndFlow : Prop :=
  (∀ (s : State) (n : Fin 3) (w : Word), s.Calm → s.fetchOp n 0x00 = some w → (s.sq n).pc + 1 < (s.sq n).image.code.length →
    exec (.nop n) s = .next (s.modSeq n (fun q => { q with pc := q.pc + 1 }))) ∧
  (∀ (s : State) (n : Fin 3) (w : Word), s.Calm → s.fetchOp n 0x01 = some w → (s.sq n).pc + 1 < (s.sq n).image.code.length →
    exec (.set n) s = .next (s.modSeq n (fun q => { q with
      regs := q.regs.set (tRa w) (if tI w then (if bit w 26 then setFld q.regs[tRa w] 26 14 (fld w 0 14) else tImm w) else q.regs[tRb w])
      pc := q.pc + 1 }))) ∧
  (∀ (s : State) (n : Fin 3) (w : Word), s.Calm → s.fetchOp n 0x02 = some w → (s.sq n).pc + 1 < (s.sq n).image.code.length →
    exec (.add n) s = .next (s.modSeq n (fun q => { q with
      regs := q.regs.set (tRa w) (q.regs[tRa w] + if tI w then tImm w else q.regs[tRb w])
      pc := q.pc + 1 }))) ∧
  (∀ (s : State) (n : Fin 3) (w b : Word), s.Calm → s.fetchOp n 0x03 = some w → (s.sq n).pc + 1 < (s.sq n).image.code.length →
    b = (if tI w then tImm w else (s.sq n).reg (tRb w)) →
    exec (.cmp n) s = .next (s.modSeq n (fun q => { q with
      eq := decide (q.reg (tRa w) = b)
      lt := decide ((q.reg (tRa w)).toNat < b.toNat)
      slt := decide ((q.reg (tRa w)).toInt < b.toInt)
      pc := q.pc + 1 }))) ∧
  (∀ (s : State) (n : Fin 3) (w : Word), s.Calm → s.fetchOp n 0x04 = some w → (s.sq n).pc + 1 < (s.sq n).image.code.length →
    fld w 0 9 < (s.sq n).image.code.length → fld w 24 3 ≤ 6 →
    exec (.branch n) s = .next (s.modSeq n (fun q => { q with
      pc := if [true, q.eq, !q.eq, q.lt, !q.lt, q.slt, !q.slt].getD (fld w 24 3) false then fld w 0 9 else q.pc + 1 }))) ∧
  (∀ (s : State) (n : Fin 3) (w : Word), s.Calm → s.fetchOp n 0x05 = some w → (s.sq n).pc + 1 < (s.sq n).image.code.length →
    fld w 0 9 < (s.sq n).image.code.length →
    exec (.loop n) s = .next (s.modSeq n (fun q => { q with
      regs := q.regs.set (tRa w) (q.regs[tRa w] - 1)
      pc := if q.regs[tRa w] = 1 then q.pc + 1 else fld w 0 9 }))) ∧
  (∀ (s : State) (n : Fin 3) (w : Word), s.Calm → s.fetchOp n 0x06 = some w → fld w 0 9 < (s.sq n).image.code.length →
    (s.sq n).stack.length < 4 →
    exec (.call n) s = .next (s.modSeq n (fun q => { q with stack := (q.pc + 1) :: q.stack, pc := fld w 0 9 }))) ∧
  (∀ (s : State) (n : Fin 3) (w : Word), s.Calm → s.fetchOp n 0x06 = some w → 4 ≤ (s.sq n).stack.length → (s.sq n).next = none →
    ∃ t, exec (.call n) s = .next t ∧ (t.sq n).cause = 1 ∧ (t.sq n).faultPc = (s.sq n).pc ∧ (t.sq n).image = defaultImage n ∧
      (t.sq n).fallback = true ∧ ((t.sq n).inRound = false ∨ (t.sq n).ending = true)) ∧
  (∀ (s : State) (n : Fin 3) (w : Word) (i : Nat) (l : List Nat), s.Calm → s.fetchOp n 0x07 = some w → (s.sq n).stack = i :: l →
    i < (s.sq n).image.code.length →
    exec (.ret n) s = .next (s.modSeq n (fun q => { q with pc := i, stack := l }))) ∧
  (∀ (s : State) (n : Fin 3) (w : Word), s.Calm → s.fetchOp n 0x07 = some w → (s.sq n).stack = [] → (s.sq n).next = none →
    ∃ t, exec (.ret n) s = .next t ∧ (t.sq n).cause = 2 ∧ (t.sq n).faultPc = (s.sq n).pc ∧ (t.sq n).image = defaultImage n ∧
      (t.sq n).fallback = true ∧ ((t.sq n).inRound = false ∨ (t.sq n).ending = true)) ∧
  (∀ (s : State) (n : Fin 3) (w : Word), s.Calm → s.fetchOp n 0x08 = some w → (s.sq n).pc + 1 < (s.sq n).image.code.length →
    exec (.get n) s = .next (s.modSeq n (fun q => { q with
      regs := q.regs.set (tRa w) (BitVec.ofNat 40 (s.getValue n (fld w 0 8))), pc := q.pc + 1 })))

/-- Waits and signals of Tilth (R286 to R289). A relative WAIT_TIME holds the program from now, an absolute one from t = 0 of the round, or
goes on with 1 where the time has certainly passed; its end goes on with 0; WAIT_EVENT takes the lowest latched line of its mask and clears it,
or waits; SIGNAL latches a line of a sequencer that is not OFF, be it the one that runs it, beside the lines it has, and of one that is OFF nothing. -/
def Obligations.TilthWaitsAndSignals : Prop :=
  (∀ (s : State) (n : Fin 3) (w : Word) (x : Bool), s.Calm → s.fetchOp n 0x10 = some w → bit w 24 = false →
    exec (.waitTime n x) s = .next (s.modSeq n (fun q => { q with
      stall := .time (fld w 25 2) (if tI w then fld w 0 24 else fld (q.reg (tRb w)) 0 24) s.aon.tick }))) ∧
  (∀ (s : State) (n : Fin 3) (w : Word) (x : Bool) (c : Nat), s.Calm → s.fetchOp n 0x10 = some w → bit w 24 = true →
    c = (if tI w then fld w 0 24 else fld ((s.sq n).reg (tRb w)) 0 24) →
    s.maybePast (fld w 25 2) c (s.age (s.sq n).began) = false → s.surelyPast (fld w 25 2) c (s.age (s.sq n).began) = false →
    exec (.waitTime n x) s = .next (s.modSeq n (fun q => { q with stall := .time (fld w 25 2) c q.began }))) ∧
  (∀ (s : State) (n : Fin 3) (w : Word) (x : Bool) (c : Nat), s.Calm → s.fetchOp n 0x10 = some w → bit w 24 = true →
    c = (if tI w then fld w 0 24 else fld ((s.sq n).reg (tRb w)) 0 24) → (s.sq n).pc + 1 < (s.sq n).image.code.length →
    s.surelyPast (fld w 25 2) c (s.age (s.sq n).began) = true →
    exec (.waitTime n x) s = .next (s.modSeq n (fun q => { q with regs := q.regs.set (tRa w) 1, pc := q.pc + 1 }))) ∧
  (∀ (s : State) (n : Fin 3) (w since : Word) (u c : Nat), s.Calm → (s.sq n).stall = .time u c since → (s.sq n).inRound = true →
    (s.sq n).ending = false → (s.sq n).image.code[(s.sq n).pc]? = some w → (s.sq n).pc + 1 < (s.sq n).image.code.length →
    s.maybePast u c (s.age since) = true →
    exec (.waitTimeEnd n) s = .next (s.modSeq n (fun q => { q with regs := q.regs.set (tRa w) 0, pc := q.pc + 1, stall := .none }))) ∧
  (∀ (s : State) (n : Fin 3) (w : Word) (k : Nat), s.Calm → s.fetchOp n 0x11 = some w → (s.sq n).pc + 1 < (s.sq n).image.code.length →
    k < 16 → (s.sq n).lines.getLsbD k = true → (fld w 0 16).testBit k = true →
    (∀ j < k, ((s.sq n).lines.getLsbD j && (fld w 0 16).testBit j) = false) →
    exec (.waitEvent n) s = .next (s.modSeq n (fun q => { q with
      lines := q.lines &&& ~~~BitVec.ofNat 16 (2 ^ k), regs := q.regs.set (tRa w) (BitVec.ofNat 40 k), pc := q.pc + 1 }))) ∧
  (∀ (s : State) (n : Fin 3) (w : Word), s.Calm → s.fetchOp n 0x11 = some w → (s.sq n).lines &&& BitVec.ofNat 16 (fld w 0 16) = 0 →
    exec (.waitEvent n) s = .next (s.modSeq n (fun q => { q with stall := .event (BitVec.ofNat 16 (fld w 0 16)) (tRa w) }))) ∧
  (∀ (s : State) (n t : Fin 3) (w : Word), s.Calm → s.fetchOp n 0x12 = some w → (s.sq n).pc + 1 < (s.sq n).image.code.length →
    fld w 0 2 = t.val → (s.sq t).unit ≠ .off → (s.sq t).stall = .none →
    exec (.signal n) s = .next ((s.modSeq n (fun q => { q with pc := q.pc + 1 })).modSeq t (fun q => { q with
      lines := q.lines ||| BitVec.ofNat 16 (2 ^ fld w 2 2) }))) ∧
  (∀ (s : State) (n t : Fin 3) (w : Word) (ra : Fin 8), s.Calm → s.fetchOp n 0x12 = some w → (s.sq n).pc + 1 < (s.sq n).image.code.length →
    fld w 0 2 = t.val → t ≠ n → (s.sq t).unit ≠ .off → (s.sq t).stall = .event (BitVec.ofNat 16 (2 ^ fld w 2 2)) ra →
    (s.sq t).pc + 1 < (s.sq t).image.code.length → (s.sq t).lines = 0 →
    exec (.signal n) s = .next ((s.modSeq n (fun q => { q with pc := q.pc + 1 })).modSeq t (fun q => { q with
      regs := q.regs.set ra (BitVec.ofNat 40 (fld w 2 2)), stall := .none, pc := q.pc + 1 }))) ∧
  (∀ (s : State) (n t : Fin 3) (w : Word), s.Calm → s.fetchOp n 0x12 = some w → (s.sq n).pc + 1 < (s.sq n).image.code.length →
    fld w 0 2 = t.val → (s.sq t).unit = .off →
    exec (.signal n) s = .next (s.modSeq n (fun q => { q with pc := q.pc + 1 })))

/-- SEND_LF, BURST and LISTEN (R105 to R109, R112 to R114, R291). In its order in the round, with coils it may use, with the supply, the duty
and the time for it, an element goes on air: its coils are driven, its frame is the one of its kind, its on-time is recorded, and the program
waits for it; the wake burst is t = 0 of the round. A confirm with no acceptance left answers NONE, and an element after a refused one ORDER. -/
def Obligations.PloughElementsGoOnAir : Prop :=
  (∀ (s : State) (w : Word) (r : PloughRound) (x : Bool) (set : BitVec 12), s.Calm → s.fetchOp 0 0x18 = some w → s.lf.round = some r →
    r.refused = false → fld w 25 2 = 0 → r.next = 0 → s.fits r 1146 = true → s.dutyOk (s.lf.us 698) = true →
    set = s.lf.frameSet ((s.sq 0).coilOperand w) &&& s.lf.coolMask → set ≠ 0 →
    ∃ t q, exec (.sendLf x true) s = .next t ∧ t.lf.round = some q ∧ q.onAir = some .wake ∧ q.driven = set ∧ q.stamp = s.aon.tick ∧
      q.next = 0 ∧ t.lf.frame = wakeFrame (if r.full then fld s.lf.wakeId 16 16 else fld s.lf.wakeId 0 16) ∧
      t.lf.duty = (s.addOn (s.lf.us 698)).lf.duty ∧ (t.sq 0).stall = .element (tRa w) ∧ (t.sq 0).began = s.aon.tick ∧
      (t.sq 0).pc = (s.sq 0).pc ∧ (t.sq 0).regs = (s.sq 0).regs) ∧
  (∀ (s : State) (w : Word) (r : PloughRound) (set : BitVec 12), s.Calm → s.fetchOp 0 0x18 = some w → s.lf.round = some r →
    r.refused = false → r.full = true → fld w 25 2 = 1 → r.next = 1 → s.fits r 3456 = true → s.dutyOk (s.lf.us 1728) = true →
    set = s.lf.frameSet ((s.sq 0).coilOperand w) &&& s.lf.coolMask → set ≠ 0 →
    ∃ t, exec (.sendLf false true) s = .next t ∧ t.lf.round = some { r with onAir := some .challenge, driven := set } ∧
      t.lf.frame = challengeFrame s.lf.slots r.rb s.lf.roundNo ∧ (t.sq 0).stall = .element (tRa w) ∧ t = { s with lf := t.lf, seq := t.seq }) ∧
  (∀ (s : State) (w : Word) (r : PloughRound) (set : BitVec 12) (a : Acceptance) (key : Octets), s.Calm → s.fetchOp 0 0x18 = some w →
    s.lf.round = some r → r.refused = false → r.full = true → fld w 25 2 = 2 → r.next = 4 → r.listening = false → r.key = some key →
    r.accs[r.confirms]? = some a → r.confirms < 8 → s.fits r 3200 = true → s.dutyOk (s.lf.us 1600) = true →
    set = s.lf.frameSet ((s.sq 0).coilOperand w) &&& s.lf.coolMask → set ≠ 0 →
    ∃ t, exec (.sendLf false true) s = .next t ∧ t.lf.round = some { r with onAir := some (.confirm r.confirms), driven := set } ∧
      t.lf.frame = confirmFrame r.confirms a.id (confirmMac (kCred key a.id a.cls a.epoch) r.rb a.body) ∧
      (t.sq 0).stall = .element (tRa w) ∧ t = { s with lf := t.lf, seq := t.seq }) ∧
  (∀ (s : State) (w : Word) (r : PloughRound) (x y : Bool), s.Calm → s.fetchOp 0 0x18 = some w → (s.sq 0).pc + 1 < (s.sq 0).image.code.length →
    s.lf.round = some r → r.refused = false → r.full = true → fld w 25 2 = 2 → r.next = 4 → r.listening = false → r.accs.length ≤ r.confirms →
    exec (.sendLf x y) s = .next (s.modSeq 0 (fun q => { q with regs := q.regs.set (tRa w) 5, pc := q.pc + 1 }))) ∧
  (∀ (s : State) (w : Word) (r : PloughRound) (x y : Bool), s.Calm → (s.sq 0).pc + 1 < (s.sq 0).image.code.length →
    s.lf.round = some r → r.refused = true →
    (s.fetchOp 0 0x18 = some w → exec (.sendLf x y) s = .next (s.modSeq 0 (fun q => { q with regs := q.regs.set (tRa w) 3, pc := q.pc + 1 }))) ∧
    (s.fetchOp 0 0x19 = some w → exec (.burst x y) s = .next (s.modSeq 0 (fun q => { q with regs := q.regs.set (tRa w) 3, pc := q.pc + 1 })))) ∧
  (∀ (s : State) (w : Word) (r : PloughRound) (mask : BitVec 12), s.Calm → s.fetchOp 0 0x19 = some w → s.lf.round = some r →
    r.refused = false → r.full = true → r.next = 2 → mask = (s.sq 0).coilOperand w → 1 ≤ s.lf.slots →
    s.fits r (burstPeriods s.lf.slots) = true →
    (let n := s.lf.slotCoil 0
     mask.getLsbD n.val = true ∧ (s.lf.coil n).enabled = true ∧ (s.lf.coil n).excluded = false ∧ s.lf.isHot n = false) →
    (let cool := s.lf.slotList.filter (fun k => let n := s.lf.slotCoil k
       mask.getLsbD n.val && (s.lf.coil n).enabled && !(s.lf.coil n).excluded && !s.lf.isHot n)
     s.dutyOk (cool.length * s.lf.us 64) = true) →
    ∃ t, exec (.burst false true) s = .next t ∧
      t.lf.round = some { r with mask := mask, onAir := some (.slot 0), driven := BitVec.ofNat 12 (2 ^ (s.lf.slotCoil 0).val) } ∧
      t.lf.duty = (s.addOn (s.lf.us 64)).lf.duty ∧ (t.sq 0).stall = .element (tRa w) ∧ t = { s with lf := t.lf, seq := t.seq }) ∧
  (∀ (s : State) (w : Word) (r : PloughRound), s.Calm → s.fetchOp 0 0x1A = some w → s.lf.round = some r → r.next = 3 →
    (r.full = true → r.refused = false) → s.coexRefused 1 = false →
    ∃ t, exec (.listen false) s = .next t ∧ t.lf.round = some { r with listening := true, next := 4, sc := fld w 24 2 } ∧
      (t.sq 0).stall = .element (tRa w) ∧ (r.full = true → t.uhf.collected = some s.lf.roundNo) ∧
      t = { s with lf := t.lf, seq := t.seq, uhf := t.uhf })

/-- Elements end (R96, R105, R154, R157, R158, R291): the wake burst of a poll is followed by its LISTEN, and of a full round by the challenge, and
that by the burst; each slot of the burst that was driven is delivered, and after the last one the round listens; a confirm marks its
acceptance. The result word goes to the register and the program goes on. The limiter stops what is on air; hot drivers set their strip's bit,
and cool ones clear it; a matching presence burst makes a full round due; collection ends with its count.
An event that is not due changes nothing: the model's choice (log entry 5). -/
def Obligations.PloughElementsEnd : Prop :=
  (∀ (s : State) (r : PloughRound) (ra : Fin 8) (v : Bool), s.Calm → s.lf.round = some r → (s.sq 0).inRound = true →
    (s.sq 0).stall = .element ra → (s.sq 0).ending = false → (s.sq 0).pc + 1 < (s.sq 0).image.code.length →
    (∀ x, r.onAir = some x → x = .wake ∨ x = .challenge ∨ (x = .slot (s.lf.slots - 1) ∧ 1 ≤ s.lf.slots ∧ r.driven ≠ 0)) → r.onAir.isSome = true →
    ∃ t q, exec (.elementEnd v []) s = .next t ∧ t.lf.round = some q ∧ q.onAir = none ∧ q.driven = 0 ∧
      q.next = (if r.onAir = some .wake then (if r.full then 1 else 3) else if r.onAir = some .challenge then 2 else 3) ∧
      (r.onAir = some (.slot (s.lf.slots - 1)) → q.coil = r.coil.set (s.lf.slotCoil (s.lf.slots - 1)) 0) ∧
      (t.sq 0).regs = (s.sq 0).regs.set ra 0 ∧ (t.sq 0).pc = (s.sq 0).pc + 1 ∧ (t.sq 0).stall = .none ∧
      t = { s with lf := t.lf, seq := t.seq, uhf := t.uhf }) ∧
  (∀ (s : State) (r : PloughRound) (ra : Fin 8) (v : Bool) (j : Nat) (a : Acceptance), s.Calm → s.lf.round = some r → (s.sq 0).inRound = true →
    (s.sq 0).stall = .element ra → (s.sq 0).ending = false → (s.sq 0).pc + 1 < (s.sq 0).image.code.length →
    r.onAir = some (.confirm j) → r.accs[j]? = some a →
    ∃ t q, exec (.elementEnd v []) s = .next t ∧ t.lf.round = some q ∧ q.onAir = none ∧ q.confirms = j + 1 ∧
      q.accs = r.accs.set j { a with confirmed := true } ∧ (t.sq 0).pc = (s.sq 0).pc + 1 ∧ t = { s with lf := t.lf, seq := t.seq }) ∧
  (∀ (s : State) (r : PloughRound) (ra : Fin 8), s.Calm → s.lf.round = some r → (s.sq 0).inRound = true → (s.sq 0).stall = .element ra →
    (s.sq 0).ending = false → (s.sq 0).pc + 1 < (s.sq 0).image.code.length → (r.onAir = some .wake ∨ r.onAir = some .challenge) → r.driven ≠ 0 →
    ∃ t q, exec .vlfLimiterTrip s = .next t ∧ t.lf.flags = s.lf.flags ||| 1 ∧ t.lf.round = some q ∧ q.onAir = none ∧ q.driven = 0 ∧
      q.refused = true ∧ (t.sq 0).regs = (s.sq 0).regs.set ra 4 ∧ (t.sq 0).pc = (s.sq 0).pc + 1 ∧ t = { s with lf := t.lf, seq := t.seq }) ∧
  (∀ (s : State) (k : Fin 3), s.Calm →
    exec (.driverOverTemperature k false) s = .next (s.modLf (fun l => { l with hot := l.hot &&& ~~~BitVec.ofNat 3 (2 ^ k.val) }))) ∧
  (∀ (s : State) (k : Fin 3), s.Calm → s.lf.round = none →
    exec (.driverOverTemperature k true) s = .next (s.modLf (fun l => { l with
      hot := l.hot ||| BitVec.ofNat 3 (2 ^ k.val), flags := l.flags ||| 32 }))) ∧
  (∀ (s : State) (r : PloughRound) (w : BitVec 16) (o : Int), s.Calm → s.lf.round = some r → r.full = false → r.listening = true → r.onAir = none →
    bit s.uhf.vigil 35 = true → w.toNat = fld s.lf.wakeId 0 16 → o.natAbs ≤ 64 → s.inHoldoff = false → s.pwr.state = .run →
    s.pwr.entry = none → (s.sq 0).inRound = true →
    ∃ t, exec (.presenceDetected w o) s = .next t ∧ t.lf.round = none ∧ t.lf.want = some 1 ∧ (t.sq 0).inRound = false) ∧
  (∀ (s : State) (r : PloughRound) (w : BitVec 16) (o : Int), s.Calm → s.lf.round = some r →
    (r.full = true ∨ r.listening = false ∨ w.toNat ≠ fld s.lf.wakeId 0 16 ∨ 64 < o.natAbs) →
    exec (.presenceDetected w o) s = .next s) ∧
  (∀ (s : State) (r : PloughRound) (ra : Fin 8), s.Calm → s.lf.round = some r → r.listening = true → (s.sq 0).stall = .element ra →
    (s.sq 0).pc + 1 < (s.sq 0).image.code.length →
    ∃ t, exec (.collectionClose false) s = .next t ∧ t.lf.round = some { r with listening := false } ∧
      (t.sq 0).regs = (s.sq 0).regs.set ra (if r.full then put 8 8 (min 255 r.accs.length) else 0) ∧ (t.sq 0).pc = (s.sq 0).pc + 1 ∧
      (t.sq 0).lines.getLsbD 12 = true ∧ t = { s with lf := t.lf, seq := t.seq, uhf := t.uhf })

/-- Response frames (R143, R148 to R153, R220, R221): a frame outside its window, with a bad CRC-16, or on another channel is counted and goes no
further; one whose ID is not in the roster or whose MAC fails is rejected with its reason; one that passes every check is accepted, with its
zone; where no collision was indicated the primary slot ends with nothing scheduled.
An event that is not due changes nothing: the model's choice (log entry 5). -/
def Obligations.ResponseFramesAreJudged : Prop :=
  (∀ (s : State) (r : PloughRound) (p : Plan) (f : RxFrame), s.Calm → s.lf.round = some r → s.uhf.plan = some p → r.full = true →
    r.listening = true → f.lane.val < p.count → r.lost.getLsbD f.lane.val = false → f.synced = true → f.clean = true → f.slot.val = r.k →
    (p.hear r.rb f = .window → exec (.responseFrame f) s = .next (s.modUhf (fun u => { u with counts0 := bump u.counts0 0 }))) ∧
    (p.hear r.rb f = .shape → exec (.responseFrame f) s = .next (s.modUhf (fun u => { u with counts0 := bump u.counts0 16 }))) ∧
    (p.hear r.rb f = .channel → exec (.responseFrame f) s = .next (s.modUhf (fun u => { u with counts1 := bump u.counts1 0 }))) ∧
    (p.hear r.rb f = .crc → s.coexBlanked 1 = false → exec (.responseFrame f) s = .next
      ((s.modUhf (fun u => { u with counts0 := bump u.counts0 16 })).modRound (fun r => { r with hint := r.hint || decide (r.k = 0) })))) ∧
  (∀ (s : State) (r : PloughRound) (p : Plan) (f : RxFrame) (key : Octets), s.Calm → s.lf.round = some r → s.uhf.plan = some p → r.full = true →
    r.listening = true → f.lane.val < p.count → r.lost.getLsbD f.lane.val = false → f.synced = true → f.clean = true → f.slot.val = r.k →
    p.hear r.rb f = .passed → r.key = some key → r.erased = false → s.quarantined = false → f.fault = false →
    s.crd.pos? (bodyId f.body) = none →
    exec (.responseFrame f) s = .next ((s.modCrd (fun c => { c with counts0 := bump c.counts0 16 })).modRound (fun r => { r with
      rejs := r.rejs ++ [rejection f 2 false] }))) ∧
  (∀ (s : State) (r : PloughRound) (p : Plan) (f : RxFrame) (key : Octets) (pos : Nat) (ws : List Word) (m : Member), s.Calm →
    s.lf.round = some r → s.uhf.plan = some p → r.full = true → r.listening = true → f.lane.val < p.count → r.lost.getLsbD f.lane.val = false →
    f.synced = true → f.clean = true → f.slot.val = r.k → p.hear r.rb f = .passed → r.key = some key → r.erased = false → r.stale = false →
    s.quarantined = false → f.fault = false → s.RosterAt (bodyId f.body) pos ws → m = Member.ofWords ws → m.id = bodyId f.body →
    (responseMac (kCred key m.id m.cls m.epoch) r.rb f.body = false →
      exec (.responseFrame f) s = .next ((s.modCrd (fun c => { c with counts0 := bump c.counts0 0 })).modRound (fun r => { r with
        rejs := r.rejs ++ [rejection f 1 false] }))) ∧
    (responseMac (kCred key m.id m.cls m.epoch) r.rb f.body = true → r.verified m.id = none → (m.cls = 1 ∨ m.cls = 2 ∨ m.cls = 5) →
      m.revoked s.epoch = false → r.ctrAt pos m.ctr < bodyCtr f.body →
      ∃ t q a, exec (.responseFrame f) s = .next t ∧ t.lf.round = some q ∧ q.accs = r.accs ++ [a] ∧ q.rejs = r.rejs ∧ a.id = m.id ∧ a.pos = pos ∧
        a.ctr = bodyCtr f.body ∧ a.body = f.body ∧ a.conflict = false ∧ a.confirmed = false ∧
        a.zone = classify r.zones (coilCode s.lf.plan0 s.lf.plan1 r.silent (pRun f.body 19 12)) ∧
        a.allowed = zoneAllowed (s.zonePol m) a.zone ∧ t.lf.idleSince = s.aon.calendar)) ∧
  (∀ (s : State) (r : PloughRound) (p : Plan) (x : Nat), s.Calm → s.lf.round = some r → s.uhf.plan = some p → r.full = true → r.listening = true →
    r.k = 0 → r.m = 0 → r.hint = false → x < fld s.uhf.roundCfg 0 5 → bit s.uhf.roundCfg 5 = false → r.sc ≠ 1 →
    exec (.primarySlotEnd x false) s = .next s) ∧
  (∀ (s : State) (r : PloughRound) (p : Plan) (x : Nat), s.Calm → s.lf.round = some r → s.uhf.plan = some p → r.full = true → r.listening = true →
    r.k = 0 → r.m = 0 → r.sc ≠ 2 → 0 < p.sc → 0 < s.chances r p → s.coexBlanked 1 = false →
    ∃ t, exec (.primarySlotEnd x true) s = .next t ∧ t.lf.round = some { r with hint := true, m := s.chances r p, k := 1 } ∧
      t.uhf.counts2 = bump s.uhf.counts2 16 ∧ t = { s with lf := t.lf, uhf := t.uhf })

/-- Plough rounds start (R104, R112, R116 to R119, R160, R282). At a point of the base grid outside RIDE a poll starts; at a point of the ride
grid a full round starts, with a fresh random number and the next round number, and so does one that is due; each enters the program of sequencer 0
at its entry. A point that finds the plough busy is skipped and counted; a point that is not of the grid, or a unit that is not ON, starts nothing;
the holdoff ends; a due coil is pulsed in a gap.
An event that is not due changes nothing: the model's choice (log entry 5). The random number of a round is a free value (log entry 2). -/
def Obligations.PloughRoundsStart : Prop :=
  (∀ (s : State), s.Calm → s.lf.unit = .on → s.lf.ride = false → s.atPoint = true → s.pwr.state = .run → s.sys.faultBoot = false →
    s.lf.idleSince ≤ s.aon.calendar → s.aon.calendar.toNat - s.lf.idleSince.toNat < fld s.lf.cfg 7 8 * dayUnits → s.ploughFree = true →
    s.lf.known = true → (s.sq 0).image.entry0 < (s.sq 0).image.code.length →
    exec .pollPoint s = .next ((s.modLf (fun l => { l with round := some (s.newRound false 0 0), due := none })).modSeq 0 (fun q => { q with
      regs := (q.regs.set 0 1).set 1 0, pc := q.image.entry0, stack := [], inRound := true, entered := s.aon.tick, began := s.aon.tick
      stall := .none, ending := false, counts := bump q.counts 0 }))) ∧
  (∀ (s : State), s.Calm → s.lf.unit = .on → s.lf.ride = false → s.atPoint = true → s.pwr.state = .run → s.sys.faultBoot = false →
    s.lf.idleSince ≤ s.aon.calendar → s.aon.calendar.toNat - s.lf.idleSince.toNat < fld s.lf.cfg 7 8 * dayUnits → s.ploughFree = false →
    exec .pollPoint s = .next (s.modLf (fun l => { l with counts := bump l.counts 0 }))) ∧
  (∀ (s : State), s.Calm → (s.atPoint = false ∨ s.lf.unit ≠ .on) → exec .pollPoint s = .next s ∧ exec .ridePoint s = .next s) ∧
  (∀ (s : State), s.Calm → s.lf.unit = .on → s.lf.ride = true → s.atPoint = true → s.pwr.state = .run → s.sys.faultBoot = false →
    s.ploughFree = true → s.uhf.unit = .on → s.uhf.planNext = none → s.drbgBlocked = none → s.lf.known = true → s.lf.anyFrameCoil = true →
    s.dutyOk s.fullOnUs = true → (s.sq 0).image.entry1 < (s.sq 0).image.code.length →
    exec .ridePoint s = .next ((s.useRandom.modLf (fun l => { l with
        round := some (s.newRound true 0 (Config.drbg s.free)), roundNo := l.roundNo + 1, want := none, due := none })).modSeq 0 (fun q => { q with
      regs := (q.regs.set 0 2).set 1 0, pc := q.image.entry1, stack := [], inRound := true, entered := s.aon.tick, began := s.aon.tick
      stall := .none, ending := false, counts := bump q.counts 0 }))) ∧
  (∀ (s : State) (c : Nat), s.Calm → s.lf.want = some c → s.lf.unit = .on → s.pwr.state = .run → s.pwr.start = none → s.pwr.admits = true →
    s.ploughFree = true → s.uhf.unit = .on → s.uhf.planNext = none → s.drbgBlocked = none → s.lf.known = true → s.lf.anyFrameCoil = true →
    s.dutyOk s.fullOnUs = true → (s.sq 0).image.entry1 < (s.sq 0).image.code.length →
    exec .fullRoundStart s = .next ((s.useRandom.modLf (fun l => { l with
        round := some (s.newRound true c (Config.drbg s.free)), roundNo := l.roundNo + 1, want := none, due := none })).modSeq 0 (fun q => { q with
      regs := (q.regs.set 0 2).set 1 (BitVec.ofNat 40 c), pc := q.image.entry1, stack := [], inRound := true, entered := s.aon.tick
      began := s.aon.tick, stall := .none, ending := false, counts := bump q.counts 0 }))) ∧
  (∀ (s : State) (x : Word), s.Calm → s.lf.holdoff = some x → fld s.lf.cfg 33 7 * 16384 ≤ s.age x →
    exec .holdoffEnd s = .next (s.modLf (fun l => { l with holdoff := none }))) ∧
  (∀ (s : State) (m : CoilMeas), s.Calm → s.lfGap = true → s.pulseDue m.coil = true → s.sys.faultBoot = false → s.pwr.state = .run →
    s.lf.due = none → s.dutyOk (s.lf.us 64) = true →
    ∃ t, exec (.diagnosisPulse true m) s = .next t ∧ (t.lf.coil m.coil).phase = m.phase ∧ (t.lf.coil m.coil).ampl = m.ampl ∧
      (t.lf.coil m.coil).q = m.q ∧ (t.lf.coil m.coil).diagAt = s.aon.tick ∧ t.lf.duty = (s.addOn (s.lf.us 64)).lf.duty ∧
      ∀ n, n ≠ m.coil → t.lf.coil n = s.lf.coil n)

/-- Rounds end (R22, R115, R290, R292, R293, R295, R296). HEADLAND ends the round of its sequencer: the round is gone, the sequencer is out of it
with its stack and lines empty; HALT also stops the sequencer; the deadline ends it too, and is counted. RANGE makes the prepared session's
ranging run, and another session, or a second RANGE, is out of order; EMIT hands the composed sheaf of a receiver to the segment and waits for
it, and answers NONE for a receiver that has none.
An event that is not due changes nothing: the model's choice (log entry 5). -/
def Obligations.RoundsEndAtTheirHeadlands : Prop :=
  (∀ (s : State) (w : Word) (r : PloughRound), s.Calm → s.fetchOp 0 0x1E = some w → s.lf.round = some r → r.onAir = none → r.full = false →
    s.lf.changes = [] →
    ∃ t, exec (.headland 0) s = .next t ∧ t.lf.round = none ∧ (t.sq 0).inRound = false ∧ (t.sq 0).stack = [] ∧ (t.sq 0).lines = 0 ∧
      t.sq 1 = s.sq 1 ∧ t.sq 2 = s.sq 2 ∧ t.crd = s.crd ∧ t.uwb = s.uwb ∧ t.hrv = s.hrv) ∧
  (∀ (s : State) (w : Word), s.Calm → s.fetchOp 1 0x1E = some w →
    ∃ t, exec (.headland 1) s = .next t ∧ t.uwb.round = none ∧ (t.sq 1).inRound = false ∧ (t.sq 1).stack = [] ∧ (t.sq 1).lines = 0 ∧
      t.lf.round = s.lf.round ∧ t.hrv = s.hrv) ∧
  (∀ (s : State) (w : Word), s.Calm → s.fetchOp 2 0x1E = some w → s.sheafOnWire = false →
    ∃ t, exec (.headland 2) s = .next t ∧ t.hrv.period = none ∧ (t.sq 2).inRound = false ∧ (t.sq 2).stack = [] ∧ (t.sq 2).lines = 0 ∧
      t.lf = s.lf ∧ t.uwb = s.uwb) ∧
  (∀ (s : State) (w : Word) (r : PloughRound), s.Calm → s.fetchOp 0 0x1F = some w → (s.sq 0).unit = .on → s.lf.round = some r → r.onAir = none →
    r.full = false → s.lf.changes = [] →
    ∃ t, exec (.halt 0) s = .next t ∧ t.lf.round = none ∧ (t.sq 0).inRound = false ∧ (t.sq 0).unit = .stopping ∧ (t.sq 0).stopHalt = true) ∧
  (∀ (s : State) (w : Word), s.Calm → s.fetchOp 1 0x1F = some w → (s.sq 1).unit = .on →
    ∃ t, exec (.halt 1) s = .next t ∧ t.uwb.round = none ∧ (t.sq 1).inRound = false ∧ (t.sq 1).unit = .stopping ∧ (t.sq 1).stopHalt = true) ∧
  (∀ (s : State) (n : Fin 3), s.Calm → n ≠ 0 → (s.sq n).inRound = true → (s.sq n).ending = false → (s.sq n).next = none → s.seq.signed = false →
    s.deadlineMs n * 32768 ≤ (s.age (s.sq n).entered + 1) * 1000 → s.sheafOnWire = false → (∀ q, s.hrv.period = some q → q.withheld = false) →
    ∃ t, exec (.roundDeadline n) s = .next t ∧ (t.sq n).inRound = false ∧
      ((s.uwb.round.all (·.ran)) = true → (t.sq n).counts = bumpBy (s.sq n).counts 24 8 1)) ∧
  (∀ (s : State) (r : PloughRound), s.Calm → (s.sq 0).inRound = true → (s.sq 0).ending = false → s.lf.round = some r →
    s.deadlineMs 0 * 32768 ≤ (s.age (s.sq 0).entered + 1) * 1000 →
    (r.onAir = none → r.full = false → s.lf.changes = [] →
      ∃ t, exec (.roundDeadline 0) s = .next t ∧ t.lf.round = none ∧ (t.sq 0).inRound = false) ∧
    (r.onAir.isSome = true → exec (.roundDeadline 0) s = .next ((s.modLf (fun l => { l with
        round := some { r with deadline := true, listening := false } })).modSeq 0 (fun q => { q with
      ending := true, counts := bumpBy q.counts 24 8 1 })))) ∧
  (∀ (s : State) (n : Fin 3), s.Calm → ((s.sq n).inRound = false ∨ (s.age (s.sq n).entered + 1) * 1000 < s.deadlineMs n * 32768) →
    exec (.roundDeadline n) s = .next s) ∧
  (∀ (s : State) (w : Word) (r : RangeRound), s.Calm → s.fetchOp 1 0x1B = some w → s.uwb.round = some r →
    ((s.sq 1).reg (tRb w)).toNat = r.session.val → (s.sess r.session).isOpen = true → r.ran = false → r.isOver = false →
    (s.sess r.session).role ≠ 1 →
    exec .range s = .next ((s.modSeq 1 (fun q => { q with stall := .element (tRa w) })).modUwb (fun u => { u with
      round := some { r with ran := true } }))) ∧
  (∀ (s : State) (w : Word), s.Calm → s.fetchOp 1 0x1B = some w → (s.sq 1).pc + 1 < (s.sq 1).image.code.length →
    (∀ r, s.uwb.round = some r → ((s.sq 1).reg (tRb w)).toNat ≠ r.session.val ∨ r.ran = true) →
    exec .range s = .next (s.modSeq 1 (fun q => { q with regs := q.regs.set (tRa w) 3, pc := q.pc + 1 }))) ∧
  (∀ (s : State) (w : Word) (p : Period) (n : Fin 4) (pay : Octets), s.Calm → s.fetchOp 2 0x1C = some w → s.hrv.period = some p →
    ((s.sq 2).reg (tRb w)).toNat = n.val → p.nextRx ≤ n.val → p.sheaf[n] = .held pay →
    exec .emit s = .next { s with
      hrv := { s.hrv with period := some { p with sheaf := p.sheaf.set n .emitted, nextRx := n.val + 1 } }
      ntc := { s.ntc with queue := s.ntc.queue ++ [{ kind := .sheaf n, dst := (s.rx n).mac, ether := 0x88B5, payload := pay }] }
      seq := { s.seq with seqs := s.seq.seqs.set 2 { s.sq 2 with stall := .element (tRa w) } } }) ∧
  (∀ (s : State) (w : Word) (p : Period) (n : Fin 4), s.Calm → s.fetchOp 2 0x1C = some w → (s.sq 2).pc + 1 < (s.sq 2).image.code.length →
    s.hrv.period = some p → ((s.sq 2).reg (tRb w)).toNat = n.val → p.sheaf[n] = .none →
    exec .emit s = .next (s.modSeq 2 (fun q => { q with regs := q.regs.set (tRa w) 5, pc := q.pc + 1 })))

/-- Units, configuration and limits come into force (R63, R116, R122, R127, R248, R297). A STARTING plough, sequencer or receiver reaches ON, with a
new grid, with its registers zero, with its block of counter values; a STOPPING one reaches OFF; between rounds every waiting LF change takes
effect; new regulatory limits that the present configuration keeps are taken over.
An event that is not due changes nothing: the model's choice (log entry 5). The limits are taken over by their own row (log entry 28). -/
def Obligations.UnitsAndLimitsComeIntoForce : Prop :=
  (∀ (s : State) (ok : Bool) (k : Int), s.Calm → s.hst.deferred = [] → s.lf.unit = .starting →
    exec (.unitReachesState .plough ok k) s = .next (s.modLf (fun l => { l with unit := .on, base := l.baseNext, origin := s.aon.tick }))) ∧
  (∀ (s : State) (ok : Bool) (k : Int), s.Calm → s.hst.deferred = [] → s.lf.unit = .stopping → s.lf.round = none →
    exec (.unitReachesState .plough ok k) s = .next (s.modLf (fun l => { l with unit := .off }))) ∧
  (∀ (s : State) (ok : Bool) (k : Int), s.Calm → s.hst.deferred = [] → s.uhf.unit = .stopping → s.fullRound = false →
    exec (.unitReachesState .uhf ok k) s = .next (s.modUhf (fun u => { u with unit := .off, calDue := false }))) ∧
  (∀ (s : State) (k : Int), s.Calm → s.hst.deferred = [] → s.uhf.unit = .starting →
    ∃ t, exec (.unitReachesState .uhf true k) s = .next t ∧ t.uhf.unit = .on ∧ t.uhf.calValid = true ∧ t = { s with uhf := t.uhf }) ∧
  (∀ (s : State) (ok : Bool) (k : Int) (n : Fin 3), s.Calm → s.hst.deferred = [] → (s.sq n).unit = .starting →
    ∃ t, exec (.unitReachesState (.seq n) ok k) s = .next t ∧ t = { s with
      seq := { s.seq with seqs := s.seq.seqs.set n { s.sq n with unit := .on, regs := Vector.replicate 8 0 } }, nvm := t.nvm }) ∧
  (∀ (s : State) (ok : Bool) (k : Int) (n : Fin 3), s.Calm → s.hst.deferred = [] → (s.sq n).unit = .stopping → (s.sq n).inRound = false →
    ∃ t, exec (.unitReachesState (.seq n) ok k) s = .next t ∧ t = { s with
      seq := { s.seq with seqs := s.seq.seqs.set n { s.sq n with unit := .off } }, nvm := t.nvm }) ∧
  (∀ (s : State) (ok : Bool) (k : Int) (n : Fin 4), s.Calm → s.hst.deferred = [] → (s.rx n).unit = .starting → (s.rx n).next < (s.rx n).blockEnd →
    exec (.unitReachesState (.rx n) ok k) s = .next ((s.modRx n (fun r => { r with
      unit := .on, first := true, level := 0, told := 0, lastCap := none, denySince := s.aon.tick })).critWritten (6 + n.val) 1)) ∧
  (∀ (s : State), s.Calm → s.lf.round = none →
    exec .lfConfigApply s = .next (s.modLf (fun l => { l.ahead with
      changes := [], coils := l.ahead.coils.map (fun c => { c with trimNow := c.trim }) }))) ∧
  (∀ (s : State), s.Calm → s.lf.round.isSome = true → exec .lfConfigApply s = .next s) ∧
  (∀ (s : State), s.Calm → s.lf.round = none → s.nvm.reg.getD 1 0 ≠ s.nvm.regLf →
    State.lfLegal { s with nvm := { s.nvm with regLf := s.nvm.reg.getD 1 0 } } s.lf = true →
    exec (.regulatoryLimitsApply 0) s = .next (State.critWritten { s with nvm := { s.nvm with regLf := s.nvm.reg.getD 1 0 } } 10 1)) ∧
  (∀ (s : State), s.Calm → s.fullRound = false → (s.nvm.reg.drop 2).take 8 ≠ s.nvm.regUhf →
    exec (.regulatoryLimitsApply 1) s = .next (State.critWritten { s with nvm := { s.nvm with regUhf := (s.nvm.reg.drop 2).take 8 } } 11 8)) ∧
  (∀ (s : State), s.Calm → s.uwb.round = none → s.nvm.reg.getD 10 0 ≠ s.nvm.regUwb → (∀ n, (s.sess n).isOpen = false) →
    exec (.regulatoryLimitsApply 2) s = .next (State.critWritten { s with nvm := { s.nvm with regUwb := s.nvm.reg.getD 10 0 } } 19 1))

/-- Key slots (R318 to R327, R329). A key in the clear is taken on a wired SPI port only, and stands once its record is sealed: until then the slot
is as it was; a derived key is the SP 800-108 derivation from its source; erasing a slot acts at once, erasing all leaves every slot but 0
EMPTY and every context free and advances CTX_EPOCH; CPH_KEY_INFO gives the tags and check values of a run of slots. -/
def Obligations.KeySlotsAreKept : Prop :=
  (∀ (s : State) (h : Hdr) (p : Octets), s.Ready .cphKeyWrite h p .none → (h.port = .spiA ∨ h.port = .spiB) → p8 p 1 = 0 → p8 p 0 ≠ 0 →
    (s.slotAhead (p8 p 0)).forbids (s.ctx h.ctx).role = false →
    badAttributes (p8 p 0) (p8 p 2) (p8 p 3) (p8 p 4) (p8 p 5) (p8 p 6) (p8 p 7) = false → (p8 p 7 = 1 → p16 p 8 = (s.slot (p8 p 0)).gen) →
    s.quarantined = false →
    ∃ t k, exec (.cphKeyWrite h p) s = .next t ∧
      State.Becomes { s with cph := { s.cph with pend := s.cph.pend ++ [{ slot := p8 p 0, ticket := k, val :=
        { usage := p8 p 2, size := p8 p 3, fchk := p8 p 4, cls := if isReservedSlot (p8 p 0) then 0 else p8 p 5
          persist := if isReservedSlot (p8 p 0) then 1 else p8 p 6, st := .written, gen := nextGen (s.slotAhead (p8 p 0)).gen
          key := p.drop 10, kcv := kcvOf (p.drop 10) } }] } } t ∧
      (t.ctx h.ctx).cmds.length = 1) ∧
  (∀ (s : State) (h : Hdr) (p : Octets), s.Ready .cphKeyWrite h p .none → (h.port = .uartC ∨ h.port = .net) → p8 p 1 = 0 →
    ∃ t, exec (.cphKeyWrite h p) s = .next t ∧ s.Becomes t ∧ s.Replies .cphKeyWrite h .notPermitted [] t) ∧
  (∀ (s : State) (h : Hdr) (p : Octets) (k : Octets), s.Ready .cphKeyDerive h p .none → p8 p 1 ≠ 0 →
    (s.slotAhead (p8 p 1)).forbids (s.ctx h.ctx).role = false →
    badAttributes (p8 p 1) (p8 p 2) (p8 p 3) (p8 p 4) (p8 p 5) (p8 p 6) (p8 p 7) = false → (p8 p 7 = 1 → p16 p 8 = (s.slot (p8 p 1)).gen) →
    s.quarantined = false → 1 ≤ p8 p 10 → p8 p 10 ≤ 32 → p8 p 11 ≤ 32 → s.cph.katModes.getLsbD 0 = false →
    s.latch (p8 p 0) = .key k → (s.slot (p8 p 0)).usage = 4 →
    ∃ t q, exec (.cphKeyDerive h p) s = .next t ∧ State.Becomes { s with cph := { s.cph with pend := s.cph.pend ++ [q] } } t ∧
      q.slot = p8 p 1 ∧ q.val.st = .written ∧ q.val.usage = p8 p 2 ∧
      q.val.key = kdf k (pRun p 12 (p8 p 10)) (pRun p (12 + p8 p 10) (p8 p 11)) (p8 p 3) ∧ (t.ctx h.ctx).cmds.length = 1) ∧
  (∀ (s : State) (h : Hdr) (p : Octets), s.Ready .cphKeyErase h p .none → p8 p 1 = 0 → p8 p 0 ≠ 0 → p8 p 0 ≠ 15 →
    (s.slotAhead (p8 p 0)).forbids (s.ctx h.ctx).role = false →
    ∃ t, exec (.cphKeyErase h p) s = .next t ∧ (t.slot (p8 p 0)).st = .erased ∧ (t.slot (p8 p 0)).key = [] ∧
      (t.slot (p8 p 0)).gen = nextGen (s.slotAhead (p8 p 0)).gen ∧ (∀ n, n ≠ p8 p 0 → t.slot n = s.slot n) ∧ t.cph.ctxs = s.cph.ctxs ∧
      (t.ctx h.ctx).cmds.length = 1) ∧
  (∀ (s : State) (h : Hdr) (p : Octets), s.Ready .cphKeyErase h p .none → p8 p 1 = 1 → (s.ctx h.ctx).role = .fleet →
    ∃ t, exec (.cphKeyEraseAll h p) s = .next t ∧ t.slot 0 = s.slot 0 ∧
      (∀ n, 1 ≤ n → n < 256 → (t.slot n).st = .empty ∧ (t.slot n).key = [] ∧ (t.slot n).gen = nextGen (s.slot n).gen) ∧
      (∀ i < 64, (t.cctx i).inUse = false) ∧ t.cph.pend = [] ∧ t.nvm.tallyOps.any (fun x => decide (x.counter = 2 ∧ x.use = .ctxEpoch)) = true) ∧
  (∀ (s : State) (h : Hdr) (p : Octets), s.Ready .cphKeyInfo h p .none → 1 ≤ p8 p 1 → p8 p 1 ≤ 32 → p8 p 0 + p8 p 1 ≤ 256 →
    ∃ t, exec (.cphKeyInfo h p) s = .next t ∧ s.Becomes t ∧ s.Replies .cphKeyInfo h .ok
      (((List.range (p8 p 1)).map (fun i => wordOctets (s.slot (p8 p 0 + i)).tag ++ leOf 5 (s.slot (p8 p 0 + i)).kcv)).flatten) t)

/-- CPH_RUN, its contexts, random numbers and the cipher tract's events (R316, R328, R330 to R343). A single-shot operation under a key of the
right usage gives the chunk of its mode, and changes no context; an INIT chunk that is not FINAL opens its context; a tag that does not verify is
AUTH_FAIL; a context is copied, exported under slot 0 and freed, and restored from what was exported; CPH_RANDOM gives the draws and uses them up;
quarantine ends after its time, and a due reseed begins and ends.
An event that is not due changes nothing: the model's choice (log entry 5). -/
def Obligations.CipherOperationsRun : Prop :=
  (∀ (s : State) (h : Hdr) (p o c g : Octets) (k : Octets) (m : Nat) (a : RunArgs), s.Ready .cphRun h p .none → a = runArgs p → a.ctx = 0xFF →
    a.bad = false → a.badLength = false → a.drbg = false → (a.mode = 4 → s.cph.katModes.getLsbD 0 = false) →
    (a.mode = 5 → s.cph.katModes.getLsbD 1 = false) → s.latch a.slot = .key k → (s.slot a.slot).usage = usageOf a.op →
    runChunk k a (if a.mode = 4 then List.replicate 16 0 else a.iv) [] 0 = .out o c g m →
    ∃ t, exec (.cphRun h p .none) s = .next t ∧ s.Becomes t ∧ s.Replies .cphRun h .ok ([0] ++ o16 o.length ++ o) t) ∧
  (∀ (s : State) (h : Hdr) (p : Octets) (k : Octets) (a : RunArgs), s.Ready .cphRun h p .none → a = runArgs p → a.ctx = 0xFF →
    a.bad = false → a.badLength = false → a.drbg = false → (a.mode = 4 → s.cph.katModes.getLsbD 0 = false) →
    (a.mode = 5 → s.cph.katModes.getLsbD 1 = false) → s.latch a.slot = .key k → (s.slot a.slot).usage = usageOf a.op →
    runChunk k a (if a.mode = 4 then List.replicate 16 0 else a.iv) [] 0 = .fail .authFail →
    ∃ t, exec (.cphRun h p .none) s = .next t ∧ s.Becomes t ∧ s.Replies .cphRun h .authFail [] t) ∧
  (∀ (s : State) (h : Hdr) (p o c g : Octets) (k : Octets) (m : Nat) (a : RunArgs), s.Ready .cphRun h p .none → a = runArgs p → a.ctx < 64 →
    a.init = true → a.final = false → (s.cctx a.ctx).inUse = false → a.bad = false → a.badLength = false → a.drbg = false → a.mode ≤ 3 →
    s.latch a.slot = .key k → (s.slot a.slot).usage = usageOf a.op → runChunk k a a.iv [] 0 = .out o c g m →
    ∃ t, exec (.cphRun h p .none) s = .next t ∧ s.Replies .cphRun h .ok ([0] ++ o16 o.length ++ o) t ∧
      (s.putCctx a.ctx { s.cctx a.ctx with inUse := true, owner := h.ctx, mode := a.mode, op := a.op, width := a.width, slot := a.slot
                                           gen := (s.slot a.slot).gen, chain := c, part := g, count := m }).Becomes t) ∧
  (∀ (s : State) (h : Hdr) (p : Octets) (x : CphCtx), s.Ready .cphCtxSave h p .none → p8 p 0 = 0 → p8 p 1 ≤ 63 → p8 p 2 ≤ 63 →
    x = s.cctx (p8 p 1) → x.inUse = true → x.owner = h.ctx → (x.mode = 4 ∨ x.op = 1) → (s.cctx (p8 p 2)).inUse = false →
    ∃ t, exec (.cphCtxSaveCopy h p) s = .next t ∧ s.Replies .cphCtxSave h .ok [] t ∧
      (s.putCctx (p8 p 2) { x with cgen := (s.cctx (p8 p 2)).cgen }).Becomes t) ∧
  (∀ (s : State) (h : Hdr) (p : Octets) (x : CphCtx) (k hd : Octets), s.Ready .cphCtxSave h p .none → p8 p 0 = 1 → p8 p 1 ≤ 63 →
    x = s.cctx (p8 p 1) → x.inUse = true → x.owner = h.ctx → x.cgen < 0xFFFF → s.latch 0 = .key k →
    hd = wrapHeader (p8 p 1) (x.cgen + 1) s.ctxEpoch →
    ∃ t, exec (.cphCtxSaveExport h p) s = .next t ∧ s.Replies .cphCtxSave h .ok (hd ++ kwWrap k (hd ++ x.wrapState)) t ∧
      (s.putCctx (p8 p 1) { x with inUse := false, chain := [], part := [], count := 0, cgen := x.cgen + 1 }).Becomes t) ∧
  (∀ (s : State) (h : Hdr) (p : Octets) (x y : CphCtx) (k : Octets) (st : Octets), s.Ready .cphCtxRestore h p .none → p8 p 1 = 1 → p8 p 0 ≤ 63 →
    p8 p 7 = 0 → p24 p 4 = s.ctxEpoch → x = s.cctx (p8 p 0) → p16 p 2 = x.cgen → x.inUse = false → s.latch 0 = .key k →
    kwUnwrap k (p.drop 8) = some (p.take 8 ++ st) → y = CphCtx.unwrapState st h.ctx ((x.cgen + 1) % 65536) →
    (s.slot y.slot).st = .written → (s.slot y.slot).gen = y.gen →
    ∃ t, exec (.cphCtxRestore h p) s = .next t ∧ (s.putCctx (p8 p 0) y).Becomes t ∧
      s.Replies .cphCtxRestore h .ok (o8 (p8 p 0) ++ o16 y.cgen) t) ∧
  (∀ (s : State) (h : Hdr) (p : Octets), s.Ready .cphRandom h p .none → 1 ≤ p16 p 0 → p16 p 0 ≤ 1000 → p8 p 2 = 0 → s.drbgBlocked = none →
    ∃ t, exec (.cphRandom h p) s = .next t ∧ (s.useRandomN (p16 p 0)).Becomes t ∧ t.free = s.free + (p16 p 0 + 7) / 8 ∧
      s.Replies .cphRandom h .ok (s.randomOctets (p16 p 0)) t) ∧
  (∀ (s : State) (x : Word), s.Calm → s.cph.quarantine = some x → 32768 ≤ s.age x →
    exec .quarantineEnd s = .next { s with cph := { s.cph with quarantine := none, faults := [] } }) ∧
  (∀ (s : State) (x : Word), s.Calm → s.cph.quarantine = some x → s.age x < 32768 → exec .quarantineEnd s = .next s) ∧
  (∀ (s : State), s.Calm → s.cph.drbg = .ready → (32768 ≤ s.cph.requests ∨ 19660800 ≤ s.age s.cph.reseedAt) →
    exec .drbgReseedDue s = .next { s with cph := { s.cph with drbg := .reseeding } }) ∧
  (∀ (s : State) (b : Bool), s.Calm → s.cph.drbg = .reseeding →
    exec (.drbgReseedDone true b) s = .next { s with cph := { s.cph with
      requests := 0, reseedAt := s.aon.tick, restarts := 0, drbg := .ready } }) ∧
  (∀ (s : State) (b : Bool), s.Calm → s.cph.drbg = .reseeding → s.cph.restarts = 2 →
    ∃ t, exec (.drbgReseedDone false b) s = .next t ∧ t.cph.drbg = .error ∧ t.cph.entropyOk = false ∧ bit t.cph.flags 2 = true ∧
      t = { s with cph := t.cph })

/-- The local clock, its configuration, captures and the calendar (R353 to R355, R360, R361, R368, R370 to R373, R376). A configuration register
takes a legal value; a read gives both clocks; NTC_ADJUST sets the rate and the slew within their limits; NTC_STEP moves the clock and counts the
step; captures are read and removed; an attestation whose MAC, nonce and order hold sets the calendar and uses the nonce up, and one that goes
backward is refused; a completed slew, an expired nonce and an edge on a capture input have their effect.
Nonces are free values (log entry 2). -/
def Obligations.ClocksAreKept : Prop :=
  (∀ (s : State) (h : Hdr) (p : Octets), s.Ready .ntcConfig h p .none → p8 p 0 ≤ 5 → ntcBad (p8 p 0) (pW p 1) = false →
    ∃ t, exec (.ntcConfig h p) s = .next t ∧ (s.modNtc (fun n => n.setCfg (p8 p 0) (pW p 1))).Becomes t) ∧
  (∀ (s : State) (h : Hdr) (p : Octets), s.Ready .ntcRead h p .none →
    ∃ t, exec (.ntcRead h p) s = .next t ∧ s.Becomes t ∧
      s.Replies .ntcRead h .ok (leOf 6 (s.ntc.ns / 1000000000 % 2 ^ 48) ++ o32 (s.ntc.ns % 1000000000) ++
        o8 (s.ntc.clock.code + 4 * b2n s.ntc.coarse) ++ wordOctets s.aon.calendar ++ wordOctets s.aon.tick) t) ∧
  (∀ (s : State) (h : Hdr) (p : Octets), s.Ready .ntcAdjust h p .none → p8 p 0 ≤ 3 →
    (pBit p 0 0 = true → -500000 ≤ pS p 1 4 ∧ pS p 1 4 ≤ 500000 ∧ bit s.ntc.servoCfg 0 = false) → (pBit p 0 1 = true → (pS p 5 8).natAbs ≤ 2 ^ 39) →
    ∃ t, exec (.ntcAdjust h p) s = .next t ∧ s.Replies .ntcAdjust h .ok [] t ∧ (s.modNtc (fun n => { n with
      freq := if pBit p 0 0 then pS p 1 4 else n.freq, slew := if pBit p 0 1 then pS p 5 8 * nsUnit else n.slew })).Becomes t) ∧
  (∀ (s : State) (h : Hdr) (p : Octets), s.Ready .ntcAdjust h p .none → p8 p 0 ≤ 3 → pBit p 0 0 = true → (500000 : Int) < pS p 1 4 →
    ∃ t, exec (.ntcAdjust h p) s = .next t ∧ s.Becomes t ∧ s.Replies .ntcAdjust h .badParam [] t) ∧
  (∀ (s : State) (h : Hdr) (p : Octets), s.Ready .ntcStep h p .none → p8 p 0 = 0 → p32 p 7 < 1000000000 →
    (∀ n, (s.trig n).armed = true → (s.trig n).period ≠ 0) →
    ∃ t, exec (.ntcStep h p .none) s = .next t ∧ t.ntc.ns = p48 p 1 * 1000000000 + p32 p 7 ∧ t.ntc.frac = 0 ∧ t.ntc.slew = 0 ∧
      t.ntc.coarse = false ∧ t.ntc.stepCount = (s.ntc.stepCount + 1) % 16 ∧ t.aon = s.aon ∧
      (∀ n, (t.trig n).nextNs = (s.trig n).nextNs + (if (s.trig n).armed then ((t.ntc.ns : Int) - s.ntc.ns) else 0))) ∧
  (∀ (s : State) (h : Hdr) (p : Octets), s.Ready .ntcStep h p .none → p8 p 0 = 1 → (pS p 11 8).natAbs ≤ 2 ^ 39 → 0 ≤ (s.ntc.ns : Int) + pS p 11 8 →
    (∀ n, (s.trig n).armed = false) →
    ∃ t, exec (.ntcStep h p .none) s = .next t ∧ (t.ntc.ns : Int) = s.ntc.ns + pS p 11 8 ∧ t.ntc.frac = 0 ∧ t.ntc.slew = 0 ∧
      t.ntc.stepCount = (s.ntc.stepCount + 1) % 16 ∧ t.aon = s.aon ∧ t.ntc.trig = s.ntc.trig) ∧
  (∀ (s : State) (h : Hdr) (p : Octets), s.Ready .ntcCaptureRead h p .none → p8 p 0 = 3 →
    ∃ t, exec (.ntcCaptureRead h p) s = .next t ∧ (s.modNtc (fun n => (n.captureTake 0).captureTake 1)).Becomes t ∧
      s.Replies .ntcCaptureRead h .ok (s.ntc.captureOctets 0 ++ s.ntc.captureOctets 1) t) ∧
  (∀ (s : State) (h : Hdr) (p k : Octets), s.Ready .ntcCalendarAttest h p .none → s.cph.drbg ≠ .error → s.cph.katModes.getLsbD 0 = false →
    s.latch 14 = .key k → (cmac64 k (p.take 24)).toNat = p64 p 24 → pW p 5 = s.crd.self → p24 p 10 = s.crd.domain → p24 p 13 = 0 →
    s.nonceLife.isSome = true → p64 p 16 = s.aon.nonce.toNat → s.aon.calendar ≤ pW p 0 →
    ∃ t, exec (.ntcCalendarAttest h p) s = .next t ∧ s.Replies .ntcCalendarAttest h .ok (wordOctets s.aon.calendar ++ wordOctets (pW p 0)) t ∧
      State.Becomes { s with aon := { s.aon with calendar := pW p 0, uncertain := false, lastAttest := pW p 0, nonceAt := none } } t) ∧
  (∀ (s : State) (h : Hdr) (p k : Octets), s.Ready .ntcCalendarAttest h p .none → s.cph.drbg ≠ .error → s.cph.katModes.getLsbD 0 = false →
    s.latch 14 = .key k → (cmac64 k (p.take 24)).toNat = p64 p 24 → pW p 5 = s.crd.self → p24 p 10 = s.crd.domain → p24 p 13 = 0 →
    s.nonceLife.isSome = true → p64 p 16 = s.aon.nonce.toNat → pW p 0 < s.aon.calendar →
    ∃ t, exec (.ntcCalendarAttest h p) s = .next t ∧ s.Replies .ntcCalendarAttest h .timeBackwardRefused (wordOctets s.aon.calendar) t ∧
      (s.modNtc (fun n => { n with flags := n.flags ||| 16 })).Becomes t) ∧
  (∀ (s : State) (h : Hdr) (p : Octets) (l : Nat), s.Ready .ntcCalendarRead h p .none → s.cph.drbg ≠ .error → s.nonceLife = some l →
    ∃ t, exec (.ntcCalendarRead h p) s = .next t ∧ s.Becomes t ∧
      s.Replies .ntcCalendarRead h .ok (wordOctets s.aon.calendar ++ o8 (b2n s.aon.uncertain + 2) ++ wordOctets s.aon.lastAttest ++
        leOf 8 s.aon.nonce.toNat ++ o16 l) t) ∧
  (∀ (s : State) (h : Hdr) (p : Octets), s.Ready .ntcCalendarRead h p .none → s.nonceLife = none → s.drbgBlocked = none →
    ∃ t, exec (.ntcCalendarRead h p) s = .next t ∧
      State.Becomes { s.useRandom with aon := { s.aon with nonce := Config.drbg s.free, nonceAt := some s.aon.tick } } t ∧
      s.Replies .ntcCalendarRead h .ok (wordOctets s.aon.calendar ++ o8 (b2n s.aon.uncertain + 2) ++ wordOctets s.aon.lastAttest ++
        leOf 8 (Config.drbg s.free).toNat ++ o16 300) t) ∧
  (∀ (s : State) (x : Word), s.Calm → s.aon.nonceAt = some x → 9830400 ≤ s.age x →
    exec .attestNonceExpiry s = .next { s with aon := { s.aon with nonceAt := none } }) ∧
  (∀ (s : State), s.Calm → s.ntc.slew ≠ 0 → s.ntc.slew.natAbs ≤ s.ntc.slewStep.natAbs →
    exec .slewComplete s = .next (s.modNtc (fun n => { n.advance n.slew with slew := 0 }))) ∧
  (∀ (s : State) (i : Fin 2) (b : Bool), s.Calm → s.pwr.state = .run →
    (fld s.ntc.capCfg (2 * i.val) 2 = 3 ∨ fld s.ntc.capCfg (2 * i.val) 2 = (if b then 1 else 2)) →
    exec (.captureEdge i b) s = .next (s.modNtc (fun n =>
      if (n.cap[i]).length < 4 then { n with cap := n.cap.set i (n.cap[i] ++ [{ ns := n.ns, rising := b, coarse := false, step := n.stepCount }]) }
      else { n with capOver := n.capOver.set i true, flags := n.flags ||| 8 })))

/-- Trigger slots (R365 to R367). Arming a slot whose time lies ahead takes its parameters; a slot whose TRIG pin another armed slot names is
BUSY; slot 15 is not a host's; disarming and reading change nothing else; a slot that is due acts on its target and, if it is a one-shot,
disarms; a pulse ends at its other level.
An event that is not due changes nothing: the model's choice (log entry 5). -/
def Obligations.TriggerSlotsFire : Prop :=
  (∀ (s : State) (h : Hdr) (p : Octets) (n : Fin 16), s.Ready .ntcTriggerConfig h p .none → p8 p 0 = n.val → n ≠ 15 → p8 p 1 = 1 →
    badTrigger p = false → s.pinTaken n (p8 p 2) = false → (s.ntc.ns : Int) ≤ (p48 p 4 * 1000000000 + p32 p 10 : Nat) →
    ∃ t, exec (.ntcTriggerArm h p .none) s = .next t ∧ s.Replies .ntcTriggerConfig h .ok [] t ∧ (s.modTrig n (fun x => { x with
      armed := true, target := p8 p 2, pol := p8 p 3, sec := p48 p 4, ns := p32 p 10, period := pN p 14 5, pulse := p16 p 19
      nextNs := ((p48 p 4 * 1000000000 + p32 p 10 : Nat) : Int) })).Becomes t) ∧
  (∀ (s : State) (h : Hdr) (p : Octets) (n : Fin 16), s.Ready .ntcTriggerConfig h p .none → p8 p 0 = n.val → n ≠ 15 → p8 p 1 = 1 →
    badTrigger p = false → s.pinTaken n (p8 p 2) = true →
    ∃ t, exec (.ntcTriggerArm h p .none) s = .next t ∧ s.Becomes t ∧ s.Replies .ntcTriggerConfig h .busy [] t) ∧
  (∀ (s : State) (h : Hdr) (p : Octets), s.Ready .ntcTriggerConfig h p .none → p8 p 0 = 15 → p8 p 1 ≤ 2 →
    ∃ t, exec (.ntcTriggerArm h p .none) s = .next t ∧ s.Becomes t ∧ s.Replies .ntcTriggerConfig h .notPermitted [] t) ∧
  (∀ (s : State) (h : Hdr) (p : Octets) (n : Fin 16), s.Ready .ntcTriggerConfig h p .none → p8 p 0 = n.val → n ≠ 15 → p8 p 1 = 0 →
    ∃ t, exec (.ntcTriggerDisarm h p) s = .next t ∧ s.Replies .ntcTriggerConfig h .ok [] t ∧
      (s.modTrig n (fun x => { x with armed := false })).Becomes t) ∧
  (∀ (s : State) (h : Hdr) (p : Octets) (n : Fin 16), s.Ready .ntcTriggerConfig h p .none → p8 p 0 = n.val → n ≠ 15 → p8 p 1 = 2 →
    ∃ t, exec (.ntcTriggerRead h p) s = .next t ∧ s.Becomes t ∧
      s.Replies .ntcTriggerConfig h .ok ((s.trig n).octets n.val ++ wordOctets (s.trig n).word) t) ∧
  (∀ (s : State) (n : Fin 16) (k : Fin 4) (l : List CoilMeas), s.Calm → n ≠ 15 → s.trigDue n = true → (s.trig n).target = k.val + 1 →
    exec (.triggerFire n l) s = .next (s.modNtc (fun x => { x with
      trig := x.trig.set n { s.trig n with
        armed := decide ((s.trig n).period ≠ 0), nextNs := (s.trig n).nextNs + (s.trig n).period, fires := satSucc (s.trig n).fires 0xFFFF
        late := false }
      pins := x.pins.set k (if (s.trig n).pulse = 0 then { level := !x.pins[k].level, pulse := x.pins[k].pulse }
        else { level := decide ((s.trig n).pol = 1), pulse := some (decide ((s.trig n).pol ≠ 1)) }) }))) ∧
  (∀ (s : State) (n : Fin 16) (l : List CoilMeas), s.Calm → s.trigDue n = false → exec (.triggerFire n l) s = .next s) ∧
  (∀ (s : State) (k : Fin 4) (v : Bool), s.Calm → s.ntc.pins[k].pulse = some v →
    exec (.trigPulseEnd k) s = .next (s.modNtc (fun x => { x with pins := x.pins.set k { level := v, pulse := none } })))

/-- The network port and IEEE 1588 (R348 to R352, R356 to R359, R547). Link follows the line; a transmit opportunity puts the waiting frame of
highest priority on the wire, and its end frees the wire, and makes a sheaf's level and cap the last ones of its receiver; a follower takes its first master from Announce, holds a two-step Sync for its Follow_Up,
computes its offset with a complete pair, and completes a pair with Delay_Resp; a master sends Sync and Announce at their intervals and answers
Delay_Req; three intervals without Announce give the master up; a frame with a bad FCS or of another EtherType is counted and dropped, and an
authentic speed report becomes the motion fact. -/
def Obligations.NetworkAndPtpRun : Prop :=
  (∀ (s : State), s.Calm → exec (.linkChange false) s = .next (s.modNtc (fun n => { n with link := false }))) ∧
  (∀ (s : State), s.Calm → s.crd.battery = none → s.crd.batDefer = false →
    exec (.linkChange true) s = .next (s.modNtc (fun n => { n with link := true }))) ∧
  (∀ (s : State) (f : TxFrame), s.Calm → s.ntc.onWire = none → s.ntc.link = true → s.phyOn s.anyArmed = true → s.pwr.start = none →
    bestFrame s.ntc.queue = some f → (∀ k, f.kind ≠ .event k) →
    exec .transmitOpportunity s = .next (s.modNtc (fun n => { n with onWire := some f, queue := n.queue.erase f }))) ∧
  (∀ (s : State) (f : TxFrame) (x : Int), s.Calm → s.ntc.onWire = some f → s.ntc.restart = false → (f.kind = .ptp ∨ f.kind = .battery ∨ ∃ k, f.kind = .event k) →
    exec (.frameTransmitted x) s = .next (s.modNtc (fun n => { n with onWire := none }))) ∧
  (∀ (s : State) (f : TxFrame) (x : Int) (n : Fin 4) (p : Period) (r : Release), s.Calm → s.ntc.onWire = some f → f.kind = .sheaf n →
    s.hrv.period = some p → p.plan[n] = some r → (s.sq 2).stall ≠ .none →
    ∃ t, exec (.frameTransmitted x) s = .next t ∧ t.ntc.onWire = none ∧ (t.rx n).level = r.level ∧ (t.rx n).cap = r.cap ∧
      (t.rx n).lastCap = (if r.level = 0 || r.cap = 0xFFFF then none else some r.cap) ∧ (t.rx n).t0 = r.t0 ∧ (t.rx n).c0 = r.c0 ∧
      (t.rx n).first = false ∧ (t.rx n).missed = 0) ∧
  (∀ (s : State) (f : TxFrame) (x : Int), s.Calm → s.ntc.onWire = some f → s.ntc.restart = false → f.kind = .sync →
    exec (.frameTransmitted x) s = .next (s.modNtc (fun n => { n with
      onWire := none, queue := n.queue ++ [ptpFrame .ptp (n.followUp n.ptp.syncSeq x)], ptp := { n.ptp with syncSeq := n.ptp.syncSeq + 1 } }))) ∧
  (∀ (s : State) (f : TxFrame) (x : Int), s.Calm → s.ntc.onWire = some f → s.ntc.restart = false → f.kind = .delayReq →
    exec (.frameTransmitted x) s = .next (s.modNtc (fun n => { n with
      onWire := none, ptp := { n.ptp with delayReq := some (n.ptp.delaySeq, x), delaySeq := n.ptp.delaySeq + 1 } }))) ∧
  (∀ (s : State) (m : PtpMsg), s.Calm → s.hears .net = true → s.ntc.hears m = true → s.ntc.role = 1 → s.ntc.ptp.master = none →
    exec (.announce m) s = .next (s.modNtc (fun n => { n with ptp := { n.ptp with
      master := some m.src, announced := s.aon.tick, newMaster := true } }))) ∧
  (∀ (s : State) (m : PtpMsg), s.Calm → s.hears .net = true → (s.ntc.hears m = false ∨ s.ntc.role ≠ 1) →
    exec (.announce m) s = .next (s.modNtc (fun n => { n with counts1 := bump n.counts1 16 })) ∧
    (∀ x, exec (.sync m x) s = .next (s.modNtc (fun n => { n with counts1 := bump n.counts1 16 })))) ∧
  (∀ (s : State) (m : PtpMsg) (x : Int), s.Calm → s.hears .net = true → s.ntc.hears m = true → s.ntc.role = 1 → s.ntc.ptp.master = some m.src → m.twoStep = true →
    exec (.sync m x) s = .next (s.modNtc (fun n => { n with ptp := { n.ptp with sync := some { seqId := m.seqId, t2 := x, corr := m.corr } } }))) ∧
  (∀ (s : State) (m : PtpMsg) (y : SyncWait) (u : Word), s.Calm → s.hears .net = true → s.ntc.ptp.sync = some y → s.ntc.hears m = true → s.ntc.role = 1 →
    s.ntc.ptp.master = some m.src → y.seqId = m.seqId → s.ntc.ptp.pair = none → s.ntc.ptp.delayAt = some u →
    s.age u < ticksPow (signed 4 (fld s.ntc.ptpCfg 17 4)) →
    exec (.followUp m) s = .next (s.modNtc (fun n => { n with ptp := { n.ptp with sync := none }, counts1 := bump n.counts1 0 }))) ∧
  (∀ (s : State) (m : PtpMsg) (y : SyncWait) (u : Word) (q : Int × Int), s.Calm → s.hears .net = true → s.ntc.ptp.sync = some y → s.ntc.hears m = true →
    s.ntc.role = 1 → s.ntc.ptp.master = some m.src → y.seqId = m.seqId → s.ntc.ptp.pair = some q → s.ntc.ptp.newMaster = false →
    s.ntc.ptp.delayAt = some u → s.age u < ticksPow (signed 4 (fld s.ntc.ptpCfg 17 4)) →
    (s.ntc.offsetOf y m q).natAbs ≤ s.ntc.threshold → bit s.ntc.servoCfg 0 = false →
    ∃ t, exec (.followUp m) s = .next t ∧ t.ntc.offset = s.ntc.offsetOf y m q ∧ t.ntc.ptp.sync = none ∧ t.ntc.freq = s.ntc.freq ∧
      t.ntc.clock = (if t.ntc.ptp.goodRun = 4 then .locked else .free) ∧ t.ntc.ptp.goodRun =
        (if (s.ntc.offsetOf y m q).natAbs ≤ fld s.ntc.servoCfg 17 12 then min (s.ntc.ptp.goodRun + 1) 4 else 0) ∧ t = { s with ntc := t.ntc }) ∧
  (∀ (s : State) (m : PtpMsg) (x : Int), s.Calm → s.hears .net = true → s.ntc.hears m = true → s.ntc.role = 2 →
    exec (.delayReq m x) s = .next (s.modNtc (fun n => { n with queue := n.queue ++ [ptpFrame .ptp (n.delayResp m x)] }))) ∧
  (∀ (s : State) (m : PtpMsg) (x : Int), s.Calm → s.hears .net = true → s.ntc.ptp.delayReq = some (m.seqId, x) → s.ntc.hears m = true → s.ntc.role = 1 →
    s.ntc.ptp.master = some m.src → m.req = ownPort →
    exec (.delayResp m) s = .next (s.modNtc (fun n => { n with ptp := { n.ptp with pair := some (m.time - x, m.corr), delayReq := none } }))) ∧
  (∀ (s : State), s.Calm → s.ntc.link = true → s.ntc.role = 2 →
    exec .syncInterval s = .next (s.modNtc (fun n => { n with queue := n.queue ++ [ptpFrame .sync n.syncMsg] })) ∧
    exec .announceInterval s = .next (s.modNtc (fun n => { n with
      queue := n.queue ++ [ptpFrame .ptp n.announce], ptp := { n.ptp with annSeq := n.ptp.annSeq + 1 } }))) ∧
  (∀ (s : State), s.Calm → s.ntc.ptp.master.isSome = true → 3 * ticksPow (signed 4 (fld s.ntc.ptpCfg 13 4)) ≤ s.age s.ntc.ptp.announced →
    exec .announceTimeout s = .next (s.modNtc (fun n => { n with
      ptp := { n.ptp with master := none, newMaster := false, sync := none, delayReq := none, delayAt := none, pair := none, goodRun := 0, bigRun := 0 }
      clock := .free, flags := n.flags ||| 2 }))) ∧
  (∀ (s : State) (f : Frame), s.Calm → s.hears .net = true → heard f.dst = true → s.ntc.link = true → f.fcsOk = false →
    exec (.networkFrame f) s = .next (s.modNtc (fun n => { n with counts0 := bump n.counts0 0 }))) ∧
  (∀ (s : State) (f : Frame), s.Calm → s.hears .net = true → heard f.dst = true → s.ntc.link = true → f.fcsOk = true →
    (f.tagged = true ∨ 1518 < f.length ∨ f.queueFull = true ∨ (f.ether ≠ 0x88B5 ∧ f.ether ≠ 0x88F7)) →
    exec (.networkFrame f) s = .next (s.modNtc (fun n => { n with counts0 := bump n.counts0 16, flags := n.flags ||| 32 }))) ∧
  (∀ (s : State) (f : Frame) (n : Fin 4) (c : Nat), s.Calm → s.hears .net = true → (s.acceptFrame f).2 = true → f.ether = 0x88B5 →
    f.dst = Config.mac → p8 f.payload 0 = 0x13 → p16 f.payload 4 = 2 → s.reportOk f = some (n, c) →
    exec (.speedReport f) s = .next ((s.modRx n (fun r => { r with reported := some c })).modHrv (fun v => { v with
      speed := p16 f.payload 19, fact := if p16 f.payload 19 = 0xFFFF then none else some (p16 f.payload 19, s.aon.tick)
      counts1 := bump v.counts1 16 }))) ∧
  (∀ (s : State) (f : Frame), s.Calm → s.hears .net = true → (s.acceptFrame f).2 = true → f.ether = 0x88B5 →
    f.dst = Config.mac → p8 f.payload 0 = 0x13 → p16 f.payload 4 = 2 → s.reportOk f = none →
    exec (.speedReport f) s = .next (s.modHrv (fun v => { v with counts1 := bump v.counts1 0, flags := v.flags ||| 4 })))

/-- The timers (R378 to R388, R391). A stopped timer takes a legal configuration, with its compare and a count of 0; a compare ahead of the count is
taken, one behind it is refused with CMP_BEHIND or, on request, matches at once; reads give the counts of one point; START, STOP and CLEAR act on
the timers of the mask and on no other; a due increment that no other timer follows counts, sets its flag, and in its mode restarts or stops the
timer; an edge of a GPIO pin counts in the timers that name it.
An event that is not due changes nothing: the model's choice (log entry 5). -/
def Obligations.TimersCount : Prop :=
  (∀ (s : State) (h : Hdr) (p : Octets) (n : Fin 32), s.Ready .tmrConfig h p .none → p8 p 0 = n.val → p8 p 6 ≤ 1 →
    s.badTimer n (pW p 1) (if p8 p 6 = 1 then pW p 7 else BitVec.allOnes 40) = false → (s.tim n).run = false →
    ∃ t, exec (.tmrConfig h p) s = .next t ∧ s.Replies .tmrConfig h .ok [] t ∧ (s.setTim n { s.tim n with
      cfg := pW p 1, cmp := if p8 p 6 = 1 then pW p 7 else BitVec.allOnes 40, count := 0 }).Becomes t) ∧
  (∀ (s : State) (h : Hdr) (p : Octets) (n : Fin 32), s.Ready .tmrConfig h p .none → p8 p 0 = n.val → p8 p 6 ≤ 1 →
    s.badTimer n (pW p 1) (if p8 p 6 = 1 then pW p 7 else BitVec.allOnes 40) = false → (s.tim n).run = true →
    ∃ t, exec (.tmrConfig h p) s = .next t ∧ s.Becomes t ∧ s.Replies .tmrConfig h .wrongState [] t) ∧
  (∀ (s : State) (h : Hdr) (p : Octets) (n : Fin 32), s.Ready .tmrSetCompare h p .none → p8 p 0 = n.val → p8 p 1 ≤ 1 →
    ((s.tim n).mode = 1 → pW p 2 ≠ 0) →
    ((pW p 2 - (s.tim n).count).toNat ≤ 2 ^ 39 →
      ∃ t, exec (.tmrSetCompare h p) s = .next t ∧ (s.setTim n { s.tim n with cmp := pW p 2 }).Becomes t ∧
        s.Replies .tmrSetCompare h .ok (wordOctets (s.tim n).count ++ wordOctets (pW p 2 - (s.tim n).count)) t) ∧
    (2 ^ 39 < (pW p 2 - (s.tim n).count).toNat → p8 p 1 = 0 →
      ∃ t, exec (.tmrSetCompare h p) s = .next t ∧ s.Becomes t ∧
        s.Replies .tmrSetCompare h .cmpBehind (wordOctets (s.tim n).count ++ wordOctets (pW p 2 - (s.tim n).count)) t) ∧
    (2 ^ 39 < (pW p 2 - (s.tim n).count).toNat → p8 p 1 = 1 → (∀ m, (s.tim m).src ≠ 2 ∧ (s.tim m).link < 2) →
      ∃ t, exec (.tmrSetCompare h p) s = .next t ∧ (t.tim n).cmp = pW p 2 ∧ (t.tim n).late = true ∧ bit t.tmr.matched n.val = true ∧
        bit t.tmr.late n.val = true ∧ ∀ m, m ≠ n → t.tim m = s.tim m)) ∧
  (∀ (s : State) (h : Hdr) (p : Octets) (n : Fin 32), s.Ready .tmrRead h p .none → p8 p 0 = n.val →
    ∃ t, exec (.tmrRead h p) s = .next t ∧ s.Becomes t ∧ s.Replies .tmrRead h .ok
      (wordOctets (s.tim n).count ++ wordOctets (s.tim n).cmp ++ wordOctets (s.timerStatus n) ++ wordOctets (s.tim n).cfg) t) ∧
  (∀ (s : State) (h : Hdr) (p : Octets) (n m : Fin 32), s.Ready .tmrReadPair h p .none → p8 p 0 = n.val → p8 p 1 = m.val →
    ∃ t, exec (.tmrReadPair h p) s = .next t ∧ s.Becomes t ∧ s.Replies .tmrReadPair h .ok
      (wordOctets (s.tim n).count ++ wordOctets (s.tim m).count ++ wordOctets s.aon.tick) t) ∧
  (∀ (s : State) (h : Hdr) (p : Octets), s.Ready .tmrSnapshotAll h p .none →
    ∃ t, exec (.tmrSnapshotAll h p) s = .next t ∧ s.Becomes t ∧ s.Replies .tmrSnapshotAll h .ok
      ((s.tmr.timers.toList.map (fun x => wordOctets x.count)).flatten ++ wordOctets s.aon.tick) t) ∧
  (∀ (s : State) (h : Hdr) (p : Octets), s.Ready .tmrControl h p .none → p8 p 4 ≤ 2 →
    ∃ t, (p8 p 4 = 0 → exec (.tmrStart h p) s = .next t) ∧ (p8 p 4 = 1 → exec (.tmrStop h p) s = .next t) ∧
      (p8 p 4 = 2 → exec (.tmrClear h p) s = .next t) ∧ s.Replies .tmrControl h .ok [] t ∧
      State.Becomes { s with tmr := { s.tmr with timers := t.tmr.timers } } t ∧
      ∀ n, t.tim n = if (p32 p 0).testBit n.val then
          (if p8 p 4 = 0 then { s.tim n with run := true, phase := 0, count := if (s.tim n).mode = 2 then 0 else (s.tim n).count }
           else if p8 p 4 = 1 then { s.tim n with run := false } else { s.tim n with count := 0 })
        else s.tim n) ∧
  (∀ (s : State) (n : Fin 32), s.Calm → (s.tim n).run = true → s.gated n = false → (s.tim n).phase = (s.tim n).prescale →
    (s.tim n).count + 1 = (s.tim n).cmp → (s.tim n).cmp ≠ 0 → (∀ m, (s.tim m).src ≠ 2 ∧ (s.tim m).link < 2) →
    ∃ t, exec (.timerMatch n) s = .next t ∧ t.tmr.matched = raiseFlag s.tmr.matched n.val ∧ t.tmr.isOver = s.tmr.isOver ∧
      t.tim n = { s.tim n with
        count := if (s.tim n).mode = 1 then 0 else (s.tim n).cmp, run := decide ((s.tim n).mode ≠ 2), late := false, phase := 0 } ∧
      (∀ m, m ≠ n → t.tim m = s.tim m) ∧ t.aon = s.aon) ∧
  (∀ (s : State) (n : Fin 32), s.Calm → (s.tim n).run = true → s.gated n = false → (s.tim n).phase = (s.tim n).prescale →
    (s.tim n).count + 1 = 0 → (s.tim n).cmp ≠ 0 → (∀ m, (s.tim m).src ≠ 2 ∧ (s.tim m).link < 2) →
    ∃ t, exec (.timerOverflow n) s = .next t ∧ t.tmr.isOver = raiseFlag s.tmr.isOver n.val ∧ t.tmr.matched = s.tmr.matched ∧
      t.tim n = { s.tim n with count := 0, phase := 0 } ∧ (∀ m, m ≠ n → t.tim m = s.tim m) ∧ t.aon = s.aon) ∧
  (∀ (s : State) (n : Fin 32), s.Calm → (s.tim n).run = false → exec (.timerMatch n) s = .next s ∧ exec (.timerOverflow n) s = .next s) ∧
  (∀ (s : State) (k : Fin 16) (v : Bool), s.Calm →
    ∃ t, exec (.gpioEdge k v) s = .next t ∧ t.sys.gpioExt = (if v then s.sys.gpioExt ||| BitVec.ofNat 16 (2 ^ k.val)
      else s.sys.gpioExt &&& ~~~BitVec.ofNat 16 (2 ^ k.val)) ∧
      (∀ n, ((s.tim n).src ≠ 1 ∨ (s.tim n).srcSel ≠ k.val) → (s.tim n).src ≠ 2 → (s.tim n).link < 2 → t.tim n = s.tim n) ∧
      (∀ n, s.sys.vddio = true → bit s.sys.gpioDir k.val = false → s.sys.gpioExt.getLsbD k.val ≠ v → (s.tim n).src = 1 → (s.tim n).srcSel = k.val →
        (s.tim n).srcEvt = 3 → (s.tim n).run = true → s.gated n = false → (s.tim n).phase < (s.tim n).prescale → (s.tim n).link < 2 →
        t.tim n = { s.tim n with phase := (s.tim n).phase + 1 }))

/-- The always-on tick (R7, R8, R353, R370, R413). A tick counts in the always-on count, in the residency of the present state and in the running
timers that the tick drives; the calendar moves at the end of its fraction; and the local clock runs on, COARSE without the oscillator.
That the local clock moves with the tick is the model's choice (log entry 14). -/
def Obligations.TheAlwaysOnTickCounts : Prop :=
  ∀ (s : State), s.Calm → s.pwr.state = .run → s.pwr.start = none → s.pwr.res.size = 4 →
    ∃ t, exec .alwaysOnTick s = .next t ∧ t.aon.tick = s.aon.tick + 1 ∧ t.aon = { s.aon.calTick (signed 11 (fld s.ntc.calCfg 0 11)) with tick := t.aon.tick } ∧
      t.pwr.res[(0 : Nat)]? = (s.pwr.res[(0 : Nat)]?).map (· + 1) ∧ t.ntc.ns = (s.ntc.tick s.pwr.xoOk).ns ∧ t.ntc.frac = (s.ntc.tick s.pwr.xoOk).frac ∧
      t.ntc.slew = (s.ntc.tick s.pwr.xoOk).slew ∧ (s.pwr.xoOk = false → t.ntc.coarse = true) ∧
      (1 < s.aon.calPhase → t.aon.calendar = s.aon.calendar) ∧
      (∀ n, (s.tim n).src = 0 → (s.tim n).run = true → s.gated n = false → (s.tim n).phase < (s.tim n).prescale →
        (∀ m, (s.tim m).src ≠ 2 ∧ (s.tim m).link < 2) → t.tim n = { s.tim n with phase := (s.tim n).phase + 1 }) ∧
      (∀ n, (s.tim n).run = false → (∀ m, (s.tim m).src ≠ 2 ∧ (s.tim m).link < 2) → t.tim n = s.tim n)

/-- The memory commands (R417, R420, R426, R427, R494, R495). MEM_READ gives the words of its range where each reads good, and POISONED with the mask where
one is poison; MEM_WRITE stores whole words with their check fields, or octets merged into the words that hold them, and no other word; bank 0
is not permitted to either, nor a bank below 16 to a write. A word whose layout is the firmware's reads as a free value.
(Log entry 2.) -/
def Obligations.MemoryIsReadAndWritten : Prop :=
  (∀ (s : State) (h : Hdr) (p : Octets) (ws : List Word), s.Ready .memRead h p .none → 1 ≤ p8 p 3 → p8 p 3 ≤ 200 →
    s.memRefusal (p24 p 0) (p8 p 3) false = none → (∀ i < p8 p 3, firmwareWordAt (p24 p 0 + i) = false) →
    (∀ e ∈ s.mem.merge, e.addr < p24 p 0 ∨ p24 p 0 + p8 p 3 ≤ e.addr) → ws.length = p8 p 3 →
    (∀ i < p8 p 3, decode47 (s.mem.stored (p24 p 0 + i)) = .good (ws.getD i 0)) →
    ∃ t, exec (.memRead h p) s = .next t ∧ s.Becomes t ∧ s.Replies .memRead h .ok ((ws.map wordOctets).flatten) t) ∧
  (∀ (s : State) (h : Hdr) (p : Octets) (w : Word), s.Ready .memRead h p .none → p8 p 3 = 1 → s.memRefusal (p24 p 0) 1 false = none →
    (∀ e ∈ s.mem.merge, e.addr ≠ p24 p 0) → decode47 (s.mem.stored (p24 p 0)) = .good w → firmwareWordAt (p24 p 0) = true →
    ∃ t, exec (.memRead h p) s = .next t ∧ State.Becomes { s with free := s.free + 1 } t ∧
      s.Replies .memRead h .ok (wordOctets (Config.firmwareWord (p24 p 0) s.free)) t) ∧
  (∀ (s : State) (h : Hdr) (p : Octets), s.Ready .memRead h p .none → p8 p 3 = 1 → s.memRefusal (p24 p 0) 1 false = none →
    (∀ e ∈ s.mem.merge, e.addr ≠ p24 p 0) → decode47 (s.mem.stored (p24 p 0)) = .poison →
    ∃ t, exec (.memRead h p) s = .next t ∧ State.Becomes { s with mem := { s.mem with counts1 := bump s.mem.counts1 16 } } t ∧
      s.Replies .memRead h .poisoned (o8 1 ++ o8 1 ++ wordOctets 0) t) ∧
  (∀ (s : State) (h : Hdr) (p : Octets), s.Ready .memWrite h p .none → p8 p 0 = 0 → 1 ≤ p16 p 4 → p16 p 4 ≤ 200 →
    s.memRefusal (p24 p 1) (p16 p 4) true = none → s.mem.merge = [] → s.mem.wf = true →
    ∃ t, exec (.memWrite h p) s = .next t ∧ State.Becomes { s with mem := { s.mem with cells := t.mem.cells } } t ∧ s.Replies .memWrite h .ok [] t ∧
      (∀ i < p16 p 4, t.mem.stored (p24 p 1 + i) = encode47 ((wordsOf (p.drop 6) (p16 p 4)).getD i 0)) ∧
      ∀ d pa, (pa < p24 p 1 ∨ p24 p 1 + p16 p 4 ≤ pa) → pa / 16384 ≠ s.mem.ringBank → alGet d t.mem.cells pa = alGet d s.mem.cells pa) ∧
  (∀ (s : State) (h : Hdr) (p : Octets), s.Ready .memWrite h p .none → p8 p 0 = 1 → 1 ≤ p16 p 4 → p16 p 4 ≤ 1000 →
    (let first := p24 p 1 / 5
     let past := (p24 p 1 + p16 p 4 - 1) / 5 + 1
     s.memRefusal first (past - first) true = none → s.mem.merge = [] → s.mem.wf = true →
     (∀ a, first ≤ a → a < past → ∃ w, decode47 (s.mem.stored a) = .good w) →
     ∃ t, exec (.memWrite h p) s = .next t ∧ s.Replies .memWrite h .ok [] t ∧
       State.Becomes { s with mem := { s.mem with cells := t.mem.cells, counts2 := t.mem.counts2 } } t ∧
       (∀ a w, first ≤ a → a < past → decode47 (s.mem.stored a) = .good w →
         ∃ v, t.mem.stored a = encode47 v ∧ ∀ j < 5, (wordOctets v).getD j 0 =
           if p24 p 1 ≤ 5 * a + j ∧ 5 * a + j < p24 p 1 + p16 p 4 then (p.drop 6).getD (5 * a + j - p24 p 1) 0 else (wordOctets w).getD j 0) ∧
       ∀ d pa, (pa < first ∨ past ≤ pa) → pa / 16384 ≠ s.mem.ringBank → alGet d t.mem.cells pa = alGet d s.mem.cells pa)) ∧
  (∀ (s : State) (h : Hdr) (p : Octets), s.Ready .memRead h p .none → 1 ≤ p8 p 3 → p24 p 0 + p8 p 3 ≤ 16384 → p8 p 3 ≤ 200 →
    ∃ t, exec (.memRead h p) s = .next t ∧ s.Becomes t ∧ s.Replies .memRead h .notPermitted [] t) ∧
  (∀ (s : State) (h : Hdr) (p : Octets), s.Ready .memWrite h p .none → p8 p 0 = 0 → 1 ≤ p16 p 4 → p16 p 4 ≤ 200 →
    p24 p 1 / 16384 < 16 → (p24 p 1 + p16 p 4 - 1) / 16384 = p24 p 1 / 16384 →
    ∃ t, exec (.memWrite h p) s = .next t ∧ s.Becomes t ∧ s.Replies .memWrite h .notPermitted [] t)

/-- Scrubbing, the gleaner and the merge buffer (R426, R430, R431). A scrub of words that read good counts them and changes none; its time is a free
value. The gleaner passes a good word and goes on to the next, a pass ends at the last word, and a word with one wrong bit is written
back with its valid code and counted. The oldest entry of the merge buffer is merged into its word, a poisoned word staying poison.
An event that is not due changes nothing: the model's choice (log entry 5). (Log entry 2 names the free time.) -/
def Obligations.MemoryIsKeptGood : Prop :=
  (∀ (s : State) (h : Hdr) (p : Octets), s.Ready .memScrub h p .none → 1 ≤ p24 p 3 → p24 p 0 + p24 p 3 ≤ 393216 →
    (∀ a, p24 p 0 ≤ a → a < p24 p 0 + p24 p 3 → s.mem.retired.getLsbD (s.mem.phys a / 16384) = false ∧ ∃ w, decode47 (s.mem.stored a) = .good w) →
    ∃ t, exec (.memScrub h p) s = .next t ∧ State.Becomes { s with free := s.free + 1 } t ∧ s.Replies .memScrub h .ok
      (leOf 3 (p24 p 3) ++ leOf 3 0 ++ leOf 3 0 ++ leOf 3 0 ++ leOf 4 (Config.scrubTime s.free).toNat) t) ∧
  (∀ (s : State) (w : Word), s.Calm → s.sys.faultBoot = false → s.pwr.state ≠ .deep → s.pwr.state ≠ .off →
    s.mem.gleanNext < 393215 → s.mem.retired.getLsbD (s.mem.phys s.mem.gleanNext / 16384) = false → decode47 (s.mem.stored s.mem.gleanNext) = .good w →
    exec .gleanerStep s = .next { s with mem := { s.mem with gleaning := true, gleanNext := s.mem.gleanNext + 1 } }) ∧
  (∀ (s : State) (w : Word), s.Calm → s.sys.faultBoot = false → s.pwr.state ≠ .deep → s.pwr.state ≠ .off →
    s.mem.gleanNext = 393215 → s.mem.retired.getLsbD 23 = false → decode47 (s.mem.stored 393215) = .good w →
    exec .gleanerStep s = .next { s with mem := { s.mem with
      gleaning := true, gleanNext := 0, passes := if s.mem.passes < 2 ^ 21 - 1 then s.mem.passes + 1 else 2 ^ 21 - 1 } }) ∧
  (∀ (s : State) (w : Word), s.Calm → s.sys.faultBoot = false → s.pwr.state ≠ .deep → s.pwr.state ≠ .off → s.mem.wf = true →
    s.mem.gleanNext < 393215 → s.mem.retired.getLsbD (s.mem.phys s.mem.gleanNext / 16384) = false →
    decode47 (s.mem.stored s.mem.gleanNext) = .corrected w → (∀ e ∈ s.mem.tally, e.addr ≠ s.mem.gleanNext) →
    ∃ t, exec .gleanerStep s = .next t ∧ t.mem.stored s.mem.gleanNext = encode47 w ∧ t.mem.gleanNext = s.mem.gleanNext + 1 ∧
      t.mem.counts0 = bump s.mem.counts0 16 ∧ t.mem.flags = raiseFlag s.mem.flags 0 ∧ t.mem.logCount = satSucc s.mem.logCount 4096 ∧
      { addr := s.mem.gleanNext, count := 1, stamp := some s.aon.tick, hard := false } ∈ t.mem.tally ∧
      t = { s with mem := t.mem, nvm := t.nvm }) ∧
  (∀ (s : State), s.pwr.state = .deep ∨ s.pwr.state = .off → s.Calm → exec .gleanerStep s = .next s) ∧
  (∀ (s : State) (e : MergeEnt) (r : List MergeEnt), s.Calm → s.mem.merge = e :: r → e.whole = true →
    exec .mergeBufferEviction s = .next { s with mem := ({ s.mem with merge := r }).write e.addr (mergeInto 0 e.octs) }) ∧
  (∀ (s : State) (e : MergeEnt) (r : List MergeEnt) (w : Word), s.Calm → s.mem.merge = e :: r → e.whole = false → decode47 (s.mem.stored e.addr) = .good w →
    exec .mergeBufferEviction s = .next { s with mem :=
      ({ s.mem with merge := r, counts2 := bump s.mem.counts2 0 }).write e.addr (mergeInto w e.octs) }) ∧
  (∀ (s : State) (e : MergeEnt) (r : List MergeEnt), s.Calm → s.mem.merge = e :: r → e.whole = false → decode47 (s.mem.stored e.addr) = .poison →
    exec .mergeBufferEviction s = .next { s with mem := { s.mem with
      merge := r, counts1 := bump s.mem.counts1 16, counts2 := bump (bump s.mem.counts2 0) 16, flags := raiseFlag s.mem.flags 3 } }) ∧
  (∀ s : State, s.Calm → s.mem.merge = [] → exec .mergeBufferEviction s = .next s)

/-- The fault log, retirement and injection (R433, R434, R437 to R439). MEM_FAULT_LOG_READ gives the entries from its index, BLANK where none is. A bank
of 8 to 15 is replaced by the highest spare, each of its words reading as it did, and a bank of 16 to 23 that is no replacement is
retired; both are logged and reply once the map is sealed. MEM_ERROR_INJECT alters exactly the stored bits it names and is logged.
That the highest spare is taken is the model's choice (log entry 6). -/
def Obligations.BanksAreRetiredAndFaultsLogged : Prop :=
  (∀ (s : State) (h : Hdr) (p : Octets), s.Ready .memFaultLogRead h p .none → 1 ≤ p8 p 2 → p8 p 2 ≤ 100 → p16 p 0 ≤ 4095 → s.mem.logFrom (p16 p 0) ≠ 0 →
    ∃ t, exec (.memFaultLogRead h p) s = .next t ∧ s.Becomes t ∧ s.Replies .memFaultLogRead h .ok
      (o8 (min (p8 p 2) (s.mem.logFrom (p16 p 0))) ++ ((List.range (min (p8 p 2) (s.mem.logFrom (p16 p 0)))).map (fun j =>
        wordOctets ((s.nvm.work.get (832 * 128 + 2 * ((p16 p 0 + j) % 4096))).getD 0) ++
        wordOctets ((s.nvm.work.get (832 * 128 + 2 * ((p16 p 0 + j) % 4096) + 1)).getD 0))).flatten) t) ∧
  (∀ (s : State) (h : Hdr) (p : Octets), s.Ready .memFaultLogRead h p .none → 1 ≤ p8 p 2 → p8 p 2 ≤ 100 → p16 p 0 ≤ 4095 → s.mem.logFrom (p16 p 0) = 0 →
    ∃ t, exec (.memFaultLogRead h p) s = .next t ∧ s.Becomes t ∧ s.Replies .memFaultLogRead h .blank [] t) ∧
  (∀ (s : State) (h : Hdr) (p : Octets), s.Ready .memRetire h p .none → 16 ≤ p8 p 0 → p8 p 0 ≤ 23 → s.mem.retired.getLsbD (p8 p 0) = false →
    s.mem.isSpare (p8 p 0) = false → (s.mem.evTicks.filter (fun x => decide (s.age x < 32768))).length < 16 → s.jrn.next + 4098 ≤ s.jrn.blockEnd →
    ∃ t, exec (.memRetire h p) s = .next t ∧ (t.ctx h.ctx).cmds.length = 1 ∧
      State.Becomes { s with
        free := s.free + 1
        mem := { s.mem with
          retired := s.mem.retired ||| BitVec.ofNat 24 (2 ^ p8 p 0), storedRet := s.mem.retired ||| BitVec.ofNat 24 (2 ^ p8 p 0)
          storedMap := s.mem.map, cells := alCut (p8 p 0 * 16384) 16384 s.mem.cells, critDiff := alCut 126 3 s.mem.critDiff
          logNext := (s.mem.logNext + 1) % 4096, logCount := satSucc s.mem.logCount 4096
          evTicks := s.mem.evTicks.filter (fun x => decide (s.age x < 32768)) ++ [s.aon.tick], suppressed := 0 } } t) ∧
  (∀ (s : State) (h : Hdr) (p : Octets) (dest : Nat), s.Ready .memRetire h p .none → 8 ≤ p8 p 0 → p8 p 0 ≤ 15 → s.mem.Sound →
    (s.mem.map[p8 p 0]?).getD 0 = p8 p 0 → s.mem.retired.getLsbD (p8 p 0) = false → s.mem.spare? = some dest →
    (∀ o < 16384, ∃ w, decode47 (s.mem.stored (p8 p 0 * 16384 + o)) = .good w) →
    ∃ t, exec (.memRetire h p) s = .next t ∧ (t.ctx h.ctx).cmds.length = 1 ∧ t.mem.map = s.mem.map.setIfInBounds (p8 p 0) dest ∧
      t.mem.retired = s.mem.retired ||| BitVec.ofNat 24 (2 ^ p8 p 0) ∧ t.mem.storedMap = t.mem.map ∧ t.mem.storedRet = t.mem.retired ∧
      (∀ o w, o < 16384 → decode47 (s.mem.stored (p8 p 0 * 16384 + o)) = .good w → decode47 (t.mem.stored (p8 p 0 * 16384 + o)) = .good w) ∧
      (∀ a, a < 393216 → a / 16384 ≠ p8 p 0 → s.mem.phys a / 16384 ≠ s.mem.ringBank → a / 16384 ≠ dest →
        t.mem.stored a = s.mem.stored a)) ∧
  (∀ (s : State) (h : Hdr) (p : Octets), s.Ready .memRetire h p .none → p8 p 0 = 0 →
    ∃ t, exec (.memRetire h p) s = .next t ∧ s.Becomes t ∧ s.Replies .memRetire h .badParam [] t) ∧
  (∀ (s : State) (h : Hdr) (p : Octets), s.Ready .memErrorInject h p .none → p8 p 0 = 0 → p24 p 1 < 393216 → p24 p 1 / 16384 ≠ 0 → s.mem.Sound →
    s.mem.retired.getLsbD (s.mem.phys (p24 p 1) / 16384) = false → s.mem.phys (p24 p 1) / 16384 ≠ s.mem.ringBank → (∀ e ∈ s.mem.merge, e.addr ≠ p24 p 1) →
    p8 p 5 ≤ 2 → (p8 p 5 ≠ 2 → p8 p 6 ≤ 46) → (p8 p 5 = 1 → p8 p 7 ≤ 46 ∧ p8 p 6 ≠ p8 p 7) →
    (s.mem.evTicks.filter (fun x => decide (s.age x < 32768))).length < 16 → s.jrn.next + 4098 ≤ s.jrn.blockEnd →
    ∃ t, exec (.memErrorInject h p) s = .next t ∧ s.Replies .memErrorInject h .ok [] t ∧
      t.mem.stored (p24 p 1) = (if p8 p 5 = 0 then s.mem.stored (p24 p 1) ^^^ BitVec.ofNat 47 (2 ^ p8 p 6)
        else if p8 p 5 = 1 then s.mem.stored (p24 p 1) ^^^ BitVec.ofNat 47 (2 ^ p8 p 6) ^^^ BitVec.ofNat 47 (2 ^ p8 p 7) else poison47) ∧
      (∀ d pa, pa ≠ s.mem.phys (p24 p 1) → pa / 16384 ≠ s.mem.ringBank → alGet d t.mem.cells pa = alGet d s.mem.cells pa) ∧
      State.Becomes { s with mem := { s.mem with
        cells := t.mem.cells, logNext := (s.mem.logNext + 1) % 4096, logCount := satSucc s.mem.logCount 4096
        evTicks := s.mem.evTicks.filter (fun x => decide (s.age x < 32768)) ++ [s.aon.tick], suppressed := 0 } } t) ∧
  (∀ (s : State) (h : Hdr) (p : Octets), s.Ready .memErrorInject h p .none → p8 p 0 = 1 → critUsed (p24 p 1) = true → keysRise s.mem.critDiff = true → p8 p 4 ≤ 2 → p8 p 5 = 2 →
    (s.mem.evTicks.filter (fun x => decide (s.age x < 32768))).length < 16 → s.jrn.next + 4098 ≤ s.jrn.blockEnd →
    ∃ t, exec (.memErrorInject h p) s = .next t ∧ s.Replies .memErrorInject h .ok [] t ∧ t.critCopy (p24 p 1) (p8 p 4) = poison47 ∧
      State.Becomes { s with mem := { s.mem with
        critDiff := t.mem.critDiff, logNext := (s.mem.logNext + 1) % 4096, logCount := satSucc s.mem.logCount 4096
        evTicks := s.mem.evTicks.filter (fun x => decide (s.age x < 32768)) ++ [s.aon.tick], suppressed := 0 } } t)

/-- The store is read and written through its buffer (R443, R447, R450, R451, R495). NVM_READ gives the words of its range, BLANK where no page of it has
been written; NVM_WRITE puts its words where every later read sees them, and no other word, and replies at once where the buffer has room and
SYNC is clear, else it waits; NVM_COMMIT starts a commit of every dirty page, and answers 0 at once where there is none. -/
def Obligations.StoreIsReadAndWritten : Prop :=
  (∀ (s : State) (h : Hdr) (p : Octets) (ws : List Word), s.Ready .nvmRead h p .none → s.nvmRefusal (s.ctx h.ctx) (p24 p 0) (p8 p 3) false = none →
    (span (p24 p 0) (p8 p 3)).map s.nvm.work.get = ws.map some →
    ∃ t, exec (.nvmRead h p) s = .next t ∧ s.Becomes t ∧ s.Replies .nvmRead h
      (if (span (p24 p 0 / 128) ((p24 p 0 + p8 p 3 - 1) / 128 - p24 p 0 / 128 + 1)).any s.nvm.work.has then .ok else .blank)
      ((ws.map wordOctets).flatten) t) ∧
  (∀ (s : State) (h : Hdr) (p : Octets), s.Ready .nvmWrite h p .none → p8 p 3 ≤ 1 → s.nvmRefusal (s.ctx h.ctx) (p24 p 0) (p8 p 4) true = none →
    16 < s.nvm.poolFree → s.nvm.backlog = [] → s.nvm.work.wf = true →
    s.nvm.bufPages.length + (s.nvm.newPages ((wordsOf (p.drop 5) (p8 p 4)).mapIdx (fun i w => (p24 p 0 + i, some w)))).length ≤ 8 →
    ∃ t, exec (.nvmWrite h p) s = .next t ∧ s.Becomes t ∧
      (∀ i < p8 p 4, t.nvm.work.get (p24 p 0 + i) = some ((wordsOf (p.drop 5) (p8 p 4)).getD i 0)) ∧
      (∀ a, (a < p24 p 0 ∨ p24 p 0 + p8 p 4 ≤ a) → t.nvm.work.get a = s.nvm.work.get a) ∧
      (p8 p 3 = 0 → s.Replies .nvmWrite h .ok [] t) ∧ (p8 p 3 = 1 → (t.ctx h.ctx).cmds.length = 1 ∧ t.nvm.commit.isSome = true)) ∧
  (∀ (s : State) (h : Hdr) (p : Octets), s.Ready .nvmWrite h p .none → p8 p 3 ≤ 1 → s.nvmRefusal (s.ctx h.ctx) (p24 p 0) (p8 p 4) true = none →
    s.nvm.poolFree ≤ 16 → ∃ t, exec (.nvmWrite h p) s = .next t ∧ s.Becomes t ∧ s.Replies .nvmWrite h .nvmWorn [] t) ∧
  (∀ (s : State) (h : Hdr) (p : Octets), s.Ready .nvmWrite h p .none → p8 p 3 = 0 → s.nvmRefusal (s.ctx h.ctx) (p24 p 0) (p8 p 4) true = none →
    16 < s.nvm.poolFree → s.nvm.backlog = [] → s.nvm.bufPages.length = 8 → (∀ i < p8 p 4, (p24 p 0 + i) / 128 ∉ s.nvm.bufPages) →
    ∃ t, exec (.nvmWrite h p) s = .next t ∧ s.Becomes t ∧ (t.ctx h.ctx).cmds.length = 1 ∧ t.nvm.work = s.nvm.work ∧ t.nvm.commit.isSome = true) ∧
  (∀ (s : State) (h : Hdr) (p : Octets), s.Ready .nvmCommit h p .none → s.nvm.bufPages = [] →
    ∃ t, exec (.nvmCommit h p) s = .next t ∧ s.Becomes t ∧ s.Replies .nvmCommit h .ok [0] t) ∧
  (∀ (s : State) (h : Hdr) (p : Octets), s.Ready .nvmCommit h p .none → s.nvm.dirty ≠ [] → s.nvm.commit = none →
    ∃ t, exec (.nvmCommit h p) s = .next t ∧ s.Becomes t ∧ (t.ctx h.ctx).cmds.length = 1 ∧
      t.nvm.commit = some { pages := s.nvm.dirty, image := s.nvm.work, upTo := s.nvm.placedTo } ∧ t.nvm.dirty = []) ∧
  (∀ (s : State) (h : Hdr) (p : Octets), s.Ready .nvmStatus h p .none →
    ∃ t, exec (.nvmStatus h p) s = .next t ∧ s.Becomes t ∧ s.Replies .nvmStatus h .ok
      (([0, 1, 2, 3, 4, 5, 6, 8, 9, 10, 11].map (fun o => wordOctets ((nvmReg s o).getD 0))).flatten) t)

/-- Passwords (R461, R462). Outside a back-off PRESENT of the password that is set brings it into force for the context, and a wrong one is answered
AUTH_FAIL and counted; SET and REMOVE change the password and take it out of force for every context, and wait for the seal; WITHDRAW takes both
passwords of a region out of force for the context; RESET by a FLEET context erases the region and both its passwords. -/
def Obligations.PasswordsGuardRegions : Prop :=
  (∀ (s : State) (h : Hdr) (p : Octets) (i : Fin 16), s.Ready .nvmPassword h p .none → p8 p 0 = 0 → p8 p 1 ≤ 7 → p8 p 2 ≤ 1 →
    i.val = 2 * p8 p 1 + p8 p 2 → (s.ctx h.ctx).pwTries.active s.aon.tick = false → s.nvm.pw[i] = some (passwordTag (pRun p 3 8)) →
    ∃ t, exec (.nvmPasswordPresent h p) s = .next t ∧ s.Replies .nvmPassword h .ok [] t ∧
      (s.modCtx h.ctx (fun x => { x with pwForce := x.pwForce ||| BitVec.ofNat 16 (2 ^ i.val) })).Becomes t) ∧
  (∀ (s : State) (h : Hdr) (p : Octets) (i : Fin 16) (g : BitVec 64), s.Ready .nvmPassword h p .none → p8 p 0 = 0 → p8 p 1 ≤ 7 → p8 p 2 ≤ 1 →
    i.val = 2 * p8 p 1 + p8 p 2 → (s.ctx h.ctx).pwTries.active s.aon.tick = false → s.nvm.pw[i] = some g → g ≠ passwordTag (pRun p 3 8) →
    ((s.ctx h.ctx).pwTries.fail s.aon.tick).since ≠ some s.aon.tick →
    ∃ t, exec (.nvmPasswordPresent h p) s = .next t ∧ s.Replies .nvmPassword h .authFail [] t ∧
      (s.modCtx h.ctx (fun x => { x with pwTries := (s.ctx h.ctx).pwTries.fail s.aon.tick })).Becomes t) ∧
  (∀ (s : State) (h : Hdr) (p : Octets), s.Ready .nvmPassword h p .none → p8 p 0 ≤ 4 → p8 p 1 ≤ 7 → p8 p 2 ≤ 1 →
    (s.ctx h.ctx).pwTries.active s.aon.tick = true →
    ∃ t, exec (.nvmPasswordPresent h p) s = .next t ∧ s.Becomes t ∧ s.Replies .nvmPassword h .busy [] t) ∧
  (∀ (s : State) (h : Hdr) (p : Octets) (i : Fin 16), s.Ready .nvmPassword h p .none → p8 p 0 = 1 ∨ p8 p 0 = 2 → p8 p 1 ≤ 7 → p8 p 2 ≤ 1 →
    i.val = 2 * p8 p 1 + p8 p 2 → (s.ctx h.ctx).pwTries.active s.aon.tick = false →
    s.nvm.pw[i] = none ∨ s.nvm.pw[i] = some (passwordTag (pRun p 3 8)) →
    ∃ t, (p8 p 0 = 1 → exec (.nvmPasswordSet h p) s = .next t) ∧ (p8 p 0 = 2 → exec (.nvmPasswordRemove h p) s = .next t) ∧
      (t.ctx h.ctx).cmds.length = 1 ∧ State.Becomes { s with
        nvm := { s.nvm with pw := s.nvm.pw.set i (if p8 p 0 = 1 then some (passwordTag (pRun p 11 8)) else none) }
        hst := { s.hst with ctx := s.hst.ctx.map (fun c => { c with pwForce := c.pwForce &&& ~~~(BitVec.ofNat 16 (2 ^ i.val)) }) } } t) ∧
  (∀ (s : State) (h : Hdr) (p : Octets), s.Ready .nvmPassword h p .none → p8 p 0 = 3 → p8 p 1 ≤ 7 → p8 p 2 ≤ 1 →
    (s.ctx h.ctx).pwTries.active s.aon.tick = false →
    ∃ t, exec (.nvmPasswordWithdraw h p) s = .next t ∧ s.Replies .nvmPassword h .ok [] t ∧
      (s.modCtx h.ctx (fun x => { x with pwForce := x.pwForce &&& ~~~(BitVec.ofNat 16 (3 * 4 ^ p8 p 1)) })).Becomes t) ∧
  (∀ (s : State) (h : Hdr) (p : Octets), s.Ready .nvmPassword h p .none → p8 p 0 = 4 → p8 p 1 ≤ 7 → p8 p 2 ≤ 1 →
    (s.ctx h.ctx).pwTries.active s.aon.tick = false → (s.ctx h.ctx).role = .fleet → s.jrn.nvHead < 8192 →
    ∃ t, exec (.nvmPasswordReset h p) s = .next t ∧ (t.ctx h.ctx).cmds.length = 1 ∧
      (∀ a, regionOf (a / 128) = 8 + p8 p 1 → t.nvm.work.get a = some erased ∧ t.nvm.sealed.get a = some erased) ∧
      State.Becomes { s with
        nvm := { s.nvm with sealed := t.nvm.sealed, pw := (s.nvm.pw.setIfInBounds (2 * p8 p 1) none).setIfInBounds (2 * p8 p 1 + 1) none }
        hst := { s.hst with ctx := s.hst.ctx.map (fun c => { c with pwForce := c.pwForce &&& ~~~(BitVec.ofNat 16 (3 * 4 ^ p8 p 1)) }) } } t) ∧
  (∀ (s : State) (h : Hdr) (p : Octets), s.Ready .nvmPassword h p .none → p8 p 0 = 4 → p8 p 1 ≤ 7 → p8 p 2 ≤ 1 →
    (s.ctx h.ctx).pwTries.active s.aon.tick = false → (s.ctx h.ctx).role = .service →
    ∃ t, exec (.nvmPasswordReset h p) s = .next t ∧ s.Becomes t ∧ s.Replies .nvmPassword h .notPermitted [] t)

/-- Tally counters and the regulatory record (R456 to R460, R466, R467). NVM_TALLY_INCREMENT of a user counter starts an increment, and of another counter is
not permitted; NVM_TALLY_READ gives a counter's value; a programmed increment advances its counter by one, and by its carry. A record that
keeps every limit comes into force with the lock bit as it stood, one less strict than a locked one is refused, and LOCK sets the bit. -/
def Obligations.TalliesAndRegulatoryRecord : Prop :=
  (∀ (s : State) (h : Hdr) (p : Octets) (k : Fin 32), s.Ready .nvmTallyIncrement h p .none → p8 p 0 = k.val → 16 ≤ k.val → s.nvm.tallyFull k = false →
    ∃ t, exec (.nvmTallyIncrement h p) s = .next t ∧ (t.ctx h.ctx).cmds.length = 1 ∧ (s.startTally k .user).Becomes t) ∧
  (∀ (s : State) (h : Hdr) (p : Octets), s.Ready .nvmTallyIncrement h p .none → p8 p 0 < 16 →
    ∃ t, exec (.nvmTallyIncrement h p) s = .next t ∧ s.Becomes t ∧ s.Replies .nvmTallyIncrement h .notPermitted [] t) ∧
  (∀ (s : State) (h : Hdr) (p : Octets) (k : Fin 32), s.Ready .nvmTallyRead h p .none → p8 p 0 = k.val →
    ∃ t, exec (.nvmTallyRead h p) s = .next t ∧ s.Becomes t ∧
      s.Replies .nvmTallyRead h .ok (wordOctets (BitVec.ofNat 40 (s.nvm.tallies[k].base + s.nvm.tallies[k].bits))) t) ∧
  (∀ (s : State) (o : TallyOp), s.Calm → s.storeOn = true → s.nvm.tallyOps = [o] → o.use = .user →
    exec (.tallyIncrementDone 0) s = .next { s with nvm := { s.nvm with
      tallyOps := []
      tallies := s.nvm.tallies.set o.counter
        (if s.nvm.tallies[o.counter].bits < 512 then { s.nvm.tallies[o.counter] with bits := s.nvm.tallies[o.counter].bits + 1 }
         else { base := s.nvm.tallies[o.counter].base + 513, gen := (s.nvm.tallies[o.counter].gen + 1) % 65536, bits := 0, intent := none }) } }) ∧
  (∀ (s : State) (o : TallyOp), s.Calm → s.storeOn = true → s.nvm.tallyOps = [o] → o.use = .block → s.nvm.tallies[o.counter].bits < 512 →
    s.nvm.tallies[o.counter].value + 1 < 2 ^ 24 →
    exec (.tallyIncrementDone 0) s = .next { s with
      jrn := { s.jrn with reserving := false, nextBlock := some (s.nvm.tallies[o.counter].value * 65536 + 1) }
      nvm := { s.nvm with
        tallyOps := []
        tallies := s.nvm.tallies.set o.counter { s.nvm.tallies[o.counter] with bits := s.nvm.tallies[o.counter].bits + 1 } } }) ∧
  (∀ (s : State) (n : Fin 8) (c : Cmd) (o : TallyOp), s.OneWaits n c (.tally o.number) → s.storeOn = true → s.nvm.tallyOps = [o] → o.use = .user →
    ∃ t, exec (.tallyIncrementDone 0) s = .next t ∧
      s.Completes n c .ok (wordOctets (BitVec.ofNat 40 (s.nvm.tallies[o.counter].step 0).value)) t) ∧
  (∀ (s : State), s.Calm → s.nvm.tallyOps = [] → exec (.tallyIncrementDone 0) s = .next s) ∧
  (∀ (s : State) (h : Hdr) (p : Octets) (r : List Word), s.Ready .nvmRegulatoryLock h p .none → p8 p 0 = 0 →
    r = setFld ((wordsOf (p.drop 1) 11).getD 0 0) 16 1 (b2n s.nvm.regLocked) :: (wordsOf (p.drop 1) 11).drop 1 → regGood r = true →
    s.nvm.regLocked = false ∨ regStricter r s.nvm.reg = true →
    ∃ t, exec (.nvmRegulatoryWrite h p) s = .next t ∧ (t.ctx h.ctx).cmds.length = 1 ∧
      State.Becomes { s with nvm := { s.nvm with reg := r, regWritten := true } } t) ∧
  (∀ (s : State) (h : Hdr) (p : Octets) (r : List Word), s.Ready .nvmRegulatoryLock h p .none → p8 p 0 = 0 →
    r = setFld ((wordsOf (p.drop 1) 11).getD 0 0) 16 1 (b2n s.nvm.regLocked) :: (wordsOf (p.drop 1) 11).drop 1 → regGood r = true →
    s.nvm.regLocked = true → regStricter r s.nvm.reg = false →
    ∃ t, exec (.nvmRegulatoryWrite h p) s = .next t ∧ s.Becomes t ∧ s.Replies .nvmRegulatoryLock h .regulatoryLimit [] t) ∧
  (∀ (s : State) (h : Hdr) (p : Octets), s.Ready .nvmRegulatoryLock h p .none → p8 p 0 = 1 → s.nvm.regWritten = true →
    fld (s.nvm.reg.getD 0 0) 0 16 ≠ 0 →
    ∃ t, exec (.nvmRegulatoryLock h p) s = .next t ∧ (t.ctx h.ctx).cmds.length = 1 ∧
      State.Becomes { s with nvm := { s.nvm with reg := raiseFlag (s.nvm.reg.getD 0 0) 16 :: s.nvm.reg.drop 1, regWritten := true } } t) ∧
  (∀ (s : State) (h : Hdr) (p : Octets), s.Ready .nvmRegulatoryLock h p .none → p8 p 0 = 1 → s.nvm.regWritten = false →
    ∃ t, exec (.nvmRegulatoryLock h p) s = .next t ∧ s.Becomes t ∧ s.Replies .nvmRegulatoryLock h .wrongState [] t) ∧
  (∀ (s : State) (h : Hdr) (p : Octets) (k : Fin 32), s.Ready .nvmTallyIncrement h p .none → p8 p 0 = k.val → 16 ≤ k.val → s.nvm.tallyFull k = true →
    ∃ t, exec (.nvmTallyIncrement h p) s = .next t ∧ s.Becomes t ∧ s.Replies .nvmTallyIncrement h .nonceExhausted [] t)

/-- Commits, erases and the patrol (R444, R446, R451, R453, R463 to R465). A commit that places every page makes their image the sealed version of them
and of no other page, and key slots whose records it sealed take their values; a page that three attempts do not place stays dirty; an erased
page joins the pool, and one that fails is retired; COMMIT_MS after the oldest write a commit starts; the patrol passes a good page,
refreshes a weak one with its content unchanged, and leaves poison where a word is lost.
An event that is not due changes nothing: the model's choice (log entry 5). -/
def Obligations.PagesAreSealedAndPatrolled : Prop :=
  (∀ (s : State) (c : Commit), s.Calm → s.storeOn = true → s.nvm.commit = some c → s.nvm.again = false → s.nvm.backlog = [] → s.cph.pend = [] →
    c.pages.length ≤ s.nvm.pool.length → c.image.wf = true → s.nvm.sealed.wf = true →
    ∃ t, exec (.pageCommitDone []) s = .next t ∧ t.nvm.commit = none ∧ t.nvm.sealedTo = c.upTo ∧ t.nvm.seq = s.nvm.seq + c.pages.length ∧
      t.nvm.pool = s.nvm.pool.drop c.pages.length ∧ t.nvm.work = s.nvm.work ∧ t.nvm.dirty = s.nvm.dirty ∧
      (∀ a, t.nvm.sealed.get a = if a / 128 ∈ c.pages then c.image.get a else s.nvm.sealed.get a) ∧
      t.cph.slots = s.cph.slots ∧ t.aon = s.aon ∧ t.jrn = s.jrn ∧ t.mem = s.mem) ∧
  (∀ (s : State) (c : Commit) (q : KeyPend), s.Calm → s.storeOn = true → s.nvm.commit = some c → s.nvm.again = false → s.nvm.backlog = [] →
    s.cph.pend = [q] → q.ticket ≤ c.upTo → q.slot < 256 → c.pages.length ≤ s.nvm.pool.length →
    ∃ t, exec (.pageCommitDone []) s = .next t ∧ t.slot q.slot = q.val ∧ t.cph.pend = [] ∧ ∀ k, k ≠ q.slot → t.slot k = s.slot k) ∧
  (∀ (s : State) (c : Commit) (q : Nat), s.Calm → s.storeOn = true → s.nvm.commit = some c → c.pages = [q] → s.nvm.again = false → s.nvm.backlog = [] →
    ∃ t, exec (.pageCommitDone [3]) s = .next t ∧ t.nvm.sealed = s.nvm.sealed ∧ q ∈ t.nvm.bufPages ∧ t.nvm.sealedTo = s.nvm.sealedTo ∧
      bit t.nvm.flags 0 = true ∧ (∀ x ∈ s.nvm.pool.take 3, x ∈ t.nvm.retired) ∧ t.cph.slots = s.cph.slots) ∧
  (∀ (s : State), s.Calm → s.nvm.commit = none → exec (.pageCommitDone []) s = .next s) ∧
  (∀ (s : State) (x : Word), s.Calm → s.nvm.oldest = some x → s.storeOn = true → s.nvm.commit = none → s.nvm.dirty ≠ [] →
    ticksMs (fld s.nvm.cfg 0 11) ≤ s.age x →
    exec .commitMsTimeout s = .next { s with nvm := { s.nvm with
      commit := some { pages := s.nvm.dirty, image := s.nvm.work, upTo := s.nvm.placedTo }, dirty := [], oldest := none, again := false } }) ∧
  (∀ (s : State) (x : Word), s.Calm → s.nvm.oldest = some x → s.age x < ticksMs (fld s.nvm.cfg 0 11) → exec .commitMsTimeout s = .next s) ∧
  (∀ (s : State) (ph : Nat) (r : List Nat), s.Calm → s.storeOn = true → s.nvm.erasing = ph :: r →
    exec (.pageEraseDone true) s = .next { s with nvm := { s.nvm with erasing := r, pool := s.nvm.pool ++ [ph] } }) ∧
  (∀ (s : State) (ph : Nat) (r : List Nat), s.Calm → s.storeOn = true → s.nvm.erasing = ph :: r →
    ∃ t, exec (.pageEraseDone false) s = .next t ∧ t.nvm.erasing = r ∧ t.nvm.pool = s.nvm.pool ∧ t.nvm.retired = addNat ph s.nvm.retired ∧
      bit t.nvm.flags 2 = true) ∧
  (∀ (s : State) (p : Nat), s.Calm → s.storeOn = true → s.nvm.patrolDue ≤ s.aon.calendar.toNat → s.nvm.patrolNext < 2047 →
    s.nvm.retired.contains s.nvm.patrolNext = false → s.nvm.logicalOf s.nvm.patrolNext = some p → p ∉ s.nvm.bufPages →
    ∃ t, exec (.patrolPageDue .good) s = .next t ∧ t.nvm.patrolNext = s.nvm.patrolNext + 1 ∧ t.nvm.patrolDue = s.nvm.patrolDue + 324000 ∧
      t.nvm.patrolSum = { s.nvm.patrolSum with pages := s.nvm.patrolSum.pages + 1 } ∧ t.nvm.sealed = s.nvm.sealed ∧ t.nvm.map = s.nvm.map ∧
      t = { s with nvm := t.nvm }) ∧
  (∀ (s : State) (p ph k : Nat) (r : List Nat), s.Calm → s.storeOn = true → s.nvm.patrolDue ≤ s.aon.calendar.toNat → s.nvm.patrolNext < 2047 →
    s.nvm.retired.contains s.nvm.patrolNext = false → s.nvm.logicalOf s.nvm.patrolNext = some p → p ∉ s.nvm.bufPages →
    (p < 1056 ∨ 1119 < p) → s.nvm.pool = ph :: r → 65 < s.nvm.poolFree →
    ∃ t, exec (.patrolPageDue (.weak k)) s = .next t ∧ t.nvm.physOf p = ph ∧ t.nvm.pool = r ∧ t.nvm.sealed = s.nvm.sealed ∧
      t.nvm.erasing = s.nvm.erasing ++ [s.nvm.physOf p] ∧ t.nvm.patrolNext = s.nvm.patrolNext + 1 ∧
      t.nvm.counts0 = bump (bumpBy s.nvm.counts0 0 16 k) 16) ∧
  (∀ (s : State) (p : Nat) (o : Fin 128), s.Calm → s.storeOn = true → s.nvm.patrolDue ≤ s.aon.calendar.toNat → s.nvm.patrolNext < 2047 →
    s.nvm.retired.contains s.nvm.patrolNext = false → s.nvm.logicalOf s.nvm.patrolNext = some p → p ∉ s.nvm.bufPages →
    (p < 512 ∨ 952 ≤ p) → s.nvm.physOf p < 2048 → s.mem.logNext < 4096 → s.jrn.nvHead < 8192 → s.nvm.work.wf = true → s.nvm.sealed.wf = true →
    ∃ t, exec (.patrolPageDue (.lost [o])) s = .next t ∧ t.nvm.sealed.get (p * 128 + o.val) = none ∧ t.nvm.work.get (p * 128 + o.val) = none ∧
      t.nvm.patrolNext = s.nvm.patrolNext + 1 ∧ bit t.nvm.flags 1 = true) ∧
  (∀ (s : State) (x : PageHealth), s.Calm → s.aon.calendar.toNat < s.nvm.patrolDue → exec (.patrolPageDue x) s = .next s) ∧
  (∀ (s : State) (h : Hdr) (p : Octets), s.Ready .nvmPatrol h p (.patrol []) →
    ∃ t, exec (.nvmPatrol h p (.patrol [])) s = .next t ∧ s.Becomes t ∧ s.Replies .nvmPatrol h .ok
      ([0, 0] ++ o16 (((List.range 2048).filter (fun ph => !s.nvm.retired.contains ph)).length) ++ leOf 3 0 ++ o16 0 ++ o16 0 ++ o16 0 ++
        o16 s.nvm.poolFree ++ o16 0) t)

/-- Entering a power state (R59, R394, R397 to R400). Once no claim forbids it IDLE is entered and any other entry drains; a wait for claims that
runs out is refused with its flag; a drained entry collects replies, DEEP and OFF with a shadow generation sealed first; after 10 ms what was
not collected is discarded; then the state is reached with the main domains stopped, and a wake latched meanwhile starts the return.
An event that is not due changes nothing: the model's choice (log entry 5). -/
def Obligations.EntriesGoThroughTheirSteps : Prop :=
  (∀ (s : State) (e : PwrEntry), s.Calm → s.pwr.entry = some e → e.phase = .claims → e.force = true ∨ s.claimForbids e.target = false →
    (e.target = .idle → e.latched = none →
      exec .entryBegin s = .next { s with pwr := { s.pwr with
        state := .idle, visit := s.aon.tick, forced := e.force, onBkup := false, entry := none
        boost := s.pwr.boost || s.fullRound || s.uwb.round.isSome } }) ∧
    (e.target ≠ .idle →
      ∃ t, exec .entryBegin s = .next t ∧ t.pwr = { s.pwr with entry := some { e with phase := .drain } } ∧ t.lf.want = none ∧ t.lf.due = none ∧
        t.hrv.lateDue = false ∧ t.crd.battery = none ∧ (s.uwb.round = none → ∀ n : Fin 8, (t.uwb.sessions[n]).isOpen = false) ∧ t.aon = s.aon ∧ t.mem = s.mem)) ∧
  (∀ (s : State), s.Calm → s.pwr.entry = none →
    exec .entryBegin s = .next s ∧ exec .claimWaitTimeout s = .next s ∧ exec .entryDrainComplete s = .next s ∧
    exec .replyCollectionTimeout s = .next s ∧ exec .powerStateReached s = .next s) ∧
  (∀ (s : State) (e : PwrEntry), s.Calm → s.pwr.entry = some e → e.phase = .claims → e.force = false → s.claimForbids e.target = true →
    e.byHost = true → ticksMs e.waitMs ≤ s.age e.began →
    exec .claimWaitTimeout s = .next { s with pwr := { s.pwr with entry := none, flags := raiseFlag s.pwr.flags 7 } }) ∧
  (∀ (s : State) (e : PwrEntry), s.Calm → s.pwr.entry = some e → e.phase = .drain → e.byHost = false → s.lf.round = none → s.uwb.round = none →
    s.hrv.period = none → (∀ k : Fin 2, (s.hrv.drivers[k]).running = false ∧ (s.hrv.drivers[k]).waiting = false) →
    ∃ t, exec .entryDrainComplete s = .next t ∧ t.pwr.entry = some { e with phase := .collect, done := s.aon.tick } ∧
      t.pwr.state = s.pwr.state ∧ (∀ n : Fin 8, (t.uwb.sessions[n]).isOpen = false) ∧
      (e.target = .deep ∨ e.target = .off → ∃ g, t.nvm.shadows.head? = some g ∧ g.complete = true ∧ g.val.tamper = s.sys.latch ∧
        g.val.calendar = s.aon.calendar ∧ g.val.lockLevel = s.crd.level ∧ g.val.lockActive = s.crd.active ∧ g.val.lockEnd = s.crd.lockEnd)) ∧
  (∀ (s : State) (e : PwrEntry), s.Calm → s.pwr.entry = some e → e.phase = .collect → ticksMs 10 ≤ s.age e.done →
    exec .replyCollectionTimeout s = .next { s with
      hst := { s.hst with ports := s.hst.ports.map PortState.emptied }, ntc := { s.ntc with queue := [] } }) ∧
  (∀ (s : State) (e : PwrEntry), s.Calm → s.pwr.entry = some e → e.phase = .collect →
    ∃ t, exec .powerStateReached s = .next t ∧ t.pwr.state = e.target ∧ t.pwr.entry = none ∧ t.pwr.visit = s.aon.tick ∧ t.pwr.forced = e.force ∧
      t.pwr.onBkup = false ∧ t.pwr.xoOk = false ∧ t.pwr.entryT = s.age e.began ∧ t.uhf.unit = .off ∧ t.uwb.radio = 0 ∧ t.ntc.link = false ∧
      t.pwr.retain = (if e.target = .deep then t.retainMask e.retain else 0) ∧ (e.latched = none → t.pwr.start = s.pwr.start) ∧
      ∀ src timer, e.latched = some (src, timer) → ∃ x, t.pwr.start = some x ∧ x.source = src ∧ x.timer = timer ∧ x.latched = true ∧ x.phase = .vcore) ∧
  (∀ (s : State), s.Calm → s.pwr.ramping = true → s.pwr.boost = false →
    exec .vcoreRampDone s = .next { s with pwr := { s.pwr with profile := s.pwr.profNext.getD s.pwr.profile, profNext := none, ramping := false } }) ∧
  (∀ (s : State), s.Calm → s.pwr.ramping = false → exec .vcoreRampDone s = .next s)

/-- Wakes and supplies (R401, R402, R405, R411, R412). A wake pin, or a start bit where the port does not hear, begins the return from a state where its
source is enabled, ends IDLE, and does nothing in RUN or where disabled; losing VSYS puts the device in DEEP on VBKUP, or OFF without it; its
return wakes the device from DEEP and starts it from OFF; a supply that appears with no always-on state brings a cold start.
An event that is not due changes nothing: the model's choice (log entry 5). -/
def Obligations.SuppliesAndWakeSources : Prop :=
  (∀ (s : State) (k : Fin 2), s.Calm → s.pwr.enabled k.val = true → s.pwr.entry = none → s.pwr.start = none →
    (s.pwr.state = .sleep → exec (.wakePinActive k) s = .next { s with pwr := { s.pwr with start := (some
      { kind := .sleep, left := .sleep, phase := .vcore, source := k.val + 1, timer := 0, latched := false, began := s.aon.tick, tries := 0,
        saveFail := false, commitFail := false, bankFail := 0 }) } }) ∧
    (s.pwr.state = .deep → s.pwr.vsysOk = true → exec (.wakePinActive k) s = .next { s with pwr := { s.pwr with start := (some
      { kind := .deep, left := .deep, phase := .vcore, source := k.val + 1, timer := 0, latched := false, began := s.aon.tick, tries := 0,
        saveFail := false, commitFail := false, bankFail := 0 }) } }) ∧
    (s.pwr.state = .idle → ∃ t, exec (.wakePinActive k) s = .next t ∧ t.pwr = { s.pwr with
      state := .run, visit := s.aon.tick
      wake := ({ source := k.val + 1, timer := 0, left := 1, flags := 2 * b2n s.pwr.forced, bankFail := 0, entryT := 0, exitUs := 2,
                 stamp := s.aon.calendar, residency := s.aon.tick - s.pwr.visit }) } ∧ t.sys = s.sys ∧ t.aon = s.aon) ∧
    (s.pwr.state = .run → exec (.wakePinActive k) s = .next s)) ∧
  (∀ (s : State) (k : Fin 2), s.Calm → s.pwr.enabled k.val = false → exec (.wakePinActive k) s = .next s) ∧
  (∀ (s : State), s.Calm → s.sys.vddio = true → s.pwr.enabled 8 = true → s.pwr.entry = none → s.pwr.start = none → s.pwr.state = .sleep →
    exec .uartStartBit s = .next { s with pwr := { s.pwr with start := (some
      { kind := .sleep, left := .sleep, phase := .vcore, source := 9, timer := 0, latched := false, began := s.aon.tick, tries := 0,
        saveFail := false, commitFail := false, bankFail := 0 }) } }) ∧
  (∀ (s : State), s.Calm → s.hears .uartC = true → exec .uartStartBit s = .next s) ∧
  (∀ (s : State), s.Calm → s.pwr.vsysOk = true → s.pwr.state = .run ∨ s.pwr.state = .idle ∨ s.pwr.state = .sleep → s.pwr.start = none →
    s.sys.faultBoot = false → s.lf.round = none → s.uwb.round = none → s.hrv.period = none → s.crd.battery = none →
    ∃ t, exec .vsysFall s = .next t ∧ t.pwr.vsysOk = false ∧ t.pwr.entry = none ∧ t.pwr.state = (if s.pwr.vbkupOk then .deep else .off) ∧
      bit t.pwr.flags 6 = true ∧ t.pwr.onBkup = true ∧ t.uhf.unit = .off ∧ t.ntc.link = false ∧ (∀ n : Fin 8, (t.uwb.sessions[n]).isOpen = false) ∧
      t.nvm.powerDown.isSome = true ∧ ∃ g, t.nvm.shadows.head? = some g ∧ g.complete = true ∧ g.val.tamper = s.sys.latch ∧ g.val.calendar = s.aon.calendar) ∧
  (∀ (s : State), s.Calm → s.pwr.vsysOk = true → s.pwr.state = .deep → s.pwr.start = none → s.sys.faultBoot = false → s.pwr.vbkupOk = true →
    exec .vsysFall s = .next { s with pwr := { s.pwr with vsysOk := false, onBkup := true, xoOk := false } }) ∧
  (∀ (s : State), s.Calm → s.pwr.vsysOk = true → s.pwr.state = .off →
    exec .vsysFall s = .next { s with pwr := { s.pwr with vsysOk := false, start := none, entry := none } }) ∧
  (∀ (s : State), s.Calm → s.pwr.vsysOk = false → exec .vsysFall s = .next s) ∧
  (∀ (s : State) (k : Nat) (d : PowerDown) (g : ShadowGen) (r : List ShadowGen), s.Calm → s.nvm.powerDown = some d → s.pwr.vsysOk = false → s.pwr.start = none →
    s.nvm.shadows = g :: r → g.complete = true → d.keys = [] → d.before.wf = true → d.image.wf = true →
    ∃ t, exec (.vholdLow k) s = .next t ∧
      (∀ a, t.nvm.sealed.get a = if a / 128 ∈ d.pages.take k then d.image.get a else d.before.get a) ∧
      (∃ x, t.nvm.shadows.head? = some x ∧ x.complete = false ∧ x.gen = g.gen) ∧ t = { s with nvm := t.nvm }) ∧
  (∀ (s : State) (k : Nat), s.Calm → s.pwr.vsysOk = true → exec (.vholdLow k) s = .next s) ∧
  (∀ (s : State), s.Calm → s.pwr.vsysOk = false → s.pwr.start = none → s.pwr.entry = none →
    (s.pwr.state = .deep → exec .vsysReturn s = .next { s with pwr := { s.pwr with vsysOk := true, start := (some
      { kind := .deep, left := .deep, phase := .vcore, source := 10, timer := 0, latched := false, began := s.aon.tick, tries := 0,
        saveFail := false, commitFail := false, bankFail := 0 }) } }) ∧
    (s.pwr.state = .off → s.pwr.vbkupOk = true → exec .vsysReturn s = .next { s with pwr := { s.pwr with vsysOk := true, start := (some
      { kind := .cold, left := .off, phase := .vcore, source := 10, timer := 0, latched := false, began := s.aon.tick, tries := 0,
        saveFail := false, commitFail := false, bankFail := 0 }) } }) ∧
    (s.pwr.state = .off → s.pwr.vbkupOk = false →
      ∃ t, exec .coldStart s = .next t ∧ exec .vsysReturn s = .next t ∧ t = { s with pwr := { s.pwr with vsysOk := true, start := (some
        { kind := .cold, left := .run, phase := .vcore, source := 0, timer := 0, latched := false, began := s.aon.tick, tries := 0,
          saveFail := false, commitFail := false, bankFail := 0 }) } })) ∧
  (∀ (s : State), s.Calm → s.pwr.vsysOk = true → exec .vsysReturn s = .next s ∧ exec .coldStart s = .next s) ∧
  (∀ (s : State), s.Calm → s.pwr.vsysOk = true → s.pwr.vbkupOk = true →
    exec .vbkupLow s = .next { s with pwr := { s.pwr with vbkupOk := false, flags := raiseFlag s.pwr.flags 5 } }) ∧
  (∀ (s : State), s.Calm → s.pwr.vsysOk = false →
    exec .vbkupLoss s = .next { s with pwr := { s.pwr with vbkupOk := false, state := .off, start := none, entry := none } }) ∧
  (∀ (s : State), s.Calm → s.pwr.vsysOk = true →
    exec .vbkupLoss s = .next s ∧ exec .vbkupReturn s = .next { s with pwr := { s.pwr with vbkupOk := true } }) ∧
  (∀ (s : State), s.Calm → exec .xo32Stable s = .next { s with pwr := { s.pwr with xo32 := true } }) ∧
  (∀ (s : State), s.Calm → exec (.vddioChange true) s = .next { s with sys := { s.sys with vddio := true } } ∧
    exec (.vddioChange false) s = .next { s with
      sys := { s.sys with vddio := false }, hst := { s.hst with ports := s.hst.ports.map (fun q => { q with selected := false }) } })

/-- The ready signals of a start (R344, R405, R406, R428, R429, R436, R449). VCORE, then the oscillator or its timeout, which leaves the start to go on,
then memory: zero after a fresh start, poison outside the retained banks after DEEP; then logic, with the state RUN; then commands are
accepted, the store mounted and every tract loaded. A signal that no start waits for does nothing.
That a signal nobody waits for does nothing is the model's choice (log entry 5). -/
def Obligations.StartsGoThroughTheirSignals : Prop :=
  (∀ (s : State) (x : Start), s.Calm → s.pwr.start = some x → x.phase = .vcore →
    exec .vcoreOk s = .next { s with pwr := { s.pwr with start := some { x with phase := .xo } } } ∧
    exec .vcoreTimeout s = .next { s with pwr := { s.pwr with start := if x.tries < 3 then some { x with tries := x.tries + 1 } else none } }) ∧
  (∀ (s : State) (x : Start), s.Calm → s.pwr.start = some x → x.phase = .xo →
    exec .xoOk s = .next { s with pwr := { s.pwr with xoOk := true, start := some { x with phase := .mem } } } ∧
    exec .xoTimeout s = .next { s with pwr := { s.pwr with
      xoOk := false, xoFail := true, flags := raiseFlag s.pwr.flags 4, start := some { x with phase := .mem } } }) ∧
  (∀ (s : State), s.Calm → s.pwr.start = none → s.pwr.xoFail = true → s.pwr.state = .run →
    ∃ t, exec .xoOk s = .next t ∧ t.pwr.xoOk = true ∧ t.pwr.xoFail = false ∧ t.aon = s.aon) ∧
  (∀ (s : State), s.Calm → exec .xoRetry s = .next s) ∧
  (∀ (s : State) (x : Start), s.Calm → s.pwr.start = some x → x.phase = .mem → x.kind.fresh = true →
    ∃ t, exec (.memOk 0 [] []) s = .next t ∧ t.pwr.start = some { x with phase := .logic } ∧ t.sys.faultBoot = false ∧ t.mem.checker = 0 ∧
      (∀ a, t.mem.stored a = encode47 0) ∧ t.mem.map = s.mem.storedMap ∧ t.mem.retired = s.mem.storedRet ∧ t.nvm = s.nvm) ∧
  (∀ (s : State) (x : Start), s.Calm → s.pwr.start = some x → x.phase = .mem → x.kind.fresh = true →
    ∃ t, exec (.memOk 1 [] []) s = .next t ∧ t.pwr.start = some { x with phase := .logic } ∧ t.sys.faultBoot = true) ∧
  (∀ (s : State) (x : Start), s.Calm → s.pwr.start = some x → x.phase = .mem → x.kind = .sleep →
    exec (.memOk 0 [] []) s = .next { s with pwr := { s.pwr with start := some { x with phase := .logic } } }) ∧
  (∀ (s : State) (x : Start), s.Calm → s.pwr.start = some x → x.phase = .mem → x.kind = .deep → s.nvm.torn = false → s.critSound [34, 35, 36, 37, 38, 39, 40, 41] = true →
    ∃ t y, exec (.memOk 0 [] []) s = .next t ∧ t.pwr.start = some y ∧ y.phase = .logic ∧ y.commitFail = false ∧ t.nvm.mounted = true ∧
      ∀ a, a < 393216 → s.retained (s.mem.phys a / 16384) = false → t.mem.stored a = poison47) ∧
  (∀ (s : State) (x : Start), s.Calm → s.pwr.start = some x → x.phase = .logic → x.kind.fresh = true → s.sys.faultBoot = false →
    ∃ t, exec (.logicOk [] 1500) s = .next t ∧ t.pwr.start = some { x with phase := .accept } ∧ t.pwr.state = .run ∧ t.hst = Hst.reset ∧ t.tmr = Tmr.reset ∧
      t.uhf = Uhf.reset ∧ t.uwb = Uwb.reset ∧ t.mem = s.mem ∧ t.nvm = s.nvm ∧ t.cph.slots = s.cph.slots ∧
      (x.kind = .cold → t.aon = Aon.reset ∧ t.pwr.wake.exitUs = 1500) ∧
      (x.kind ≠ .cold → t.aon.tick = s.aon.tick ∧ t.aon.calendar = s.aon.calendar ∧ t.sys.latch = s.sys.latch ∧ t.crd.active = s.crd.active)) ∧
  (∀ (s : State) (x : Start), s.Calm → s.pwr.start = some x → x.phase = .logic → x.kind.fresh = true → s.sys.faultBoot = true →
    ∃ t, exec (.logicOk [] 1500) s = .next t ∧ t.pwr.start = none ∧ t.sys.faultBoot = true) ∧
  (∀ (s : State) (x : Start), s.Calm → s.pwr.start = some x → x.phase = .logic → x.kind = .sleep →
    ∃ t, exec (.logicOk [] 700) s = .next t ∧ t.pwr.start = none ∧ t.pwr.state = .run ∧ t.pwr.wake.source = x.source ∧ t.pwr.wake.timer = x.timer ∧
      t.pwr.wake.exitUs = 700 ∧ t.uwb.radio = 0 ∧ t.ntc.link = false ∧ t.ntc.coarse = true ∧ t.cph.slots = s.cph.slots) ∧
  (∀ (s : State) (x : Start), s.Calm → s.pwr.start = some x → x.phase = .logic → x.kind = .deep →
    ∃ t y, exec (.logicOk [] 900) s = .next t ∧ t.pwr.start = some y ∧ y.phase = .accept ∧ t.pwr.state = .run ∧ t.pwr.wake.source = x.source ∧
      t.jrn.startKind = 3 ∧ t.cph.drbg = .reseeding ∧ t.sys.latch = s.sys.latch) ∧
  (∀ (s : State) (x : Start), s.Calm → s.pwr.start = some x → x.phase = .accept → x.kind.fresh = true →
    ∃ t, exec (.commandsAccepted 0 0 true) s = .next t ∧ t.pwr.start = none ∧ t.nvm.mounted = true ∧ t.crd.loaded = true ∧ t.cph.katDone = true ∧
      t.jrn.startKind = x.kind.code ∧ t.cph.failed = 0) ∧
  (∀ (s : State) (x : Start), s.Calm → s.pwr.start = some x → x.phase = .accept → x.kind.fresh = false →
    ∃ t, exec (.commandsAccepted 0 0 true) s = .next t ∧ t.pwr.start = none ∧ t.cph.katDone = true ∧ t.cph.failed = 0 ∧ t.tmr = s.tmr) ∧
  (∀ (s : State), s.Calm → s.pwr.start = none → exec .vcoreOk s = .next s ∧ exec .vcoreTimeout s = .next s ∧ exec .xoTimeout s = .next s ∧
    exec (.memOk 0 [] []) s = .next s ∧ exec (.logicOk [] 0) s = .next s ∧ exec (.commandsAccepted 0 0 true) s = .next s)


/-- Packets spell commands (R41, R44, R45, R49). The octets of a command's packet, however its header fields and parameters stand, act on every state as
the command's own row does: on an SPI port from the octet 0xA7 to the CRC; on UART-C as the frame that stuffs them; on the network port as the
payload of a frame that passes the port's filter, with its CMAC, its CRC and any padding. -/
def Obligations.PacketsSpellCommands : Prop :=
  (∀ (s : State) (op : Op) (h : Hdr) (p : Octets) (obs : Obs), h.port = .spiA ∨ h.port = .spiB → h.src = 0 → h.cmac = 0 → p.length ≤ 65535 →
    exec (.spiPacket h.port (framed (commandHead op h p) p) obs) s = .next (s.command op h p obs)) ∧
  (∀ (s : State) (op : Op) (h : Hdr) (p os : Octets) (obs : Obs), h.port = .uartC → h.src = 0 → h.cmac = 0 → p.length ≤ 1024 →
    cobsDecode os.length os = some (framed (commandHead op h p) p) →
    exec (.uartFrame os obs) s = .next (s.command op h p obs)) ∧
  (∀ (s : State) (op : Op) (h : Hdr) (p pad : Octets) (f : Frame) (obs : Obs), h.port = .net → h.src = f.src → p.length ≤ 65535 → s.hears .net = true →
    (s.acceptFrame f).2 = true → f.ether = 0x88B5 → f.dst = Config.mac → f.payload = netPayload op h p pad →
    exec (.networkCommand f obs) s = .next ((s.acceptFrame f).1.command op h p obs)) ∧
  (∀ (s : State) (h : Hdr) (p : Octets), h.port = .spiA ∨ h.port = .spiB → h.src = 0 → h.cmac = 0 → p.length ≤ 65535 →
    exec (.spiPacket h.port (framed (commandHead .sysStatus h p) p) .none) s = exec (.sysStatus h p) s ∧
    exec (.spiPacket h.port (framed (commandHead .memWrite h p) p) .none) s = exec (.memWrite h p) s)

/-- The checks of a packet (R52, R53). On an SPI port that is heard, with no command pending, a packet that fails a check is answered outside every queue and
changes nothing else: a wrong CRC and a wrong header with BAD_FRAME, too long a parameter field with BAD_LENGTH, any command in the
fault boot state but the two with WRONG_STATE, a closed context with NOT_PERMITTED, a repeat with DUPLICATE and the original result, an
unknown opcode with BAD_OPCODE, a role without the opcode with NOT_PERMITTED, a wrong length with BAD_LENGTH; octets before 0xA7 are ignored. -/
def Obligations.PacketsAreCheckedInOrder : Prop :=
  (∀ (s : State) (q : Port) (head p crc : Octets) (obs : Obs), s.Calm → q = .spiA ∨ q = .spiB → s.hears q = true → head.length = 12 →
    p16 head 7 = p.length → crc.length = 4 → crc ≠ leOf 4 (crc32c (head ++ p)).toNat →
    exec (.spiPacket q (0xA7 :: (head ++ p ++ crc)) obs) s = .next (s.modPort q (fun x => { x with
      err := bump x.err 0
      out := x.out ++ [refusalPacket (Fin.ofNat 8 (p8 head 1)) (p8 head 1 / 8) (BitVec.ofNat 16 (p16 head 2)) (p16 head 4) .badFrame 0 []] }))) ∧
  (∀ (s : State) (q : Port) (head p : Octets) (obs : Obs), s.Calm → q = .spiA ∨ q = .spiB → s.hears q = true → head.length = 12 →
    p16 head 7 = p.length →
    (p8 head 0 ≠ 0x10 ∨ 8 ≤ p8 head 1 ∨ 8 ≤ p8 head 6 ∨ p24 head 9 ≠ 0 →
      exec (.spiPacket q (framed head p) obs) s = .next (s.answered q
        (refusalPacket (Fin.ofNat 8 (p8 head 1)) (p8 head 1 / 8) (BitVec.ofNat 16 (p16 head 2)) (p16 head 4) .badFrame 0 []))) ∧
    (p8 head 0 = 0x10 → p8 head 1 < 8 → p8 head 6 < 8 → p24 head 9 = 0 → 1024 < p.length →
      exec (.spiPacket q (framed head p) obs) s = .next (s.answered q
        (refusalPacket (Fin.ofNat 8 (p8 head 1)) 0 (BitVec.ofNat 16 (p16 head 2)) (p16 head 4) .badLength 0 []))) ∧
    (p8 head 0 = 0x10 → p8 head 1 < 8 → p8 head 6 < 8 → p24 head 9 = 0 → p.length ≤ 1024 → s.sys.faultBoot = false → Op.ofCode (p16 head 4) = none →
      (s.ctx (Fin.ofNat 8 (p8 head 1))).isOpen = true → (s.ctx (Fin.ofNat 8 (p8 head 1))).port = q →
      (s.ctx (Fin.ofNat 8 (p8 head 1))).seen? (BitVec.ofNat 16 (p16 head 2)) = none →
      exec (.spiPacket q (framed head p) obs) s = .next (s.answered q
        (refusalPacket (Fin.ofNat 8 (p8 head 1)) 0 (BitVec.ofNat 16 (p16 head 2)) (p16 head 4) .badOpcode 0 [])))) ∧
  (∀ (s : State) (op : Op) (h : Hdr) (p : Octets) (obs : Obs), s.Calm → h.port = .spiA ∨ h.port = .spiB → s.hears h.port = true → p.length ≤ 1024 →
    (s.sys.faultBoot = true → op ≠ .sysIdentify → op ≠ .sysStatus →
      exec (.spiPacket h.port (framed (commandHead op h p) p) obs) s = .next (s.answered h.port (refusalPacket h.ctx 0 h.seq op.code .wrongState 0 []))) ∧
    (s.sys.faultBoot = true → exec (.spiPacket h.port (framed (commandHead .sysStatus h p) p) obs) s = .next (s.answered h.port
      (refusalPacket h.ctx 0 h.seq Op.sysStatus.code .ok 0 s.statusData))) ∧
    (s.sys.faultBoot = false → op ≠ .hstOpen → (s.ctx h.ctx).isOpen = false ∨ (s.ctx h.ctx).port ≠ h.port →
      exec (.spiPacket h.port (framed (commandHead op h p) p) obs) s = .next (s.answered h.port (refusalPacket h.ctx 0 h.seq op.code .notPermitted 0 []))) ∧
    (∀ e, s.sys.faultBoot = false → (s.ctx h.ctx).isOpen = true → (s.ctx h.ctx).port = h.port → (s.ctx h.ctx).seen? h.seq = some e →
      exec (.spiPacket h.port (framed (commandHead op h p) p) obs) s = .next (s.answered h.port (refusalPacket h.ctx 0 h.seq op.code .duplicate e.jseq
        (o16 e.status.toNat ++ (((s.ctx h.ctx).kept.reverse.find? (fun k => k.seq = h.seq)).map (·.data)).getD [])))) ∧
    (s.sys.faultBoot = false → (s.ctx h.ctx).isOpen = true → (s.ctx h.ctx).port = h.port → (s.ctx h.ctx).seen? h.seq = none →
      ((s.ctx h.ctx).role.may op = false →
        exec (.spiPacket h.port (framed (commandHead op h p) p) obs) s = .next (s.answered h.port (refusalPacket h.ctx 0 h.seq op.code .notPermitted 0 []))) ∧
      ((s.ctx h.ctx).role.may op = true → op.lenOk p = false →
        exec (.spiPacket h.port (framed (commandHead op h p) p) obs) s = .next (s.answered h.port (refusalPacket h.ctx 0 h.seq op.code .badLength 0 []))))) ∧
  (∀ (s : State) (q : Port) (os : Octets) (obs : Obs), s.Calm → (∀ o ∈ os, o ≠ 0xA7) → exec (.spiPacket q os obs) s = .next s)

/-- Moving packets (R40 to R42, R44, R45, R60, R69, R401). Chip select takes the mode and starts the next output packet, or wakes a sleeping device; a
packet cut short by its rise is counted; a delivered reply ends its command and the next packet starts; a UART-C frame that does not
decode, and a network command whose context is not open, are counted and not answered. -/
def Obligations.PortsMovePackets : Prop :=
  (∀ (s : State) (q : Port) (m : Bool), s.Calm → q = .spiA ∨ q = .spiB → s.sys.vddio = true → s.hears q = true → (s.port q).cur = none →
    exec (.chipSelectFall q m) s = .next (s.modPort q (fun x => { x with selected := true, mode3 := m, cur := s.nextPacket q, out := x.out.drop 1 }))) ∧
  (∀ (s : State) (q : Port) (m : Bool), s.Calm → q = .spiA ∨ q = .spiB → s.sys.vddio = true → s.hears q = true → (s.port q).cur.isSome = true →
    exec (.chipSelectFall q m) s = .next (s.modPort q (fun x => { x with selected := true, mode3 := m }))) ∧
  (∀ (s : State) (q : Port) (m : Bool), s.Calm → q = .spiA ∨ q = .spiB → s.sys.vddio = true → s.pwr.state = .sleep → s.pwr.start = none →
    s.pwr.entry = none → s.pwr.enabled (if q = .spiA then 6 else 7) = true →
    ∃ t x, exec (.chipSelectFall q m) s = .next t ∧ t.pwr.start = some x ∧ x.kind = .sleep ∧ x.source = (if q = .spiA then 7 else 8) ∧
      (t.port q).selected = true ∧ t.aon = s.aon) ∧
  (∀ (s : State) (q : Port) (k : Nat), s.Calm → q = .spiA ∨ q = .spiB → (s.port q).selected = true → s.hears q = true →
    exec (.chipSelectRise q k) s = .next (s.modPort q (fun x => { x with selected := false, err := if k = 0 then x.err else bump x.err 16 }))) ∧
  (∀ (s : State) (q : Port) (k : Nat), s.Calm → (s.port q).selected = false → exec (.chipSelectRise q k) s = .next s) ∧
  (∀ (s : State) (q : Port) (x : Packet) (c : Cmd), s.hears q = true → q = .spiA ∨ q = .spiB → (s.port q).selected = true → (s.port q).cur = some x →
    x.kind = .reply → x.frees = true → (s.ctx x.ctx).cmds = [c] → c.seq = x.seq → (∀ m, m ≠ x.ctx → (s.ctx m).cmds = []) → s.jrn.held = [] →
    (∀ k : Fin 3, s.ranOff k = false) →
    ∃ t, exec (.outputPacketDelivered q) s = .next t ∧ (t.ctx x.ctx).cmds = [] ∧ (t.port q).cur = s.nextPacket q ∧
      (t.port q).out = (s.port q).out.drop 1 ∧ t.outside = s.outside ∧ t.mem = s.mem ∧ t.nvm = s.nvm) ∧
  (∀ (s : State) (x : Packet) (r : List Packet) (c : Cmd), s.hears .uartC = true → (s.port .uartC).out = x :: r → x.kind = .reply → x.frees = true →
    (s.ctx x.ctx).cmds = [c] → c.seq = x.seq → (∀ m, m ≠ x.ctx → (s.ctx m).cmds = []) → s.jrn.held = [] → (∀ k : Fin 3, s.ranOff k = false) →
    ∃ t, exec (.outputPacketDelivered .uartC) s = .next t ∧ (t.ctx x.ctx).cmds = [] ∧ (t.port .uartC).out = r ∧ t.outside = s.outside) ∧
  (∀ (s : State) (q : Port) (x : Packet) (e : Event) (r : List Event), s.Calm → s.hears q = true → q = .spiA ∨ q = .spiB → (s.port q).selected = true →
    (s.port q).cur = some x → x.kind = .event → (s.ctx x.ctx).events = e :: r → e.seq = x.seq →
    ∃ t, exec (.outputPacketDelivered q) s = .next t ∧ (t.ctx x.ctx).events = r ∧ (t.ctx x.ctx).lost = (s.ctx x.ctx).lost - p8 x.params 5 ∧
      t.outside = s.outside) ∧
  (∀ (s : State) (os : Octets) (obs : Obs), s.Calm → s.hears .uartC = true →
    (∀ d, cobsDecode os.length os = some d → 1041 < d.length ∨ d.length < 17 ∨ d.headD 0 ≠ 0xA7) →
    exec (.uartFrame os obs) s = .next (s.modPort .uartC (fun x => { x with err := bump x.err 16 }))) ∧
  (∀ (s : State) (op : Op) (h : Hdr) (p pad : Octets) (f : Frame) (obs : Obs), s.Calm → h.src = f.src → p.length ≤ 1024 →
    s.hears .net = true → (s.acceptFrame f).2 = true → f.ether = 0x88B5 → f.dst = Config.mac → f.payload = netPayload op h p pad →
    op ≠ .hstOpen → (s.ctx h.ctx).isOpen = false →
    exec (.networkCommand f obs) s = .next ((s.acceptFrame f).1.modPort .net (fun x => { x with err := bump x.err 0 })))

/-- A waiting command's reply follows what it waits for (R397 to R399, R451, R453). Once its commit is sealed or has
failed, its claims have been given up or waited out, or its drain is over, the one command that waits is answered on its port. -/
def Obligations.WaitsEndWithTheirReply : Prop :=
  (∀ (s : State) (n : Fin 8) (c : Cmd) (k : Nat) (st : Status) (d : Octets) (x : Commit), s.OneWaits n c (.seal k st d) → s.storeOn = true →
    s.nvm.commit = some x → k ≤ x.upTo → x.pages.length ≤ s.nvm.pool.length → s.nvm.backlog = [] →
    ∃ t, exec (.pageCommitDone []) s = .next t ∧ s.Completes n c st d t) ∧
  (∀ (s : State) (n : Fin 8) (c : Cmd) (k : Nat) (st : Status) (d : Octets) (x : Commit) (q : Nat), s.OneWaits n c (.seal k st d) → s.storeOn = true →
    s.nvm.commit = some x → k ≤ x.upTo → x.pages = [q] → s.nvm.backlog = [] →
    ∃ t, exec (.pageCommitDone [3]) s = .next t ∧ s.Completes n c .nvmWorn [] t) ∧
  (∀ (s : State) (n : Fin 8) (c : Cmd) (k m : Nat) (x : Commit), s.OneWaits n c (.commit k m) → s.storeOn = true → s.nvm.commit = some x → k ≤ x.upTo →
    x.pages.length ≤ s.nvm.pool.length → s.nvm.backlog = [] →
    ∃ t, exec (.pageCommitDone []) s = .next t ∧ s.Completes n c .ok (o8 m) t) ∧
  (∀ (s : State) (n : Fin 8) (c : Cmd) (e : PwrEntry), s.OneWaits n c .claims → s.pwr.entry = some e → e.phase = .claims → e.force = false →
    s.claimForbids e.target = true → e.byHost = true → ticksMs e.waitMs ≤ s.age e.began →
    ∃ t, exec .claimWaitTimeout s = .next t ∧ s.Completes n c .busy [] t ∧ t.pwr.entry = none) ∧
  (∀ (s : State) (n : Fin 8) (c : Cmd) (e : PwrEntry), s.OneWaits n c .claims → s.pwr.entry = some e → e.phase = .claims → s.claimForbids e.target = false →
    e.target = .idle → e.latched = none →
    ∃ t, exec .entryBegin s = .next t ∧ s.Completes n c .ok [] t ∧ t.pwr.state = .idle) ∧
  (∀ (s : State) (n : Fin 8) (c : Cmd) (e : PwrEntry), s.OneWaits n c .entry → s.pwr.entry = some e → e.phase = .drain → e.byHost = true → e.target = .sleep →
    s.lf.round = none → s.uwb.round = none → s.hrv.period = none →
    (∀ k : Fin 2, (s.hrv.drivers[k]).running = false ∧ (s.hrv.drivers[k]).waiting = false) →
    ∃ t, exec .entryDrainComplete s = .next t ∧ s.Completes n c .ok [] t ∧ t.pwr.entry = some { e with phase := .collect, done := s.aon.tick })

/-- A step takes the command at the front of the queue and runs it with the queue's rest. -/
def Obligations.StepRunsTheFrontCommand : Prop :=
  ∀ (s : State) (c : Instr) (rest : List Instr), step { s with pending := c :: rest } = exec c { s with pending := rest }

/-- Replies go as soon as they can (R53, R62). After every step but an idle one, from any state, no reply that could go to its port waits; and a step from
a state in which none waits leaves none.
That delivery is part of the step is the model's choice (log entry 4). -/
def Obligations.NoReplyWaitsAfterAStep : Prop :=
  (∀ (s t : State) (c : Instr), exec c s = .next t → t.AllDelivered) ∧
  (∀ s t : State, s.AllDelivered → step s = .next t → t.AllDelivered)

/-- No reply waits at reset. -/
def Obligations.NoReplyWaitsAtReset : Prop := State.reset.AllDelivered

/-- Every command completes (R52, R53): no step faults or is refused; with an empty queue the block idles (the model's choice, log entry 3). -/
def Obligations.EveryStepAnswersANextState : Prop :=
  (∀ s : State, ∃ t, step s = .next t) ∧ (∀ s : State, s.pending = [] → step s = .next s)

/-- Journaled commands are numbered (R73, R75). The opcodes that are not journaled are those of the Read opcodes column of R57, HST_EVENT_READ, MEM_READ and NVM_READ;
an accepted journaled command takes the next number, and its entry of five words is written to the next slot of the working ring; an
accepted command that is not journaled, one refused at any check, and a repeat leave the almanac and the ring as they were. -/
def Obligations.AcceptedCommandsAreNumbered : Prop :=
  (∀ op : Op, op.journaled = false ↔ op ∈ [.sysNop, .sysIdentify, .sysStatus, .sysRegRead, .jrnRead, .jrnStatus, .jrnLookup, .pwrResidencyRead,
    .pwrWakeRecordRead, .lfDiagnose, .uwbCirRead, .crdRosterRead, .crdLockoutStatus, .crdRoundResultRead, .hrvStatus, .seqStatus, .cphKeyInfo, .ntcRead,
    .ntcCaptureRead, .ntcCalendarRead, .tmrRead, .tmrReadPair, .tmrSnapshotAll, .memFaultLogRead, .nvmStatus, .nvmTallyRead, .hstEventRead, .memRead,
    .nvmRead]) ∧
  (∀ (s : State) (op : Op) (h : Hdr) (p : Octets) (obs : Obs), s.Ready op h p obs → op.journaled = true → s.mem.Sound →
    (s.accept op h p obs).jrn.next = s.jrn.next + 1 ∧ (s.accept op h p obs).jrn.head = (s.jrn.head + 1) % 2048 ∧
    (s.accept op h p obs).jrn.count = satSucc s.jrn.count 2048 ∧ ∀ i < 5, (s.accept op h p obs).mem.stored (ringAddr s.jrn.head + i) = encode47
      (([BitVec.ofNat 40 s.jrn.next, s.aon.calendar,
        put 0 16 op.code ||| put 16 16 h.seq.toNat ||| put 32 3 h.ctx.val ||| put 35 3 (s.ctx h.ctx).role.code ||| put 38 2 (portIx h.port).val,
        put 0 16 0xFFFF ||| flag 16 true ||| flag 17 op.security ||| flag 20 h.retry, put 0 32 (crc32c (digested op p)).toNat] : List Word).getD i 0)) ∧
  (∀ (s : State) (op : Op) (h : Hdr) (p : Octets) (obs : Obs), s.Ready op h p obs → op.journaled = false →
    (s.accept op h p obs).jrn = s.jrn ∧ (s.accept op h p obs).mem = s.mem) ∧
  (∀ (s : State) (op : Op) (h : Hdr) (p : Octets) (obs : Obs), (s.ctx h.ctx).isOpen = true → (s.ctx h.ctx).port = h.port →
    (s.ctx h.ctx).seen? h.seq ≠ none ∨ (s.ctx h.ctx).roleNow.may op = false ∨ op.lenOk p = false ∨
      (4 ≤ (s.ctx h.ctx).cmds.length ∧ op ≠ .hstClose ∧ op ≠ .hstOpen) →
    (s.takeIn h op.code p obs false).jrn = s.jrn ∧ (s.takeIn h op.code p obs false).mem = s.mem)

/-- The values of reset (R28, R58, R72, R84, R218, R297, R313, R346, R384, R390, R399, R417, R429, R440, R466). After a cold start the device is in RUN with no context open, no
round, exchange or transfer, every unit off but the sequencers, every timer stopped at 0, every word of the banks the zero word but the START
entry, every key slot but slot 0 without a key, and an empty queue. The state is that of a blank store (log entry 1). -/
def Obligations.ResetIsAColdStart : Prop :=
  State.reset.pwr.state = .run ∧ State.reset.pwr.start = none ∧ State.reset.pwr.entry = none ∧ (∀ n, (State.reset.ctx n).isOpen = false) ∧
  (∀ n, (State.reset.ctx n).cmds = []) ∧ (∀ n, (State.reset.tim n).run = false ∧ (State.reset.tim n).count = 0) ∧ State.reset.lf.unit = .off ∧
  State.reset.uhf.unit = .off ∧ (∀ n : Fin 4, (State.reset.rx n).unit = .off) ∧ (∀ n : Fin 3, (State.reset.sq n).unit = .on) ∧
  State.reset.lf.round = none ∧ State.reset.uwb.round = none ∧ State.reset.hrv.period = none ∧ State.reset.crd.battery = none ∧ State.reset.sys.fw = none ∧
  State.reset.jrn.startKind = 0 ∧ State.reset.mem.wf = true ∧ State.reset.mem.retired = 0 ∧ State.reset.nvm.work.wf = true ∧
  State.reset.nvm.sealed.wf = true ∧ State.reset.nvm.mounted = true ∧ State.reset.pending = []
end

