-- ==== Sys2Proof/Laws/State.lean ====
section
/-!
SUPPORT. What each named update of the state leaves: one lemma per field, so that no proof unfolds a record update.
-/
namespace Sys2Proof.Machine

open Sys2Proof

@[simp] theorem State.setCtx_sys (s : State) (n : Fin 8) (c : Ctx) : (s.setCtx n c).sys = s.sys := rfl
@[simp] theorem State.setCtx_pwr (s : State) (n : Fin 8) (c : Ctx) : (s.setCtx n c).pwr = s.pwr := rfl
@[simp] theorem State.setCtx_aon (s : State) (n : Fin 8) (c : Ctx) : (s.setCtx n c).aon = s.aon := rfl
@[simp] theorem State.setCtx_hst (s : State) (n : Fin 8) (c : Ctx) : (s.setCtx n c).hst = { s.hst with ctx := s.hst.ctx.set n c } := rfl
@[simp] theorem State.setCtx_jrn (s : State) (n : Fin 8) (c : Ctx) : (s.setCtx n c).jrn = s.jrn := rfl
@[simp] theorem State.setCtx_mem (s : State) (n : Fin 8) (c : Ctx) : (s.setCtx n c).mem = s.mem := rfl
@[simp] theorem State.setCtx_nvm (s : State) (n : Fin 8) (c : Ctx) : (s.setCtx n c).nvm = s.nvm := rfl
@[simp] theorem State.setCtx_cph (s : State) (n : Fin 8) (c : Ctx) : (s.setCtx n c).cph = s.cph := rfl
@[simp] theorem State.setCtx_ntc (s : State) (n : Fin 8) (c : Ctx) : (s.setCtx n c).ntc = s.ntc := rfl
@[simp] theorem State.setCtx_seq (s : State) (n : Fin 8) (c : Ctx) : (s.setCtx n c).seq = s.seq := rfl
@[simp] theorem State.setCtx_tmr (s : State) (n : Fin 8) (c : Ctx) : (s.setCtx n c).tmr = s.tmr := rfl
@[simp] theorem State.setCtx_crd (s : State) (n : Fin 8) (c : Ctx) : (s.setCtx n c).crd = s.crd := rfl
@[simp] theorem State.setCtx_lf (s : State) (n : Fin 8) (c : Ctx) : (s.setCtx n c).lf = s.lf := rfl
@[simp] theorem State.setCtx_uhf (s : State) (n : Fin 8) (c : Ctx) : (s.setCtx n c).uhf = s.uhf := rfl
@[simp] theorem State.setCtx_uwb (s : State) (n : Fin 8) (c : Ctx) : (s.setCtx n c).uwb = s.uwb := rfl
@[simp] theorem State.setCtx_hrv (s : State) (n : Fin 8) (c : Ctx) : (s.setCtx n c).hrv = s.hrv := rfl
@[simp] theorem State.setCtx_free (s : State) (n : Fin 8) (c : Ctx) : (s.setCtx n c).free = s.free := rfl
@[simp] theorem State.setCtx_pending (s : State) (n : Fin 8) (c : Ctx) : (s.setCtx n c).pending = s.pending := rfl

@[simp] theorem State.modCtx_sys (s : State) (n : Fin 8) (f : Ctx → Ctx) : (s.modCtx n f).sys = s.sys := rfl
@[simp] theorem State.modCtx_pwr (s : State) (n : Fin 8) (f : Ctx → Ctx) : (s.modCtx n f).pwr = s.pwr := rfl
@[simp] theorem State.modCtx_aon (s : State) (n : Fin 8) (f : Ctx → Ctx) : (s.modCtx n f).aon = s.aon := rfl
@[simp] theorem State.modCtx_hst (s : State) (n : Fin 8) (f : Ctx → Ctx) : (s.modCtx n f).hst = { s.hst with ctx := s.hst.ctx.set n (f (s.ctx n)) } := rfl
@[simp] theorem State.modCtx_jrn (s : State) (n : Fin 8) (f : Ctx → Ctx) : (s.modCtx n f).jrn = s.jrn := rfl
@[simp] theorem State.modCtx_mem (s : State) (n : Fin 8) (f : Ctx → Ctx) : (s.modCtx n f).mem = s.mem := rfl
@[simp] theorem State.modCtx_nvm (s : State) (n : Fin 8) (f : Ctx → Ctx) : (s.modCtx n f).nvm = s.nvm := rfl
@[simp] theorem State.modCtx_cph (s : State) (n : Fin 8) (f : Ctx → Ctx) : (s.modCtx n f).cph = s.cph := rfl
@[simp] theorem State.modCtx_ntc (s : State) (n : Fin 8) (f : Ctx → Ctx) : (s.modCtx n f).ntc = s.ntc := rfl
@[simp] theorem State.modCtx_seq (s : State) (n : Fin 8) (f : Ctx → Ctx) : (s.modCtx n f).seq = s.seq := rfl
@[simp] theorem State.modCtx_tmr (s : State) (n : Fin 8) (f : Ctx → Ctx) : (s.modCtx n f).tmr = s.tmr := rfl
@[simp] theorem State.modCtx_crd (s : State) (n : Fin 8) (f : Ctx → Ctx) : (s.modCtx n f).crd = s.crd := rfl
@[simp] theorem State.modCtx_lf (s : State) (n : Fin 8) (f : Ctx → Ctx) : (s.modCtx n f).lf = s.lf := rfl
@[simp] theorem State.modCtx_uhf (s : State) (n : Fin 8) (f : Ctx → Ctx) : (s.modCtx n f).uhf = s.uhf := rfl
@[simp] theorem State.modCtx_uwb (s : State) (n : Fin 8) (f : Ctx → Ctx) : (s.modCtx n f).uwb = s.uwb := rfl
@[simp] theorem State.modCtx_hrv (s : State) (n : Fin 8) (f : Ctx → Ctx) : (s.modCtx n f).hrv = s.hrv := rfl
@[simp] theorem State.modCtx_free (s : State) (n : Fin 8) (f : Ctx → Ctx) : (s.modCtx n f).free = s.free := rfl
@[simp] theorem State.modCtx_pending (s : State) (n : Fin 8) (f : Ctx → Ctx) : (s.modCtx n f).pending = s.pending := rfl

@[simp] theorem State.modPort_sys (s : State) (p : Port) (f : PortState → PortState) : (s.modPort p f).sys = s.sys := rfl
@[simp] theorem State.modPort_pwr (s : State) (p : Port) (f : PortState → PortState) : (s.modPort p f).pwr = s.pwr := rfl
@[simp] theorem State.modPort_aon (s : State) (p : Port) (f : PortState → PortState) : (s.modPort p f).aon = s.aon := rfl
@[simp] theorem State.modPort_hst (s : State) (p : Port) (f : PortState → PortState) : (s.modPort p f).hst = { s.hst with ports := s.hst.ports.set (portIx p) (f (s.port p)) } := rfl
@[simp] theorem State.modPort_jrn (s : State) (p : Port) (f : PortState → PortState) : (s.modPort p f).jrn = s.jrn := rfl
@[simp] theorem State.modPort_mem (s : State) (p : Port) (f : PortState → PortState) : (s.modPort p f).mem = s.mem := rfl
@[simp] theorem State.modPort_nvm (s : State) (p : Port) (f : PortState → PortState) : (s.modPort p f).nvm = s.nvm := rfl
@[simp] theorem State.modPort_cph (s : State) (p : Port) (f : PortState → PortState) : (s.modPort p f).cph = s.cph := rfl
@[simp] theorem State.modPort_ntc (s : State) (p : Port) (f : PortState → PortState) : (s.modPort p f).ntc = s.ntc := rfl
@[simp] theorem State.modPort_seq (s : State) (p : Port) (f : PortState → PortState) : (s.modPort p f).seq = s.seq := rfl
@[simp] theorem State.modPort_tmr (s : State) (p : Port) (f : PortState → PortState) : (s.modPort p f).tmr = s.tmr := rfl
@[simp] theorem State.modPort_crd (s : State) (p : Port) (f : PortState → PortState) : (s.modPort p f).crd = s.crd := rfl
@[simp] theorem State.modPort_lf (s : State) (p : Port) (f : PortState → PortState) : (s.modPort p f).lf = s.lf := rfl
@[simp] theorem State.modPort_uhf (s : State) (p : Port) (f : PortState → PortState) : (s.modPort p f).uhf = s.uhf := rfl
@[simp] theorem State.modPort_uwb (s : State) (p : Port) (f : PortState → PortState) : (s.modPort p f).uwb = s.uwb := rfl
@[simp] theorem State.modPort_hrv (s : State) (p : Port) (f : PortState → PortState) : (s.modPort p f).hrv = s.hrv := rfl
@[simp] theorem State.modPort_free (s : State) (p : Port) (f : PortState → PortState) : (s.modPort p f).free = s.free := rfl
@[simp] theorem State.modPort_pending (s : State) (p : Port) (f : PortState → PortState) : (s.modPort p f).pending = s.pending := rfl

@[simp] theorem State.nextDispatch_sys (s : State) : (s.nextDispatch).sys = s.sys := rfl
@[simp] theorem State.nextDispatch_pwr (s : State) : (s.nextDispatch).pwr = s.pwr := rfl
@[simp] theorem State.nextDispatch_aon (s : State) : (s.nextDispatch).aon = s.aon := rfl
@[simp] theorem State.nextDispatch_hst (s : State) : (s.nextDispatch).hst = s.hst := rfl
@[simp] theorem State.nextDispatch_jrn (s : State) : (s.nextDispatch).jrn = { s.jrn with dispatch := s.jrn.dispatch + 1 } := rfl
@[simp] theorem State.nextDispatch_mem (s : State) : (s.nextDispatch).mem = s.mem := rfl
@[simp] theorem State.nextDispatch_nvm (s : State) : (s.nextDispatch).nvm = s.nvm := rfl
@[simp] theorem State.nextDispatch_cph (s : State) : (s.nextDispatch).cph = s.cph := rfl
@[simp] theorem State.nextDispatch_ntc (s : State) : (s.nextDispatch).ntc = s.ntc := rfl
@[simp] theorem State.nextDispatch_seq (s : State) : (s.nextDispatch).seq = s.seq := rfl
@[simp] theorem State.nextDispatch_tmr (s : State) : (s.nextDispatch).tmr = s.tmr := rfl
@[simp] theorem State.nextDispatch_crd (s : State) : (s.nextDispatch).crd = s.crd := rfl
@[simp] theorem State.nextDispatch_lf (s : State) : (s.nextDispatch).lf = s.lf := rfl
@[simp] theorem State.nextDispatch_uhf (s : State) : (s.nextDispatch).uhf = s.uhf := rfl
@[simp] theorem State.nextDispatch_uwb (s : State) : (s.nextDispatch).uwb = s.uwb := rfl
@[simp] theorem State.nextDispatch_hrv (s : State) : (s.nextDispatch).hrv = s.hrv := rfl
@[simp] theorem State.nextDispatch_free (s : State) : (s.nextDispatch).free = s.free := rfl
@[simp] theorem State.nextDispatch_pending (s : State) : (s.nextDispatch).pending = s.pending := rfl

@[simp] theorem State.draw_sys (s : State) : (s.draw).sys = s.sys := rfl
@[simp] theorem State.draw_pwr (s : State) : (s.draw).pwr = s.pwr := rfl
@[simp] theorem State.draw_aon (s : State) : (s.draw).aon = s.aon := rfl
@[simp] theorem State.draw_hst (s : State) : (s.draw).hst = s.hst := rfl
@[simp] theorem State.draw_jrn (s : State) : (s.draw).jrn = s.jrn := rfl
@[simp] theorem State.draw_mem (s : State) : (s.draw).mem = s.mem := rfl
@[simp] theorem State.draw_nvm (s : State) : (s.draw).nvm = s.nvm := rfl
@[simp] theorem State.draw_cph (s : State) : (s.draw).cph = s.cph := rfl
@[simp] theorem State.draw_ntc (s : State) : (s.draw).ntc = s.ntc := rfl
@[simp] theorem State.draw_seq (s : State) : (s.draw).seq = s.seq := rfl
@[simp] theorem State.draw_tmr (s : State) : (s.draw).tmr = s.tmr := rfl
@[simp] theorem State.draw_crd (s : State) : (s.draw).crd = s.crd := rfl
@[simp] theorem State.draw_lf (s : State) : (s.draw).lf = s.lf := rfl
@[simp] theorem State.draw_uhf (s : State) : (s.draw).uhf = s.uhf := rfl
@[simp] theorem State.draw_uwb (s : State) : (s.draw).uwb = s.uwb := rfl
@[simp] theorem State.draw_hrv (s : State) : (s.draw).hrv = s.hrv := rfl
@[simp] theorem State.draw_free (s : State) : (s.draw).free = s.free + 1 := rfl
@[simp] theorem State.draw_pending (s : State) : (s.draw).pending = s.pending := rfl

@[simp] theorem State.modNtc_sys (s : State) (f : Ntc → Ntc) : (s.modNtc f).sys = s.sys := rfl
@[simp] theorem State.modNtc_pwr (s : State) (f : Ntc → Ntc) : (s.modNtc f).pwr = s.pwr := rfl
@[simp] theorem State.modNtc_aon (s : State) (f : Ntc → Ntc) : (s.modNtc f).aon = s.aon := rfl
@[simp] theorem State.modNtc_hst (s : State) (f : Ntc → Ntc) : (s.modNtc f).hst = s.hst := rfl
@[simp] theorem State.modNtc_jrn (s : State) (f : Ntc → Ntc) : (s.modNtc f).jrn = s.jrn := rfl
@[simp] theorem State.modNtc_mem (s : State) (f : Ntc → Ntc) : (s.modNtc f).mem = s.mem := rfl
@[simp] theorem State.modNtc_nvm (s : State) (f : Ntc → Ntc) : (s.modNtc f).nvm = s.nvm := rfl
@[simp] theorem State.modNtc_cph (s : State) (f : Ntc → Ntc) : (s.modNtc f).cph = s.cph := rfl
@[simp] theorem State.modNtc_ntc (s : State) (f : Ntc → Ntc) : (s.modNtc f).ntc = f s.ntc := rfl
@[simp] theorem State.modNtc_seq (s : State) (f : Ntc → Ntc) : (s.modNtc f).seq = s.seq := rfl
@[simp] theorem State.modNtc_tmr (s : State) (f : Ntc → Ntc) : (s.modNtc f).tmr = s.tmr := rfl
@[simp] theorem State.modNtc_crd (s : State) (f : Ntc → Ntc) : (s.modNtc f).crd = s.crd := rfl
@[simp] theorem State.modNtc_lf (s : State) (f : Ntc → Ntc) : (s.modNtc f).lf = s.lf := rfl
@[simp] theorem State.modNtc_uhf (s : State) (f : Ntc → Ntc) : (s.modNtc f).uhf = s.uhf := rfl
@[simp] theorem State.modNtc_uwb (s : State) (f : Ntc → Ntc) : (s.modNtc f).uwb = s.uwb := rfl
@[simp] theorem State.modNtc_hrv (s : State) (f : Ntc → Ntc) : (s.modNtc f).hrv = s.hrv := rfl
@[simp] theorem State.modNtc_free (s : State) (f : Ntc → Ntc) : (s.modNtc f).free = s.free := rfl
@[simp] theorem State.modNtc_pending (s : State) (f : Ntc → Ntc) : (s.modNtc f).pending = s.pending := rfl

@[simp] theorem State.modLf_sys (s : State) (f : Lf → Lf) : (s.modLf f).sys = s.sys := rfl
@[simp] theorem State.modLf_pwr (s : State) (f : Lf → Lf) : (s.modLf f).pwr = s.pwr := rfl
@[simp] theorem State.modLf_aon (s : State) (f : Lf → Lf) : (s.modLf f).aon = s.aon := rfl
@[simp] theorem State.modLf_hst (s : State) (f : Lf → Lf) : (s.modLf f).hst = s.hst := rfl
@[simp] theorem State.modLf_jrn (s : State) (f : Lf → Lf) : (s.modLf f).jrn = s.jrn := rfl
@[simp] theorem State.modLf_mem (s : State) (f : Lf → Lf) : (s.modLf f).mem = s.mem := rfl
@[simp] theorem State.modLf_nvm (s : State) (f : Lf → Lf) : (s.modLf f).nvm = s.nvm := rfl
@[simp] theorem State.modLf_cph (s : State) (f : Lf → Lf) : (s.modLf f).cph = s.cph := rfl
@[simp] theorem State.modLf_ntc (s : State) (f : Lf → Lf) : (s.modLf f).ntc = s.ntc := rfl
@[simp] theorem State.modLf_seq (s : State) (f : Lf → Lf) : (s.modLf f).seq = s.seq := rfl
@[simp] theorem State.modLf_tmr (s : State) (f : Lf → Lf) : (s.modLf f).tmr = s.tmr := rfl
@[simp] theorem State.modLf_crd (s : State) (f : Lf → Lf) : (s.modLf f).crd = s.crd := rfl
@[simp] theorem State.modLf_lf (s : State) (f : Lf → Lf) : (s.modLf f).lf = f s.lf := rfl
@[simp] theorem State.modLf_uhf (s : State) (f : Lf → Lf) : (s.modLf f).uhf = s.uhf := rfl
@[simp] theorem State.modLf_uwb (s : State) (f : Lf → Lf) : (s.modLf f).uwb = s.uwb := rfl
@[simp] theorem State.modLf_hrv (s : State) (f : Lf → Lf) : (s.modLf f).hrv = s.hrv := rfl
@[simp] theorem State.modLf_free (s : State) (f : Lf → Lf) : (s.modLf f).free = s.free := rfl
@[simp] theorem State.modLf_pending (s : State) (f : Lf → Lf) : (s.modLf f).pending = s.pending := rfl

@[simp] theorem State.modPwr_sys (s : State) (f : Pwr → Pwr) : (s.modPwr f).sys = s.sys := rfl
@[simp] theorem State.modPwr_pwr (s : State) (f : Pwr → Pwr) : (s.modPwr f).pwr = f s.pwr := rfl
@[simp] theorem State.modPwr_aon (s : State) (f : Pwr → Pwr) : (s.modPwr f).aon = s.aon := rfl
@[simp] theorem State.modPwr_hst (s : State) (f : Pwr → Pwr) : (s.modPwr f).hst = s.hst := rfl
@[simp] theorem State.modPwr_jrn (s : State) (f : Pwr → Pwr) : (s.modPwr f).jrn = s.jrn := rfl
@[simp] theorem State.modPwr_mem (s : State) (f : Pwr → Pwr) : (s.modPwr f).mem = s.mem := rfl
@[simp] theorem State.modPwr_nvm (s : State) (f : Pwr → Pwr) : (s.modPwr f).nvm = s.nvm := rfl
@[simp] theorem State.modPwr_cph (s : State) (f : Pwr → Pwr) : (s.modPwr f).cph = s.cph := rfl
@[simp] theorem State.modPwr_ntc (s : State) (f : Pwr → Pwr) : (s.modPwr f).ntc = s.ntc := rfl
@[simp] theorem State.modPwr_seq (s : State) (f : Pwr → Pwr) : (s.modPwr f).seq = s.seq := rfl
@[simp] theorem State.modPwr_tmr (s : State) (f : Pwr → Pwr) : (s.modPwr f).tmr = s.tmr := rfl
@[simp] theorem State.modPwr_crd (s : State) (f : Pwr → Pwr) : (s.modPwr f).crd = s.crd := rfl
@[simp] theorem State.modPwr_lf (s : State) (f : Pwr → Pwr) : (s.modPwr f).lf = s.lf := rfl
@[simp] theorem State.modPwr_uhf (s : State) (f : Pwr → Pwr) : (s.modPwr f).uhf = s.uhf := rfl
@[simp] theorem State.modPwr_uwb (s : State) (f : Pwr → Pwr) : (s.modPwr f).uwb = s.uwb := rfl
@[simp] theorem State.modPwr_hrv (s : State) (f : Pwr → Pwr) : (s.modPwr f).hrv = s.hrv := rfl
@[simp] theorem State.modPwr_free (s : State) (f : Pwr → Pwr) : (s.modPwr f).free = s.free := rfl
@[simp] theorem State.modPwr_pending (s : State) (f : Pwr → Pwr) : (s.modPwr f).pending = s.pending := rfl

@[simp] theorem State.modCrd_sys (s : State) (f : Crd → Crd) : (s.modCrd f).sys = s.sys := rfl
@[simp] theorem State.modCrd_pwr (s : State) (f : Crd → Crd) : (s.modCrd f).pwr = s.pwr := rfl
@[simp] theorem State.modCrd_aon (s : State) (f : Crd → Crd) : (s.modCrd f).aon = s.aon := rfl
@[simp] theorem State.modCrd_hst (s : State) (f : Crd → Crd) : (s.modCrd f).hst = s.hst := rfl
@[simp] theorem State.modCrd_jrn (s : State) (f : Crd → Crd) : (s.modCrd f).jrn = s.jrn := rfl
@[simp] theorem State.modCrd_mem (s : State) (f : Crd → Crd) : (s.modCrd f).mem = s.mem := rfl
@[simp] theorem State.modCrd_nvm (s : State) (f : Crd → Crd) : (s.modCrd f).nvm = s.nvm := rfl
@[simp] theorem State.modCrd_cph (s : State) (f : Crd → Crd) : (s.modCrd f).cph = s.cph := rfl
@[simp] theorem State.modCrd_ntc (s : State) (f : Crd → Crd) : (s.modCrd f).ntc = s.ntc := rfl
@[simp] theorem State.modCrd_seq (s : State) (f : Crd → Crd) : (s.modCrd f).seq = s.seq := rfl
@[simp] theorem State.modCrd_tmr (s : State) (f : Crd → Crd) : (s.modCrd f).tmr = s.tmr := rfl
@[simp] theorem State.modCrd_crd (s : State) (f : Crd → Crd) : (s.modCrd f).crd = f s.crd := rfl
@[simp] theorem State.modCrd_lf (s : State) (f : Crd → Crd) : (s.modCrd f).lf = s.lf := rfl
@[simp] theorem State.modCrd_uhf (s : State) (f : Crd → Crd) : (s.modCrd f).uhf = s.uhf := rfl
@[simp] theorem State.modCrd_uwb (s : State) (f : Crd → Crd) : (s.modCrd f).uwb = s.uwb := rfl
@[simp] theorem State.modCrd_hrv (s : State) (f : Crd → Crd) : (s.modCrd f).hrv = s.hrv := rfl
@[simp] theorem State.modCrd_free (s : State) (f : Crd → Crd) : (s.modCrd f).free = s.free := rfl
@[simp] theorem State.modCrd_pending (s : State) (f : Crd → Crd) : (s.modCrd f).pending = s.pending := rfl

@[simp] theorem State.modUhf_sys (s : State) (f : Uhf → Uhf) : (s.modUhf f).sys = s.sys := rfl
@[simp] theorem State.modUhf_pwr (s : State) (f : Uhf → Uhf) : (s.modUhf f).pwr = s.pwr := rfl
@[simp] theorem State.modUhf_aon (s : State) (f : Uhf → Uhf) : (s.modUhf f).aon = s.aon := rfl
@[simp] theorem State.modUhf_hst (s : State) (f : Uhf → Uhf) : (s.modUhf f).hst = s.hst := rfl
@[simp] theorem State.modUhf_jrn (s : State) (f : Uhf → Uhf) : (s.modUhf f).jrn = s.jrn := rfl
@[simp] theorem State.modUhf_mem (s : State) (f : Uhf → Uhf) : (s.modUhf f).mem = s.mem := rfl
@[simp] theorem State.modUhf_nvm (s : State) (f : Uhf → Uhf) : (s.modUhf f).nvm = s.nvm := rfl
@[simp] theorem State.modUhf_cph (s : State) (f : Uhf → Uhf) : (s.modUhf f).cph = s.cph := rfl
@[simp] theorem State.modUhf_ntc (s : State) (f : Uhf → Uhf) : (s.modUhf f).ntc = s.ntc := rfl
@[simp] theorem State.modUhf_seq (s : State) (f : Uhf → Uhf) : (s.modUhf f).seq = s.seq := rfl
@[simp] theorem State.modUhf_tmr (s : State) (f : Uhf → Uhf) : (s.modUhf f).tmr = s.tmr := rfl
@[simp] theorem State.modUhf_crd (s : State) (f : Uhf → Uhf) : (s.modUhf f).crd = s.crd := rfl
@[simp] theorem State.modUhf_lf (s : State) (f : Uhf → Uhf) : (s.modUhf f).lf = s.lf := rfl
@[simp] theorem State.modUhf_uhf (s : State) (f : Uhf → Uhf) : (s.modUhf f).uhf = f s.uhf := rfl
@[simp] theorem State.modUhf_uwb (s : State) (f : Uhf → Uhf) : (s.modUhf f).uwb = s.uwb := rfl
@[simp] theorem State.modUhf_hrv (s : State) (f : Uhf → Uhf) : (s.modUhf f).hrv = s.hrv := rfl
@[simp] theorem State.modUhf_free (s : State) (f : Uhf → Uhf) : (s.modUhf f).free = s.free := rfl
@[simp] theorem State.modUhf_pending (s : State) (f : Uhf → Uhf) : (s.modUhf f).pending = s.pending := rfl

@[simp] theorem State.modUwb_sys (s : State) (f : Uwb → Uwb) : (s.modUwb f).sys = s.sys := rfl
@[simp] theorem State.modUwb_pwr (s : State) (f : Uwb → Uwb) : (s.modUwb f).pwr = s.pwr := rfl
@[simp] theorem State.modUwb_aon (s : State) (f : Uwb → Uwb) : (s.modUwb f).aon = s.aon := rfl
@[simp] theorem State.modUwb_hst (s : State) (f : Uwb → Uwb) : (s.modUwb f).hst = s.hst := rfl
@[simp] theorem State.modUwb_jrn (s : State) (f : Uwb → Uwb) : (s.modUwb f).jrn = s.jrn := rfl
@[simp] theorem State.modUwb_mem (s : State) (f : Uwb → Uwb) : (s.modUwb f).mem = s.mem := rfl
@[simp] theorem State.modUwb_nvm (s : State) (f : Uwb → Uwb) : (s.modUwb f).nvm = s.nvm := rfl
@[simp] theorem State.modUwb_cph (s : State) (f : Uwb → Uwb) : (s.modUwb f).cph = s.cph := rfl
@[simp] theorem State.modUwb_ntc (s : State) (f : Uwb → Uwb) : (s.modUwb f).ntc = s.ntc := rfl
@[simp] theorem State.modUwb_seq (s : State) (f : Uwb → Uwb) : (s.modUwb f).seq = s.seq := rfl
@[simp] theorem State.modUwb_tmr (s : State) (f : Uwb → Uwb) : (s.modUwb f).tmr = s.tmr := rfl
@[simp] theorem State.modUwb_crd (s : State) (f : Uwb → Uwb) : (s.modUwb f).crd = s.crd := rfl
@[simp] theorem State.modUwb_lf (s : State) (f : Uwb → Uwb) : (s.modUwb f).lf = s.lf := rfl
@[simp] theorem State.modUwb_uhf (s : State) (f : Uwb → Uwb) : (s.modUwb f).uhf = s.uhf := rfl
@[simp] theorem State.modUwb_uwb (s : State) (f : Uwb → Uwb) : (s.modUwb f).uwb = f s.uwb := rfl
@[simp] theorem State.modUwb_hrv (s : State) (f : Uwb → Uwb) : (s.modUwb f).hrv = s.hrv := rfl
@[simp] theorem State.modUwb_free (s : State) (f : Uwb → Uwb) : (s.modUwb f).free = s.free := rfl
@[simp] theorem State.modUwb_pending (s : State) (f : Uwb → Uwb) : (s.modUwb f).pending = s.pending := rfl

@[simp] theorem State.modHrv_sys (s : State) (f : Hrv → Hrv) : (s.modHrv f).sys = s.sys := rfl
@[simp] theorem State.modHrv_pwr (s : State) (f : Hrv → Hrv) : (s.modHrv f).pwr = s.pwr := rfl
@[simp] theorem State.modHrv_aon (s : State) (f : Hrv → Hrv) : (s.modHrv f).aon = s.aon := rfl
@[simp] theorem State.modHrv_hst (s : State) (f : Hrv → Hrv) : (s.modHrv f).hst = s.hst := rfl
@[simp] theorem State.modHrv_jrn (s : State) (f : Hrv → Hrv) : (s.modHrv f).jrn = s.jrn := rfl
@[simp] theorem State.modHrv_mem (s : State) (f : Hrv → Hrv) : (s.modHrv f).mem = s.mem := rfl
@[simp] theorem State.modHrv_nvm (s : State) (f : Hrv → Hrv) : (s.modHrv f).nvm = s.nvm := rfl
@[simp] theorem State.modHrv_cph (s : State) (f : Hrv → Hrv) : (s.modHrv f).cph = s.cph := rfl
@[simp] theorem State.modHrv_ntc (s : State) (f : Hrv → Hrv) : (s.modHrv f).ntc = s.ntc := rfl
@[simp] theorem State.modHrv_seq (s : State) (f : Hrv → Hrv) : (s.modHrv f).seq = s.seq := rfl
@[simp] theorem State.modHrv_tmr (s : State) (f : Hrv → Hrv) : (s.modHrv f).tmr = s.tmr := rfl
@[simp] theorem State.modHrv_crd (s : State) (f : Hrv → Hrv) : (s.modHrv f).crd = s.crd := rfl
@[simp] theorem State.modHrv_lf (s : State) (f : Hrv → Hrv) : (s.modHrv f).lf = s.lf := rfl
@[simp] theorem State.modHrv_uhf (s : State) (f : Hrv → Hrv) : (s.modHrv f).uhf = s.uhf := rfl
@[simp] theorem State.modHrv_uwb (s : State) (f : Hrv → Hrv) : (s.modHrv f).uwb = s.uwb := rfl
@[simp] theorem State.modHrv_hrv (s : State) (f : Hrv → Hrv) : (s.modHrv f).hrv = f s.hrv := rfl
@[simp] theorem State.modHrv_free (s : State) (f : Hrv → Hrv) : (s.modHrv f).free = s.free := rfl
@[simp] theorem State.modHrv_pending (s : State) (f : Hrv → Hrv) : (s.modHrv f).pending = s.pending := rfl

@[simp] theorem State.modRx_sys (s : State) (n : Fin 4) (f : Receiver → Receiver) : (s.modRx n f).sys = s.sys := rfl
@[simp] theorem State.modRx_pwr (s : State) (n : Fin 4) (f : Receiver → Receiver) : (s.modRx n f).pwr = s.pwr := rfl
@[simp] theorem State.modRx_aon (s : State) (n : Fin 4) (f : Receiver → Receiver) : (s.modRx n f).aon = s.aon := rfl
@[simp] theorem State.modRx_hst (s : State) (n : Fin 4) (f : Receiver → Receiver) : (s.modRx n f).hst = s.hst := rfl
@[simp] theorem State.modRx_jrn (s : State) (n : Fin 4) (f : Receiver → Receiver) : (s.modRx n f).jrn = s.jrn := rfl
@[simp] theorem State.modRx_mem (s : State) (n : Fin 4) (f : Receiver → Receiver) : (s.modRx n f).mem = s.mem := rfl
@[simp] theorem State.modRx_nvm (s : State) (n : Fin 4) (f : Receiver → Receiver) : (s.modRx n f).nvm = s.nvm := rfl
@[simp] theorem State.modRx_cph (s : State) (n : Fin 4) (f : Receiver → Receiver) : (s.modRx n f).cph = s.cph := rfl
@[simp] theorem State.modRx_ntc (s : State) (n : Fin 4) (f : Receiver → Receiver) : (s.modRx n f).ntc = s.ntc := rfl
@[simp] theorem State.modRx_seq (s : State) (n : Fin 4) (f : Receiver → Receiver) : (s.modRx n f).seq = s.seq := rfl
@[simp] theorem State.modRx_tmr (s : State) (n : Fin 4) (f : Receiver → Receiver) : (s.modRx n f).tmr = s.tmr := rfl
@[simp] theorem State.modRx_crd (s : State) (n : Fin 4) (f : Receiver → Receiver) : (s.modRx n f).crd = s.crd := rfl
@[simp] theorem State.modRx_lf (s : State) (n : Fin 4) (f : Receiver → Receiver) : (s.modRx n f).lf = s.lf := rfl
@[simp] theorem State.modRx_uhf (s : State) (n : Fin 4) (f : Receiver → Receiver) : (s.modRx n f).uhf = s.uhf := rfl
@[simp] theorem State.modRx_uwb (s : State) (n : Fin 4) (f : Receiver → Receiver) : (s.modRx n f).uwb = s.uwb := rfl
@[simp] theorem State.modRx_hrv (s : State) (n : Fin 4) (f : Receiver → Receiver) : (s.modRx n f).hrv = { s.hrv with rx := s.hrv.rx.set n (f s.hrv.rx[n]) } := rfl
@[simp] theorem State.modRx_free (s : State) (n : Fin 4) (f : Receiver → Receiver) : (s.modRx n f).free = s.free := rfl
@[simp] theorem State.modRx_pending (s : State) (n : Fin 4) (f : Receiver → Receiver) : (s.modRx n f).pending = s.pending := rfl

@[simp] theorem State.modDriver_sys (s : State) (n : Fin 2) (f : Driver → Driver) : (s.modDriver n f).sys = s.sys := rfl
@[simp] theorem State.modDriver_pwr (s : State) (n : Fin 2) (f : Driver → Driver) : (s.modDriver n f).pwr = s.pwr := rfl
@[simp] theorem State.modDriver_aon (s : State) (n : Fin 2) (f : Driver → Driver) : (s.modDriver n f).aon = s.aon := rfl
@[simp] theorem State.modDriver_hst (s : State) (n : Fin 2) (f : Driver → Driver) : (s.modDriver n f).hst = s.hst := rfl
@[simp] theorem State.modDriver_jrn (s : State) (n : Fin 2) (f : Driver → Driver) : (s.modDriver n f).jrn = s.jrn := rfl
@[simp] theorem State.modDriver_mem (s : State) (n : Fin 2) (f : Driver → Driver) : (s.modDriver n f).mem = s.mem := rfl
@[simp] theorem State.modDriver_nvm (s : State) (n : Fin 2) (f : Driver → Driver) : (s.modDriver n f).nvm = s.nvm := rfl
@[simp] theorem State.modDriver_cph (s : State) (n : Fin 2) (f : Driver → Driver) : (s.modDriver n f).cph = s.cph := rfl
@[simp] theorem State.modDriver_ntc (s : State) (n : Fin 2) (f : Driver → Driver) : (s.modDriver n f).ntc = s.ntc := rfl
@[simp] theorem State.modDriver_seq (s : State) (n : Fin 2) (f : Driver → Driver) : (s.modDriver n f).seq = s.seq := rfl
@[simp] theorem State.modDriver_tmr (s : State) (n : Fin 2) (f : Driver → Driver) : (s.modDriver n f).tmr = s.tmr := rfl
@[simp] theorem State.modDriver_crd (s : State) (n : Fin 2) (f : Driver → Driver) : (s.modDriver n f).crd = s.crd := rfl
@[simp] theorem State.modDriver_lf (s : State) (n : Fin 2) (f : Driver → Driver) : (s.modDriver n f).lf = s.lf := rfl
@[simp] theorem State.modDriver_uhf (s : State) (n : Fin 2) (f : Driver → Driver) : (s.modDriver n f).uhf = s.uhf := rfl
@[simp] theorem State.modDriver_uwb (s : State) (n : Fin 2) (f : Driver → Driver) : (s.modDriver n f).uwb = s.uwb := rfl
@[simp] theorem State.modDriver_hrv (s : State) (n : Fin 2) (f : Driver → Driver) : (s.modDriver n f).hrv = { s.hrv with drivers := s.hrv.drivers.set n (f s.hrv.drivers[n]) } := rfl
@[simp] theorem State.modDriver_free (s : State) (n : Fin 2) (f : Driver → Driver) : (s.modDriver n f).free = s.free := rfl
@[simp] theorem State.modDriver_pending (s : State) (n : Fin 2) (f : Driver → Driver) : (s.modDriver n f).pending = s.pending := rfl

@[simp] theorem State.modSeq_sys (s : State) (n : Fin 3) (f : Seq → Seq) : (s.modSeq n f).sys = s.sys := rfl
@[simp] theorem State.modSeq_pwr (s : State) (n : Fin 3) (f : Seq → Seq) : (s.modSeq n f).pwr = s.pwr := rfl
@[simp] theorem State.modSeq_aon (s : State) (n : Fin 3) (f : Seq → Seq) : (s.modSeq n f).aon = s.aon := rfl
@[simp] theorem State.modSeq_hst (s : State) (n : Fin 3) (f : Seq → Seq) : (s.modSeq n f).hst = s.hst := rfl
@[simp] theorem State.modSeq_jrn (s : State) (n : Fin 3) (f : Seq → Seq) : (s.modSeq n f).jrn = s.jrn := rfl
@[simp] theorem State.modSeq_mem (s : State) (n : Fin 3) (f : Seq → Seq) : (s.modSeq n f).mem = s.mem := rfl
@[simp] theorem State.modSeq_nvm (s : State) (n : Fin 3) (f : Seq → Seq) : (s.modSeq n f).nvm = s.nvm := rfl
@[simp] theorem State.modSeq_cph (s : State) (n : Fin 3) (f : Seq → Seq) : (s.modSeq n f).cph = s.cph := rfl
@[simp] theorem State.modSeq_ntc (s : State) (n : Fin 3) (f : Seq → Seq) : (s.modSeq n f).ntc = s.ntc := rfl
@[simp] theorem State.modSeq_seq (s : State) (n : Fin 3) (f : Seq → Seq) : (s.modSeq n f).seq = { s.seq with seqs := s.seq.seqs.set n (f (s.sq n)) } := rfl
@[simp] theorem State.modSeq_tmr (s : State) (n : Fin 3) (f : Seq → Seq) : (s.modSeq n f).tmr = s.tmr := rfl
@[simp] theorem State.modSeq_crd (s : State) (n : Fin 3) (f : Seq → Seq) : (s.modSeq n f).crd = s.crd := rfl
@[simp] theorem State.modSeq_lf (s : State) (n : Fin 3) (f : Seq → Seq) : (s.modSeq n f).lf = s.lf := rfl
@[simp] theorem State.modSeq_uhf (s : State) (n : Fin 3) (f : Seq → Seq) : (s.modSeq n f).uhf = s.uhf := rfl
@[simp] theorem State.modSeq_uwb (s : State) (n : Fin 3) (f : Seq → Seq) : (s.modSeq n f).uwb = s.uwb := rfl
@[simp] theorem State.modSeq_hrv (s : State) (n : Fin 3) (f : Seq → Seq) : (s.modSeq n f).hrv = s.hrv := rfl
@[simp] theorem State.modSeq_free (s : State) (n : Fin 3) (f : Seq → Seq) : (s.modSeq n f).free = s.free := rfl
@[simp] theorem State.modSeq_pending (s : State) (n : Fin 3) (f : Seq → Seq) : (s.modSeq n f).pending = s.pending := rfl

@[simp] theorem State.modTrig_sys (s : State) (n : Fin 16) (f : TrigSlot → TrigSlot) : (s.modTrig n f).sys = s.sys := rfl
@[simp] theorem State.modTrig_pwr (s : State) (n : Fin 16) (f : TrigSlot → TrigSlot) : (s.modTrig n f).pwr = s.pwr := rfl
@[simp] theorem State.modTrig_aon (s : State) (n : Fin 16) (f : TrigSlot → TrigSlot) : (s.modTrig n f).aon = s.aon := rfl
@[simp] theorem State.modTrig_hst (s : State) (n : Fin 16) (f : TrigSlot → TrigSlot) : (s.modTrig n f).hst = s.hst := rfl
@[simp] theorem State.modTrig_jrn (s : State) (n : Fin 16) (f : TrigSlot → TrigSlot) : (s.modTrig n f).jrn = s.jrn := rfl
@[simp] theorem State.modTrig_mem (s : State) (n : Fin 16) (f : TrigSlot → TrigSlot) : (s.modTrig n f).mem = s.mem := rfl
@[simp] theorem State.modTrig_nvm (s : State) (n : Fin 16) (f : TrigSlot → TrigSlot) : (s.modTrig n f).nvm = s.nvm := rfl
@[simp] theorem State.modTrig_cph (s : State) (n : Fin 16) (f : TrigSlot → TrigSlot) : (s.modTrig n f).cph = s.cph := rfl
@[simp] theorem State.modTrig_ntc (s : State) (n : Fin 16) (f : TrigSlot → TrigSlot) : (s.modTrig n f).ntc = { s.ntc with trig := s.ntc.trig.set n (f s.ntc.trig[n]) } := rfl
@[simp] theorem State.modTrig_seq (s : State) (n : Fin 16) (f : TrigSlot → TrigSlot) : (s.modTrig n f).seq = s.seq := rfl
@[simp] theorem State.modTrig_tmr (s : State) (n : Fin 16) (f : TrigSlot → TrigSlot) : (s.modTrig n f).tmr = s.tmr := rfl
@[simp] theorem State.modTrig_crd (s : State) (n : Fin 16) (f : TrigSlot → TrigSlot) : (s.modTrig n f).crd = s.crd := rfl
@[simp] theorem State.modTrig_lf (s : State) (n : Fin 16) (f : TrigSlot → TrigSlot) : (s.modTrig n f).lf = s.lf := rfl
@[simp] theorem State.modTrig_uhf (s : State) (n : Fin 16) (f : TrigSlot → TrigSlot) : (s.modTrig n f).uhf = s.uhf := rfl
@[simp] theorem State.modTrig_uwb (s : State) (n : Fin 16) (f : TrigSlot → TrigSlot) : (s.modTrig n f).uwb = s.uwb := rfl
@[simp] theorem State.modTrig_hrv (s : State) (n : Fin 16) (f : TrigSlot → TrigSlot) : (s.modTrig n f).hrv = s.hrv := rfl
@[simp] theorem State.modTrig_free (s : State) (n : Fin 16) (f : TrigSlot → TrigSlot) : (s.modTrig n f).free = s.free := rfl
@[simp] theorem State.modTrig_pending (s : State) (n : Fin 16) (f : TrigSlot → TrigSlot) : (s.modTrig n f).pending = s.pending := rfl

@[simp] theorem State.setTim_sys (s : State) (n : Fin 32) (x : Timer) : (s.setTim n x).sys = s.sys := rfl
@[simp] theorem State.setTim_pwr (s : State) (n : Fin 32) (x : Timer) : (s.setTim n x).pwr = s.pwr := rfl
@[simp] theorem State.setTim_aon (s : State) (n : Fin 32) (x : Timer) : (s.setTim n x).aon = s.aon := rfl
@[simp] theorem State.setTim_hst (s : State) (n : Fin 32) (x : Timer) : (s.setTim n x).hst = s.hst := rfl
@[simp] theorem State.setTim_jrn (s : State) (n : Fin 32) (x : Timer) : (s.setTim n x).jrn = s.jrn := rfl
@[simp] theorem State.setTim_mem (s : State) (n : Fin 32) (x : Timer) : (s.setTim n x).mem = s.mem := rfl
@[simp] theorem State.setTim_nvm (s : State) (n : Fin 32) (x : Timer) : (s.setTim n x).nvm = s.nvm := rfl
@[simp] theorem State.setTim_cph (s : State) (n : Fin 32) (x : Timer) : (s.setTim n x).cph = s.cph := rfl
@[simp] theorem State.setTim_ntc (s : State) (n : Fin 32) (x : Timer) : (s.setTim n x).ntc = s.ntc := rfl
@[simp] theorem State.setTim_seq (s : State) (n : Fin 32) (x : Timer) : (s.setTim n x).seq = s.seq := rfl
@[simp] theorem State.setTim_tmr (s : State) (n : Fin 32) (x : Timer) : (s.setTim n x).tmr = { s.tmr with timers := s.tmr.timers.set n x } := rfl
@[simp] theorem State.setTim_crd (s : State) (n : Fin 32) (x : Timer) : (s.setTim n x).crd = s.crd := rfl
@[simp] theorem State.setTim_lf (s : State) (n : Fin 32) (x : Timer) : (s.setTim n x).lf = s.lf := rfl
@[simp] theorem State.setTim_uhf (s : State) (n : Fin 32) (x : Timer) : (s.setTim n x).uhf = s.uhf := rfl
@[simp] theorem State.setTim_uwb (s : State) (n : Fin 32) (x : Timer) : (s.setTim n x).uwb = s.uwb := rfl
@[simp] theorem State.setTim_hrv (s : State) (n : Fin 32) (x : Timer) : (s.setTim n x).hrv = s.hrv := rfl
@[simp] theorem State.setTim_free (s : State) (n : Fin 32) (x : Timer) : (s.setTim n x).free = s.free := rfl
@[simp] theorem State.setTim_pending (s : State) (n : Fin 32) (x : Timer) : (s.setTim n x).pending = s.pending := rfl

@[simp] theorem State.modSess_sys (s : State) (n : Fin 8) (f : Session → Session) : (s.modSess n f).sys = s.sys := rfl
@[simp] theorem State.modSess_pwr (s : State) (n : Fin 8) (f : Session → Session) : (s.modSess n f).pwr = s.pwr := rfl
@[simp] theorem State.modSess_aon (s : State) (n : Fin 8) (f : Session → Session) : (s.modSess n f).aon = s.aon := rfl
@[simp] theorem State.modSess_hst (s : State) (n : Fin 8) (f : Session → Session) : (s.modSess n f).hst = s.hst := rfl
@[simp] theorem State.modSess_jrn (s : State) (n : Fin 8) (f : Session → Session) : (s.modSess n f).jrn = s.jrn := rfl
@[simp] theorem State.modSess_mem (s : State) (n : Fin 8) (f : Session → Session) : (s.modSess n f).mem = s.mem := rfl
@[simp] theorem State.modSess_nvm (s : State) (n : Fin 8) (f : Session → Session) : (s.modSess n f).nvm = s.nvm := rfl
@[simp] theorem State.modSess_cph (s : State) (n : Fin 8) (f : Session → Session) : (s.modSess n f).cph = s.cph := rfl
@[simp] theorem State.modSess_ntc (s : State) (n : Fin 8) (f : Session → Session) : (s.modSess n f).ntc = s.ntc := rfl
@[simp] theorem State.modSess_seq (s : State) (n : Fin 8) (f : Session → Session) : (s.modSess n f).seq = s.seq := rfl
@[simp] theorem State.modSess_tmr (s : State) (n : Fin 8) (f : Session → Session) : (s.modSess n f).tmr = s.tmr := rfl
@[simp] theorem State.modSess_crd (s : State) (n : Fin 8) (f : Session → Session) : (s.modSess n f).crd = s.crd := rfl
@[simp] theorem State.modSess_lf (s : State) (n : Fin 8) (f : Session → Session) : (s.modSess n f).lf = s.lf := rfl
@[simp] theorem State.modSess_uhf (s : State) (n : Fin 8) (f : Session → Session) : (s.modSess n f).uhf = s.uhf := rfl
@[simp] theorem State.modSess_uwb (s : State) (n : Fin 8) (f : Session → Session) : (s.modSess n f).uwb = { s.uwb with sessions := s.uwb.sessions.set n (f s.uwb.sessions[n]) } := rfl
@[simp] theorem State.modSess_hrv (s : State) (n : Fin 8) (f : Session → Session) : (s.modSess n f).hrv = s.hrv := rfl
@[simp] theorem State.modSess_free (s : State) (n : Fin 8) (f : Session → Session) : (s.modSess n f).free = s.free := rfl
@[simp] theorem State.modSess_pending (s : State) (n : Fin 8) (f : Session → Session) : (s.modSess n f).pending = s.pending := rfl

@[simp] theorem State.critWritten_sys (s : State) (w n : Nat) : (s.critWritten w n).sys = s.sys := rfl
@[simp] theorem State.critWritten_pwr (s : State) (w n : Nat) : (s.critWritten w n).pwr = s.pwr := rfl
@[simp] theorem State.critWritten_aon (s : State) (w n : Nat) : (s.critWritten w n).aon = s.aon := rfl
@[simp] theorem State.critWritten_hst (s : State) (w n : Nat) : (s.critWritten w n).hst = s.hst := rfl
@[simp] theorem State.critWritten_jrn (s : State) (w n : Nat) : (s.critWritten w n).jrn = s.jrn := rfl
@[simp] theorem State.critWritten_mem (s : State) (w n : Nat) : (s.critWritten w n).mem = { s.mem with critDiff := alCut (3 * w) (3 * n) s.mem.critDiff } := rfl
@[simp] theorem State.critWritten_nvm (s : State) (w n : Nat) : (s.critWritten w n).nvm = s.nvm := rfl
@[simp] theorem State.critWritten_cph (s : State) (w n : Nat) : (s.critWritten w n).cph = s.cph := rfl
@[simp] theorem State.critWritten_ntc (s : State) (w n : Nat) : (s.critWritten w n).ntc = s.ntc := rfl
@[simp] theorem State.critWritten_seq (s : State) (w n : Nat) : (s.critWritten w n).seq = s.seq := rfl
@[simp] theorem State.critWritten_tmr (s : State) (w n : Nat) : (s.critWritten w n).tmr = s.tmr := rfl
@[simp] theorem State.critWritten_crd (s : State) (w n : Nat) : (s.critWritten w n).crd = s.crd := rfl
@[simp] theorem State.critWritten_lf (s : State) (w n : Nat) : (s.critWritten w n).lf = s.lf := rfl
@[simp] theorem State.critWritten_uhf (s : State) (w n : Nat) : (s.critWritten w n).uhf = s.uhf := rfl
@[simp] theorem State.critWritten_uwb (s : State) (w n : Nat) : (s.critWritten w n).uwb = s.uwb := rfl
@[simp] theorem State.critWritten_hrv (s : State) (w n : Nat) : (s.critWritten w n).hrv = s.hrv := rfl
@[simp] theorem State.critWritten_free (s : State) (w n : Nat) : (s.critWritten w n).free = s.free := rfl
@[simp] theorem State.critWritten_pending (s : State) (w n : Nat) : (s.critWritten w n).pending = s.pending := rfl

end Sys2Proof.Machine
end

