-- ==== Sys2Proof/Laws/Memory.lean ====
section
/-!
SUPPORT. Sparse lists in canonical form, and what a write to working memory or to the store leaves: a read after a write to the same place
gives the value, every other place keeps its own, and the form is kept.
-/
namespace Sys2Proof.Machine

open Sys2Proof

/-- Every key of the list is above `a`. -/
def alAbove {α : Type} (a : Nat) (l : List (Nat × α)) : Prop := ∀ kv ∈ l, a < kv.1

theorem keysRise_cons {α : Type} (k : Nat) (v : α) (l : List (Nat × α)) : keysRise ((k, v) :: l) = true ↔ alAbove k l ∧ keysRise l = true := by
  induction l generalizing k v with
  | nil => simp [keysRise, alAbove]
  | cons x r ih =>
    obtain ⟨k', v'⟩ := x
    simp only [keysRise, Bool.and_eq_true, decide_eq_true_eq]
    constructor
    · rintro ⟨h, hr⟩
      refine ⟨?_, hr⟩
      intro kv hm
      rcases List.mem_cons.1 hm with rfl | hm
      · exact h
      · exact Nat.lt_trans h (((ih k' v').1 hr).1 kv hm)
    · rintro ⟨h, hr⟩
      exact ⟨h (k', v') (by simp), hr⟩

theorem alGet_above {α : Type} (d : α) (a : Nat) (l : List (Nat × α)) (h : alAbove a l) : alGet d l a = d := by
  induction l with
  | nil => rfl
  | cons x r ih =>
    obtain ⟨k, v⟩ := x
    have hk : a < k := h (k, v) (by simp)
    simp only [alGet]
    rw [if_neg (by omega)]
    exact ih (fun kv hm => h kv (List.mem_cons_of_mem _ hm))

theorem alPut_mem {α : Type} [DecidableEq α] (d : α) (a : Nat) (x : α) (l : List (Nat × α)) :
    ∀ kv ∈ alPut d a x l, kv ∈ l ∨ (kv = (a, x) ∧ x ≠ d) := by
  induction l with
  | nil =>
    intro kv hm
    simp only [alPut] at hm
    split at hm
    · cases hm
    · rename_i hx
      exact Or.inr ⟨List.mem_singleton.1 hm, hx⟩
  | cons y r ih =>
    obtain ⟨k, v⟩ := y
    intro kv hm
    simp only [alPut] at hm
    split at hm
    · split at hm
      · exact Or.inl hm
      · rename_i hx
        rcases List.mem_cons.1 hm with rfl | hm
        · exact Or.inr ⟨rfl, hx⟩
        · exact Or.inl hm
    · split at hm
      · split at hm
        · exact Or.inl (List.mem_cons_of_mem _ hm)
        · rename_i hx
          rcases List.mem_cons.1 hm with rfl | hm
          · exact Or.inr ⟨rfl, hx⟩
          · exact Or.inl (List.mem_cons_of_mem _ hm)
      · rcases List.mem_cons.1 hm with rfl | hm
        · exact Or.inl (by simp)
        · rcases ih kv hm with h | h
          · exact Or.inl (List.mem_cons_of_mem _ h)
          · exact Or.inr h

/-- Writing keeps the keys rising. -/
theorem alPut_rise {α : Type} [DecidableEq α] (d : α) (a : Nat) (x : α) (l : List (Nat × α)) (h : keysRise l = true) :
    keysRise (alPut d a x l) = true := by
  induction l with
  | nil => simp only [alPut]; split <;> rfl
  | cons y r ih =>
    obtain ⟨k, v⟩ := y
    obtain ⟨ha, hr⟩ := (keysRise_cons k v r).1 h
    simp only [alPut]
    split
    · rename_i hlt
      split
      · exact h
      · refine (keysRise_cons _ _ _).2 ⟨?_, h⟩
        intro kv hm
        rcases List.mem_cons.1 hm with rfl | hm
        · exact hlt
        · exact Nat.lt_trans hlt (ha kv hm)
    · split
      · rename_i he
        subst he
        split
        · exact hr
        · exact (keysRise_cons _ _ _).2 ⟨ha, hr⟩
      · refine (keysRise_cons _ _ _).2 ⟨?_, ih hr⟩
        intro kv hm
        rcases alPut_mem d a x r kv hm with hm | ⟨rfl, -⟩
        · exact ha kv hm
        · simp only; omega

/-- A write leaves what every other place reads as, whatever the list. -/
theorem alGet_alPut_ne {α : Type} [DecidableEq α] (d e : α) {a c : Nat} (hc : c ≠ a) (b : α) (l : List (Nat × α)) :
    alGet d (alPut e a b l) c = alGet d l c := by
  induction l with
  | nil =>
    simp only [alPut]
    split
    · rfl
    · simp [alGet, hc]
  | cons y r ih =>
    obtain ⟨k, v⟩ := y
    simp only [alPut]
    split
    · split
      · rfl
      · simp [alGet, hc]
    · split
      · rename_i he
        subst he
        split
        · simp [alGet, hc]
        · simp [alGet, hc]
      · simp only [alGet, ih]

/-- A read after a write: the value at the place written, what stood there before at every other. -/
theorem alGet_alPut {α : Type} [DecidableEq α] (d : α) (a b : Nat) (x : α) (l : List (Nat × α)) (h : keysRise l = true) :
    alGet d (alPut d a x l) b = if b = a then x else alGet d l b := by
  induction l with
  | nil =>
    simp only [alPut]
    split
    · rename_i hx; subst hx; simp [alGet]
    · simp [alGet]
  | cons y r ih =>
    obtain ⟨k, v⟩ := y
    obtain ⟨ha, hr⟩ := (keysRise_cons k v r).1 h
    simp only [alPut]
    split
    · rename_i hlt
      split
      · rename_i hx
        subst hx
        by_cases e : b = a
        · subst e
          rw [if_pos rfl]
          refine alGet_above _ _ _ ?_
          intro kv hm
          rcases List.mem_cons.1 hm with rfl | hm
          · exact hlt
          · exact Nat.lt_trans hlt (ha kv hm)
        · rw [if_neg e]
      · rfl
    · split
      · rename_i he
        subst he
        split
        · rename_i hx
          subst hx
          by_cases e : b = a
          · subst e; rw [if_pos rfl]; exact alGet_above _ _ _ ha
          · rw [if_neg e]; simp only [alGet]; rw [if_neg e]
        · simp only [alGet]
          by_cases e : b = a
          · simp [e]
          · simp [e]
      · simp only [alGet, ih hr]
        by_cases e : b = k
        · subst e
          rw [if_pos rfl]
          have : ¬ b = a := fun e => by subst e; omega
          simp [this]
        · simp [e]

/-- No key in a range: the range reads as unlisted. -/
theorem alGet_alCut {α : Type} (d : α) (lo n b : Nat) (l : List (Nat × α)) :
    alGet d (alCut lo n l) b = if lo ≤ b ∧ b < lo + n then d else alGet d l b := by
  induction l with
  | nil => simp [alCut, alGet]
  | cons y r ih =>
    obtain ⟨k, v⟩ := y
    simp only [alCut, List.filter_cons] at ih ⊢
    by_cases hk : k < lo ∨ lo + n ≤ k
    · rw [if_pos (by simpa using hk)]
      simp only [alGet, ih]
      by_cases e : b = k
      · subst e
        rw [if_pos rfl, if_pos rfl, if_neg (by omega)]
      · simp [e]
    · rw [if_neg (by simpa using hk)]
      rw [ih]
      simp only [alGet]
      by_cases e : b = k
      · subst e
        rw [if_pos (by omega), if_pos (by omega)]
      · simp [e]

theorem filter_rise {α : Type} (f : Nat × α → Bool) (l : List (Nat × α)) (h : keysRise l = true) : keysRise (l.filter f) = true := by
  induction l with
  | nil => rfl
  | cons y r ih =>
    obtain ⟨k, v⟩ := y
    obtain ⟨ha, hr⟩ := (keysRise_cons k v r).1 h
    rw [List.filter_cons]
    split
    · refine (keysRise_cons _ _ _).2 ⟨?_, ih hr⟩
      intro kv hm
      exact ha kv (List.mem_filter.1 hm).1
    · exact ih hr

theorem alCut_rise {α : Type} (lo n : Nat) (l : List (Nat × α)) (h : keysRise l = true) : keysRise (alCut lo n l) = true := filter_rise _ l h

theorem alPart_rise {α : Type} (lo n : Nat) (l : List (Nat × α)) (h : keysRise l = true) : keysRise (alPart lo n l) = true := filter_rise _ l h

/-! ## Working memory -/

theorem Mem.wf_iff (m : Mem) : m.wf = true ↔ keysRise m.cells = true ∧ ∀ kv ∈ m.cells, kv.2 ≠ m.fillAt kv.1 ∧ kv.1 < 393216 := by
  simp [Mem.wf, List.all_eq_true]

@[simp] theorem Mem.poke_map (m : Mem) (a : Nat) (b : BitVec 47) : (m.poke a b).map = m.map := rfl
@[simp] theorem Mem.poke_fill (m : Mem) (a : Nat) (b : BitVec 47) : (m.poke a b).fill = m.fill := rfl
@[simp] theorem Mem.poke_phys (m : Mem) (a c : Nat) (b : BitVec 47) : (m.poke a b).phys c = m.phys c := rfl
@[simp] theorem Mem.poke_fillAt (m : Mem) (a c : Nat) (b : BitVec 47) : (m.poke a b).fillAt c = m.fillAt c := rfl

/-- R416: a write keeps the canonical form. -/
theorem Mem.poke_wf (m : Mem) (a : Nat) (b : BitVec 47) (h : m.wf = true) (ha : m.phys a < 393216) : (m.poke a b).wf = true := by
  rw [Mem.wf_iff] at h ⊢
  refine ⟨alPut_rise _ _ _ _ h.1, ?_⟩
  intro kv hm
  rcases alPut_mem _ _ _ _ kv hm with hm | ⟨rfl, hx⟩
  · exact h.2 kv hm
  · exact ⟨hx, ha⟩

/-- A read after a write: the word at the physical place written, and every other word as it was. -/
theorem Mem.stored_poke (m : Mem) (a c : Nat) (b : BitVec 47) (h : keysRise m.cells = true) :
    (m.poke a b).stored c = if m.phys c = m.phys a then b else m.stored c := by
  simp only [Mem.stored, Mem.poke_phys, Mem.poke_fillAt]
  by_cases e : m.phys c = m.phys a
  · rw [if_pos e, e]
    show alGet _ (alPut _ _ _ _) _ = b
    rw [alGet_alPut _ _ _ _ _ h, if_pos rfl]
  · rw [if_neg e]
    show alGet (m.fillAt (m.phys c)) (alPut (m.fillAt (m.phys a)) (m.phys a) b m.cells) (m.phys c) = _
    exact alGet_alPut_ne _ _ e _ _
theorem Mem.RingOnly.rfl' (m : Mem) : m.RingOnly m := ⟨rfl, fun _ _ _ => rfl⟩

theorem Mem.RingOnly.map {m m' : Mem} (h : m.RingOnly m') : m'.map = m.map := by rw [h.rest]

theorem Mem.phys_map (m m' : Mem) (h : m'.map = m.map) (a : Nat) : m'.phys a = m.phys a := by simp only [Mem.phys, h]

theorem Mem.RingOnly.trans {a b c : Mem} (h : a.RingOnly b) (k : b.RingOnly c) : a.RingOnly c := by
  have hb : b.ringBank = a.ringBank := by simp only [Mem.ringBank, Mem.phys_map _ _ h.map]
  refine ⟨?_, fun d pa hp => ?_⟩
  · rw [k.rest, h.rest]
  · rw [k.cells d pa (by rw [hb]; exact hp), h.cells d pa hp]

theorem Mem.ringOnly_poke (m : Mem) (a : Nat) (b : BitVec 47) (h : a / 16384 = 7) : m.RingOnly (m.poke a b) := by
  refine ⟨rfl, fun d pa hp => ?_⟩
  refine alGet_alPut_ne _ _ ?_ _ _
  rintro rfl
  apply hp
  simp only [Mem.ringBank, Mem.phys, h]
  simp
  omega

theorem Mem.ringOnly_write (m : Mem) (a : Nat) (w : Word) (h : a / 16384 = 7) : m.RingOnly (m.write a w) := m.ringOnly_poke a _ h

theorem Mem.ringOnly_writeRun (ws : List Word) : ∀ (m : Mem) (a : Nat), a / 16384 = 7 → (a + ws.length) ≤ 8 * 16384 → m.RingOnly (m.writeRun a ws) := by
  induction ws with
  | nil => exact fun m _ _ _ => .rfl' m
  | cons w r ih =>
    intro m a h hl
    simp only [List.length_cons] at hl
    refine (m.ringOnly_write a w h).trans ?_
    cases r with
    | nil => exact .rfl' _
    | cons x y =>
      refine ih _ (a + 1) ?_ (by omega)
      simp only [List.length_cons] at hl
      omega

theorem Entry.words_length (e : Entry) : e.words.length = 5 := rfl

theorem Mem.ringOnly_ring (m : Mem) (k : Nat) (hk : k < 2048) (e : Entry) : m.RingOnly (m.writeRun (ringAddr k) e.words) := by
  refine Mem.ringOnly_writeRun _ _ _ ?_ ?_
  · simp only [ringAddr]; omega
  · rw [Entry.words_length]; simp only [ringAddr]; omega

/-- A word of another bank is as it was. -/
theorem Mem.RingOnly.stored {m m' : Mem} (h : m.RingOnly m') (a : Nat) (ha : m.phys a / 16384 ≠ m.ringBank) : m'.stored a = m.stored a := by
  simp only [Mem.stored, Mem.phys_map _ _ h.map]
  rw [h.cells _ _ ha]
  have : m'.fillAt (m.phys a) = m.fillAt (m.phys a) := by rw [h.rest]; rfl
  rw [this]

end Sys2Proof.Machine
end

