-- ==== Sys2Proof/Laws/Packet.lean ====
section
/-!
SUPPORT. The octets of numbers, and the packet that a command row stands for.
-/
namespace Sys2Proof

theorem leOf_length (n v : Nat) : (leOf n v).length = n := by
  induction n generalizing v with
  | zero => rfl
  | succ n ih => simp [leOf, ih]

theorem natOf_leOf (n v : Nat) : natOf (leOf n v) = v % 256 ^ n := by
  induction n generalizing v with
  | zero => simp [leOf, natOf, Nat.mod_one]
  | succ n ih =>
    have h : 256 ^ (n + 1) = 256 * 256 ^ n := by rw [Nat.pow_succ, Nat.mul_comm]
    have h8 : 2 ^ 8 = 256 := rfl
    simp only [leOf, natOf, ih, BitVec.toNat_ofNat]
    rw [h, Nat.mod_mul, h8]

theorem natOf_lt (os : Octets) : natOf os < 256 ^ os.length := by
  induction os with
  | nil => simp [natOf]
  | cons o r ih =>
    simp only [natOf, List.length_cons, Nat.pow_succ]
    have := o.isLt
    omega

namespace Machine

/-- The header octets written out. -/
theorem headerOctets_eq (v c q o f l : Nat) : headerOctets v c q o f l =
    [BitVec.ofNat 8 v, BitVec.ofNat 8 c, BitVec.ofNat 8 q, BitVec.ofNat 8 (q / 256), BitVec.ofNat 8 o, BitVec.ofNat 8 (o / 256),
     BitVec.ofNat 8 f, BitVec.ofNat 8 l, BitVec.ofNat 8 (l / 256), 0, 0, 0] := rfl

theorem headerOctets_length (v c q o f l : Nat) : (headerOctets v c q o f l).length = 12 := rfl

theorem Op.ofCode_code (op : Op) : Op.ofCode op.code = some op := by cases op <;> decide

theorem Op.code_lt (op : Op) : op.code < 65536 := by cases op <;> decide

@[simp] theorem cmdPkt_port (op : Op) (h : Hdr) (p : Octets) : (cmdPkt op h p).port = h.port := rfl
@[simp] theorem cmdPkt_params (op : Op) (h : Hdr) (p : Octets) : (cmdPkt op h p).params = p := rfl
@[simp] theorem cmdPkt_lenOk (op : Op) (h : Hdr) (p : Octets) : (cmdPkt op h p).lenOk = true := rfl
@[simp] theorem cmdPkt_crcOk (op : Op) (h : Hdr) (p : Octets) : (cmdPkt op h p).crcOk = true := rfl
@[simp] theorem cmdPkt_src (op : Op) (h : Hdr) (p : Octets) : (cmdPkt op h p).src = h.src := rfl
@[simp] theorem cmdPkt_cmac (op : Op) (h : Hdr) (p : Octets) : (cmdPkt op h p).cmac = h.cmac := rfl

@[simp] theorem cmdPkt_ctx (op : Op) (h : Hdr) (p : Octets) : (cmdPkt op h p).ctx = h.ctx := by
  have := h.ctx.isLt
  apply Fin.ext
  simp only [InPkt.ctx, cmdPkt, headerOctets_eq, p8, List.getD_cons_succ, List.getD_cons_zero, BitVec.toNat_ofNat, Fin.ofNat]
  omega

@[simp] theorem cmdPkt_seq (op : Op) (h : Hdr) (p : Octets) : (cmdPkt op h p).seq = h.seq := by
  have := h.seq.isLt
  apply BitVec.eq_of_toNat_eq
  simp [InPkt.seq, cmdPkt, headerOctets_eq, p16, pN, natOf]
  omega

@[simp] theorem cmdPkt_code (op : Op) (h : Hdr) (p : Octets) : (cmdPkt op h p).code = op.code := by
  have := op.code_lt
  simp [InPkt.code, cmdPkt, headerOctets_eq, p16, pN, natOf]
  omega

@[simp] theorem cmdPkt_retry (op : Op) (h : Hdr) (p : Octets) : pBit (cmdPkt op h p).head 6 0 = h.retry := by
  cases hr : h.retry <;> simp [cmdPkt, headerOctets_eq, pBit, hr, b2n]

@[simp] theorem cmdPkt_hdr (op : Op) (h : Hdr) (p : Octets) : (cmdPkt op h p).hdr = h := by
  simp [InPkt.hdr]

@[simp] theorem cmdPkt_headOk (op : Op) (h : Hdr) (p : Octets) : (cmdPkt op h p).headOk = true := by
  have := h.ctx.isLt
  simp [InPkt.headOk, cmdPkt, headerOctets_eq, p8, p24, pN, natOf]
  cases h.retry <;> simp [b2n] <;> omega

end Machine
end Sys2Proof
end

