-- ==== Sys2Proof/Laws/Settle.lean ====
section
/-!
SUPPORT. What follows every step, in a state in which nothing is pending: nothing.
-/
namespace Sys2Proof.Machine

open Sys2Proof

theorem foldl_id {α β : Type} (f : β → α → β) (l : List α) (b : β) (h : ∀ x ∈ l, f b x = b) : l.foldl f b = b := by
  induction l with
  | nil => rfl
  | cons x r ih =>
    rw [List.foldl_cons, h x (by simp)]
    exact ih (fun y hy => h y (List.mem_cons_of_mem _ hy))

theorem State.runOff_of_not (s : State) (n : Fin 3) (h : s.ranOff n = false) : s.runOff n = s := by
  simp only [State.ranOff] at h
  simp only [State.runOff]
  rw [if_neg (by rw [h]; simp)]

theorem State.finishWhere_none (s : State) (h : s.NoCommands) (t : Cmd → Bool) (r : Cmd → Status × Octets) : s.finishWhere t r = s := by
  unfold State.finishWhere
  exact foldl_id _ _ _ (fun n _ => by simp [h n])

theorem State.sealReplies_none (s : State) (h : s.NoCommands) (u : Nat) (ok : Bool) : s.sealReplies u ok = s := by
  unfold State.sealReplies
  exact s.finishWhere_none h _ _

theorem State.sealed_none (s : State) (h : s.NoCommands) : s.sealed = s := by
  unfold State.sealed
  split
  · exact s.sealReplies_none h _ _
  · rfl

theorem State.works_none (s : State) (h : s.NoCommands) : s.works = s := by
  unfold State.works
  exact foldl_id _ _ _ (fun n _ => by simp [h n])

theorem State.release_none (s : State) (n : Fin 8) (h : (s.ctx n).ready? = none) : ∀ k, s.release n k = s
  | 0 => rfl
  | k + 1 => by simp [State.release, h]

theorem Ctx.ready?_nil {x : Ctx} (h : x.cmds = []) : x.ready? = none := by simp [Ctx.ready?, h]

theorem State.releaseAll_none (s : State) (h : ∀ n, (s.ctx n).ready? = none) : s.releaseAll = s := by
  unfold State.releaseAll
  exact foldl_id _ _ _ (fun n _ => s.release_none n (h n) _)

theorem State.refuseWaiting_none (s : State) (h : ∀ n, ∀ c ∈ (s.ctx n).cmds, c.isWaiting = false) : s.refuseWaiting = s := by
  unfold State.refuseWaiting
  refine foldl_id _ _ _ (fun n _ => ?_)
  have : (s.ctx n).cmds.filter Cmd.isWaiting = [] := by
    rw [List.filter_eq_nil_iff]
    intro c hc
    simp [h n c hc]
  simp [this]

theorem Ctx.next?_none {x : Ctx} (h : ∀ c ∈ x.cmds, c.isWaiting = false) : x.next? = none := by
  have : x.cmds.find? Cmd.isWaiting = none := by
    rw [List.find?_eq_none]
    intro c hc
    simp [h c hc]
  simp [Ctx.next?, this]

theorem State.pick_none (s : State) (h : ∀ n, ∀ c ∈ (s.ctx n).cmds, c.isWaiting = false) : s.pick = none := by
  unfold State.pick
  rw [List.findSome?_eq_none_iff]
  intro n _
  rw [Ctx.next?_none (h n)]
  rfl

/-- With no command waiting, dispatch changes nothing. -/
theorem State.dispatchAll_none (s : State) (h : ∀ n, ∀ c ∈ (s.ctx n).cmds, c.isWaiting = false) : ∀ k, s.dispatchAll k = s
  | 0 => rfl
  | k + 1 => by
    simp only [State.dispatchAll, s.refuseWaiting_none h, s.pick_none h]
    split <;> first | rfl | (split <;> first | rfl | (split <;> rfl))

/-- In a calm state nothing follows a step. -/
theorem State.settle_calm (s : State) (h : s.Calm) : s.settle = s := by
  obtain ⟨hc, hh, hr⟩ := h
  have w : ∀ n, ∀ c ∈ (s.ctx n).cmds, c.isWaiting = false := fun n c hm => by rw [hc n] at hm; cases hm
  have e0 : s.serveHeld s.jrn.held.length = s := by rw [hh]; rfl
  simp only [State.settle, e0, s.runOff_of_not _ (hr 0), s.runOff_of_not _ (hr 1), s.runOff_of_not _ (hr 2), s.works_none hc,
    s.sealed_none hc, s.dispatchAll_none w, s.releaseAll_none (fun n => Ctx.ready?_nil (hc n))]

end Sys2Proof.Machine
end

