-- ==== Sys2Proof/Laws/Plumbing.lean ====
section
/-!
SUPPORT. What accepting, journaling, completing and answering a command can touch: the host block, the almanac, working memory, the
store, and the frames that wait for the segment. Everything else of the state is `State.outside`, and these operations leave it.
-/
namespace Sys2Proof.Machine

open Sys2Proof

theorem State.sys_of {s t : State} (h : t.outside = s.outside) : t.sys = s.sys := by
  have e := congrArg State.sys h
  exact e
theorem State.pwr_of {s t : State} (h : t.outside = s.outside) : t.pwr = s.pwr := by
  have e := congrArg State.pwr h
  exact e
theorem State.aon_of {s t : State} (h : t.outside = s.outside) : t.aon = s.aon := by
  have e := congrArg State.aon h
  exact e
theorem State.cph_of {s t : State} (h : t.outside = s.outside) : t.cph = s.cph := by
  have e := congrArg State.cph h
  exact e
theorem State.seq_of {s t : State} (h : t.outside = s.outside) : t.seq = s.seq := by
  have e := congrArg State.seq h
  exact e
theorem State.tmr_of {s t : State} (h : t.outside = s.outside) : t.tmr = s.tmr := by
  have e := congrArg State.tmr h
  exact e
theorem State.crd_of {s t : State} (h : t.outside = s.outside) : t.crd = s.crd := by
  have e := congrArg State.crd h
  exact e
theorem State.lf_of {s t : State} (h : t.outside = s.outside) : t.lf = s.lf := by
  have e := congrArg State.lf h
  exact e
theorem State.uhf_of {s t : State} (h : t.outside = s.outside) : t.uhf = s.uhf := by
  have e := congrArg State.uhf h
  exact e
theorem State.uwb_of {s t : State} (h : t.outside = s.outside) : t.uwb = s.uwb := by
  have e := congrArg State.uwb h
  exact e
theorem State.hrv_of {s t : State} (h : t.outside = s.outside) : t.hrv = s.hrv := by
  have e := congrArg State.hrv h
  exact e
theorem State.free_of {s t : State} (h : t.outside = s.outside) : t.free = s.free := by
  have e := congrArg State.free h
  exact e
theorem State.pending_of {s t : State} (h : t.outside = s.outside) : t.pending = s.pending := by
  have e := congrArg State.pending h
  exact e

theorem State.ctx_setCtx (s : State) (n m : Fin 8) (c : Ctx) : (s.setCtx n c).ctx m = if m = n then c else s.ctx m := by
  simp only [State.ctx, State.setCtx, Fin.getElem_fin]
  rw [Vector.getElem_set]
  by_cases h : m = n
  · subst h; simp
  · have : ¬ n.val = m.val := fun e => h (Fin.ext e.symm)
    simp [h, this]

theorem State.ctx_modCtx (s : State) (n m : Fin 8) (f : Ctx → Ctx) : (s.modCtx n f).ctx m = if m = n then f (s.ctx n) else s.ctx m :=
  s.ctx_setCtx n m _

@[simp] theorem State.ctx_modCtx_self (s : State) (n : Fin 8) (f : Ctx → Ctx) : (s.modCtx n f).ctx n = f (s.ctx n) := by simp [State.ctx_modCtx]

theorem State.ctx_modCtx_ne (s : State) {n m : Fin 8} (h : m ≠ n) (f : Ctx → Ctx) : (s.modCtx n f).ctx m = s.ctx m := by
  simp [State.ctx_modCtx, h]

@[simp] theorem State.outside_modCtx (s : State) (n : Fin 8) (f : Ctx → Ctx) : (s.modCtx n f).outside = s.outside := rfl
@[simp] theorem State.outside_modPort (s : State) (p : Port) (f : PortState → PortState) : (s.modPort p f).outside = s.outside := rfl
@[simp] theorem State.outside_nextDispatch (s : State) : s.nextDispatch.outside = s.outside := rfl

/-- What an operation leaves that only queues events, judges marks and writes memory, the almanac and the store. -/
structure State.Quiet (s t : State) : Prop where
  outside : t.outside = s.outside
  queue   : t.ntc.queue = s.ntc.queue
  cmds    : ∀ n, (t.ctx n).cmds = (s.ctx n).cmds
  settled : ∀ n, (t.ctx n).settled = (s.ctx n).settled
  ports   : t.hst.ports = s.hst.ports
  hrest   : t.hst.rest = s.hst.rest
  nrest   : t.nvm.rest = s.nvm.rest

theorem State.Quiet.rfl' (s : State) : s.Quiet s := ⟨rfl, rfl, fun _ => rfl, fun _ => rfl, rfl, rfl, rfl⟩

theorem State.Quiet.trans {s t u : State} (h : s.Quiet t) (k : t.Quiet u) : s.Quiet u :=
  ⟨k.outside.trans h.outside, k.queue.trans h.queue, fun n => (k.cmds n).trans (h.cmds n), fun n => (k.settled n).trans (h.settled n),
   k.ports.trans h.ports, k.hrest.trans h.hrest, k.nrest.trans h.nrest⟩

theorem State.Quiet.jrn (s : State) (j : Jrn) : s.Quiet { s with jrn := j } := ⟨rfl, rfl, fun _ => rfl, fun _ => rfl, rfl, rfl, rfl⟩
theorem State.Quiet.mem (s : State) (m : Mem) : s.Quiet { s with mem := m } := ⟨rfl, rfl, fun _ => rfl, fun _ => rfl, rfl, rfl, rfl⟩
theorem State.Quiet.nvm (s : State) (v : Nvm) (h : v.rest = s.nvm.rest) : s.Quiet { s with nvm := v } :=
  ⟨rfl, rfl, fun _ => rfl, fun _ => rfl, rfl, rfl, h⟩

theorem Nvm.rest_bufWrite (n : Nvm) (now : Word) (l : List (Nat × Option Word)) : (n.bufWrite now l).rest = n.rest := by
  unfold Nvm.bufWrite
  simp only
  split
  · rfl
  · unfold Nvm.startCommit
    split
    · rfl
    · split <;> rfl

/-- A change of a context that keeps its commands and its settled part is quiet. -/
theorem State.Quiet.ctx (s : State) (n : Fin 8) (f : Ctx → Ctx) (hc : ∀ x : Ctx, (f x).cmds = x.cmds) (hs : ∀ x : Ctx, (f x).settled = x.settled) :
    s.Quiet (s.modCtx n f) := by
  refine ⟨rfl, rfl, fun m => ?_, fun m => ?_, rfl, rfl, rfl⟩
  · by_cases h : m = n
    · subst h; simp [hc]
    · rw [State.ctx_modCtx_ne s h]
  · by_cases h : m = n
    · subst h; simp [hs]
    · rw [State.ctx_modCtx_ne s h]

theorem Ctx.queueEvent_cmds (x : Ctx) (k : Nat) (w : Word) (d : Octets) : (x.queueEvent k w d).cmds = x.cmds := by
  unfold Ctx.queueEvent; split <;> rfl

theorem Ctx.queueEvent_settled (x : Ctx) (k : Nat) (w : Word) (d : Octets) : (x.queueEvent k w d).settled = x.settled := by
  unfold Ctx.queueEvent; split <;> rfl

theorem State.quiet_queueAll (s : State) (k : Nat) (d : Octets) : s.Quiet (s.queueAll k d) := by
  unfold State.queueAll
  split
  · exact .rfl' s
  · refine ⟨rfl, rfl, fun m => ?_, fun m => ?_, rfl, rfl, rfl⟩
    · simp only [State.ctx, Fin.getElem_fin, Vector.getElem_map]
      split
      · exact Ctx.queueEvent_cmds ..
      · rfl
    · simp only [State.ctx, Fin.getElem_fin, Vector.getElem_map]
      split
      · exact Ctx.queueEvent_settled ..
      · rfl

theorem State.quiet_checkMark (s : State) (n : Fin 8) : s.Quiet (s.checkMark n) := by
  simp only [State.checkMark]
  split
  · exact .rfl' s
  · split
    · refine State.Quiet.trans ?_ (State.quiet_queueAll _ _ _)
      exact State.Quiet.ctx s n _ (fun _ => rfl) (fun _ => rfl)
    · split
      · refine State.Quiet.trans ?_ (State.quiet_queueAll _ _ _)
        exact State.Quiet.ctx s n _ (fun _ => rfl) (fun _ => rfl)
      · exact .rfl' s

theorem quiet_foldl {β : Type} (f : State → β → State) (hf : ∀ (s : State) (x : β), s.Quiet (f s x)) (l : List β) : ∀ s : State, s.Quiet (l.foldl f s) := by
  induction l with
  | nil => exact fun s => .rfl' s
  | cons x r ih => exact fun s => (hf s x).trans (ih _)

theorem State.quiet_checkMarks (s : State) : s.Quiet s.checkMarks := quiet_foldl _ (fun s n => s.quiet_checkMark n) _ s

theorem State.Quiet.memJrn (s : State) (m : Mem) (j : Jrn) : s.Quiet { s with mem := m, jrn := j } :=
  ⟨rfl, rfl, fun _ => rfl, fun _ => rfl, rfl, rfl, rfl⟩

theorem State.quiet_ringPut (s : State) (e : Entry) : s.Quiet (s.ringPut e) := by
  unfold State.ringPut
  refine State.Quiet.trans ?_ (State.quiet_checkMarks _)
  exact State.Quiet.memJrn s _ _

theorem State.quiet_ringUpdate (s : State) (k : Nat) (e : Entry) : s.Quiet (s.ringUpdate k e) := by
  unfold State.ringUpdate
  split
  · exact State.Quiet.mem s _
  · exact .rfl' s

theorem State.quiet_storeWords (s : State) (a : Nat) (ws : List Word) : s.Quiet (s.storeWords a ws) :=
  State.Quiet.nvm s _ (Nvm.rest_bufWrite _ _ _)

theorem State.quiet_nvPut (s : State) (k : Nat) (e : Entry) : s.Quiet (s.nvPut k e) := State.quiet_storeWords s _ _

theorem State.quiet_nvCopy (s : State) (e : Entry) : s.Quiet (s.nvCopy e) :=
  (s.quiet_nvPut _ e).trans (State.Quiet.jrn _ _)

/-! The parts of the almanac and the store that the marks and the ring leave. -/

theorem State.queueAll_jrn (s : State) (k : Nat) (d : Octets) : (s.queueAll k d).jrn = s.jrn := by unfold State.queueAll; split <;> rfl
theorem State.queueAll_mem (s : State) (k : Nat) (d : Octets) : (s.queueAll k d).mem = s.mem := by unfold State.queueAll; split <;> rfl
theorem State.queueAll_nvm (s : State) (k : Nat) (d : Octets) : (s.queueAll k d).nvm = s.nvm := by unfold State.queueAll; split <;> rfl
theorem State.queueAll_sys (s : State) (k : Nat) (d : Octets) : (s.queueAll k d).sys = s.sys := by unfold State.queueAll; split <;> rfl

theorem State.checkMark_jrn (s : State) (n : Fin 8) : (s.checkMark n).jrn = s.jrn := by
  simp only [State.checkMark]
  split
  · rfl
  · split
    · rw [State.queueAll_jrn]; rfl
    · split
      · rw [State.queueAll_jrn]; rfl
      · rfl

theorem State.checkMark_mem (s : State) (n : Fin 8) : (s.checkMark n).mem = s.mem := by
  simp only [State.checkMark]
  split
  · rfl
  · split
    · rw [State.queueAll_mem]; rfl
    · split
      · rw [State.queueAll_mem]; rfl
      · rfl

theorem State.checkMark_nvm (s : State) (n : Fin 8) : (s.checkMark n).nvm = s.nvm := by
  simp only [State.checkMark]
  split
  · rfl
  · split
    · rw [State.queueAll_nvm]; rfl
    · split
      · rw [State.queueAll_nvm]; rfl
      · rfl

theorem foldl_keeps {α β γ : Type} (f : α → β → α) (g : α → γ) (hf : ∀ a x, g (f a x) = g a) (l : List β) : ∀ a, g (l.foldl f a) = g a := by
  induction l with
  | nil => exact fun _ => rfl
  | cons x r ih => exact fun a => (ih _).trans (hf a x)

theorem State.checkMarks_jrn (s : State) : s.checkMarks.jrn = s.jrn := foldl_keeps _ State.jrn (fun s n => s.checkMark_jrn n) _ s
theorem State.checkMarks_mem (s : State) : s.checkMarks.mem = s.mem := foldl_keeps _ State.mem (fun s n => s.checkMark_mem n) _ s
theorem State.checkMarks_nvm (s : State) : s.checkMarks.nvm = s.nvm := foldl_keeps _ State.nvm (fun s n => s.checkMark_nvm n) _ s

theorem State.ringPut_nvm (s : State) (e : Entry) : (s.ringPut e).nvm = s.nvm := by
  unfold State.ringPut; rw [State.checkMarks_nvm]

theorem State.ringPut_jrn (s : State) (e : Entry) :
    (s.ringPut e).jrn = { s.jrn with head := (s.jrn.head + 1) % 2048, count := satSucc s.jrn.count 2048 } := by
  unfold State.ringPut; rw [State.checkMarks_jrn]

theorem State.ringPut_mem (s : State) (e : Entry) : (s.ringPut e).mem = s.mem.writeRun (ringAddr s.jrn.head) e.words := by
  unfold State.ringPut; rw [State.checkMarks_mem]

end Sys2Proof.Machine
end

