-- ==== Sys2Proof/Laws/Accept.lean ====
section
/-!
SUPPORT. A host command that is accepted and dispatched at once: how it reaches its body, and what is left after the body.
-/
namespace Sys2Proof.Machine

open Sys2Proof

/-- A command as acceptance queues it. -/
structure State.CmdOf (s : State) (op : Op) (h : Hdr) (p : Octets) (obs : Obs) (c : Cmd) : Prop where
  cop     : c.op = op
  cp      : c.p = p
  cobs    : c.obs = obs
  cport   : c.port = h.port
  cdst    : c.dst = h.src
  cseq    : c.seq = h.seq
  crole   : c.role = (s.ctx h.ctx).role
  ckey    : c.key = BitVec.ofNat 8 (s.replyKey h.ctx op.code p)
  cdrop   : c.dropped = false
  cjseq   : c.entry.seq = s.jseq op
  csec    : c.entry.security = op.security
  cslot   : c.slot = s.jrn.head

/-- What the body of an accepted command finds: the state and the command it is given. -/
structure State.Taken (s : State) (op : Op) (h : Hdr) (p : Octets) (obs : Obs) (t : State) (c : Cmd) : Prop extends
    s.CmdOf op h p obs c where
  outside : t.outside = (s.active op).outside
  queue   : t.ntc.queue = s.ntc.queue
  nvm     : t.nvm = s.nvm
  mem     : s.mem.RingOnly t.mem
  memSame : op.journaled = false → t.mem = s.mem
  ports   : t.hst.ports = s.hst.ports
  hrest   : t.hst.rest = s.hst.rest
  jrnSame : op.journaled = false → t.jrn = { s.jrn with dispatch := t.jrn.dispatch }
  held    : t.jrn.held = []
  others  : ∀ m, m ≠ h.ctx → (t.ctx m).cmds = []
  own     : (t.ctx h.ctx).cmds = [c]
  settled : ∀ m, (t.ctx m).settled = (s.ctx m).settled
  cphase  : c.phase = .waiting
  cnv     : c.nvAt = none

theorem State.openBlock_of_lt (s : State) (h : s.jrn.next < s.jrn.blockEnd) : s.openBlock = s := by
  unfold State.openBlock; simp [h]

theorem State.reserve_of_room (s : State) (h : s.jrn.next + 4096 ≤ s.jrn.blockEnd) : s.reserve = s := by
  unfold State.reserve
  have : ¬ (s.jrn.blockEnd - s.jrn.next < 4096) := by omega
  simp [this]

/-- R77: with numbers at hand the next one is taken. -/
theorem State.number_ready (s : State) (e : Entry) (hx : s.jrn.exhausted = false) (hr : s.jrn.next + 4097 ≤ s.jrn.blockEnd) :
    s.number e = (State.ringPut { s with jrn := { s.jrn with next := s.jrn.next + 1 } } { e with seq := BitVec.ofNat 40 s.jrn.next },
      { e with seq := BitVec.ofNat 40 s.jrn.next }) := by
  unfold State.number
  have hready : s.jrn.ready = true := by simp only [Jrn.ready, decide_eq_true_eq]; omega
  rw [if_neg (by simp [hx, hready])]
  simp only
  rw [State.reserve_of_room]
  rw [State.ringPut_jrn]
  simp only
  omega

theorem State.visitOver_of (s : State) (h : s.pwr.presentVisit = false) : s.visitOver = s := by
  unfold State.visitOver; rw [if_neg (by rw [h]; simp)]

theorem Ctx.remember_cmds (x : Ctx) (q : BitVec 16) (a b : Word) : (x.remember q a b).cmds = x.cmds := rfl
theorem Ctx.remember_settled (x : Ctx) (q : BitVec 16) (a b : Word) : (x.remember q a b).settled = x.settled := rfl

/-- The commands accepted the plain way: all but HST_OPEN and HST_CLOSE. -/
def Op.plain (op : Op) : Bool := !(op == .hstOpen || op == .hstClose)

theorem Op.plain_ne {op : Op} (h : op.plain = true) : op ≠ .hstOpen ∧ op ≠ .hstClose := by
  constructor <;> (intro e; subst e; cases h)

/-- R52: a command row that meets `State.Ready` comes to acceptance. -/
theorem State.arrive_ready (s : State) (op : Op) (h : Hdr) (p : Octets) (obs : Obs) (hp : op.plain = true) (r : s.Ready op h p obs) :
    s.arrive (cmdPkt op h p) obs = s.accept op h p obs := by
  obtain ⟨⟨hc, hh, -⟩, hw, hh', -, -, ho, hpt, hs, hm, hl, hlen, hx, hn, hhd, ha⟩ := r
  obtain ⟨ne1, -⟩ := Op.plain_ne hp
  have hcode : op.code ≠ Op.hstOpen.code := by
    intro e; apply ne1
    have := Op.ofCode_code op
    rw [e, Op.ofCode_code] at this
    cases this; rfl
  have hfb : s.sys.faultBoot = false := by
    simp only [State.working, Bool.and_eq_true, Bool.not_eq_true'] at hw
    exact hw.2
  have hcheck : s.check (cmdPkt op h p) obs = s.accept op h p obs := by
    have hadm : s.takeIn h op.code p obs false = s.accept op h p obs := by
      have hrole : (s.ctx h.ctx).roleNow = (s.ctx h.ctx).role := by simp [Ctx.roleNow, hc h.ctx]
      have hheld : s.heldOf h.ctx = false := by simp [State.heldOf, hh]
      have hready : s.jrn.ready = true := by simp only [Jrn.ready, decide_eq_true_eq]; omega
      have hob : s.openBlock = s := s.openBlock_of_lt (by omega)
      unfold State.takeIn
      simp only [ho, hpt, hs, hrole, Op.ofCode_code, hm, hl, hc h.ctx, hob]
      simp [hheld, hx, hready]
    unfold State.check
    have hgt : ¬ 1024 < p.length := by omega
    simp [hfb, hgt, hcode, ho, hpt, hadm]
  unfold State.arrive
  simp only [cmdPkt_port, hh', Bool.not_true, Bool.false_eq_true, if_false]
  rcases ha with hw | ⟨h1, h2, h3, h4, h5, h6⟩
  · cases hp' : h.port with
    | net => exact absurd hp' hw
    | spiA => simpa using hcheck
    | spiB => simpa using hcheck
    | uartC => simpa using hcheck
  · cases hp' : h.port with
    | spiA => simpa using hcheck
    | spiB => simpa using hcheck
    | uartC => simpa using hcheck
    | net =>
      have hk : s.replyKey h.ctx op.code p = (s.ctx h.ctx).keySlot.toNat := by simp [State.replyKey, hcode]
      have hmac : s.macOk (cmdPkt op h p) (s.ctx h.ctx).keySlot.toNat obs = (s, true) := by
        unfold State.macOk
        simp only [h2, h5, h3]
        simp [h6]
      simp only [State.netCheck, cmdPkt_ctx, cmdPkt_code, cmdPkt_params, hk, hcode, hpt, hp', ho, h1, cmdPkt_src, hmac, cmdPkt_seq, h4,
        cmdPkt_crcOk]
      simpa using hcheck

/-- The command as it is queued. -/
def State.queuedCmd (s : State) (op : Op) (h : Hdr) (p : Octets) (obs : Obs) : Cmd :=
  { op := op, seq := h.seq, retry := h.retry, role := (s.ctx h.ctx).role, port := h.port, dst := h.src,
    key := BitVec.ofNat 8 (s.replyKey h.ctx op.code p),
    entry := if op.journaled then { s.newEntry op h (s.ctx h.ctx).role p with seq := BitVec.ofNat 40 s.jrn.next } else Entry.none,
    slot := s.jrn.head, nvAt := none, p := p, obs := obs, phase := .waiting, status := .ok, data := [], dropped := false }

/-- R73, R77: the state once the entry is written. -/
def State.numbered (s : State) (op : Op) (h : Hdr) (p : Octets) : State :=
  if op.journaled then
    State.ringPut { s with jrn := { s.jrn with next := s.jrn.next + 1 } } { s.newEntry op h (s.ctx h.ctx).role p with seq := BitVec.ofNat 40 s.jrn.next }
  else s

theorem State.quiet_numbered (s : State) (op : Op) (h : Hdr) (p : Octets) : s.Quiet (s.numbered op h p) := by
  unfold State.numbered
  split
  · refine State.Quiet.trans ?_ (State.quiet_ringPut _ _)
    exact State.Quiet.jrn s _
  · exact .rfl' s

theorem State.accept_ready (s : State) (op : Op) (h : Hdr) (p : Octets) (obs : Obs) (hp : op.plain = true) (r : s.Ready op h p obs) :
    s.accept op h p obs = ((s.numbered op h p).active op).modCtx h.ctx (fun y =>
      { y.remember h.seq (s.queuedCmd op h p obs).entry.seq s.aon.tick with
        cmds := (y.remember h.seq (s.queuedCmd op h p obs).entry.seq s.aon.tick).cmds ++ [s.queuedCmd op h p obs] }) := by
  obtain ⟨⟨hc, hh, -⟩, hw, hh', -, hv, ho, hpt, hs, hm, hl, hlen, hx, hn, -, -⟩ := r
  obtain ⟨ne1, ne2⟩ := Op.plain_ne hp
  have hrole : (s.ctx h.ctx).roleNow = (s.ctx h.ctx).role := by simp [Ctx.roleNow, hc h.ctx]
  have hq := s.quiet_numbered op h p
  have hpv : (s.numbered op h p).pwr = s.pwr := State.pwr_of hq.outside
  have haon : (s.numbered op h p).aon = s.aon := State.aon_of hq.outside
  have hv' : (s.numbered op h p).visitOver = s.numbered op h p := State.visitOver_of _ (by rw [hpv]; exact hv)
  have key : (if op.journaled then s.number (s.newEntry op h (s.ctx h.ctx).role p) else (s, Entry.none)) =
      (s.numbered op h p, (s.queuedCmd op h p obs).entry) := by
    unfold State.numbered State.queuedCmd
    by_cases hj : op.journaled = true
    · simp only [hj, if_true]
      rw [s.number_ready _ hx hn]
    · simp only [Bool.not_eq_true] at hj
      simp [hj]
  unfold State.accept
  simp only [hrole, key, hv', ne1, ne2, decide_false, Bool.false_and, Bool.or_false, Bool.false_eq_true, if_false]
  unfold State.active
  split <;> simp only [haon, State.modLf_aon] <;> rfl

theorem State.active_outside_ntc (s : State) (op : Op) : (s.active op).ntc = s.ntc := by unfold State.active; split <;> rfl
theorem State.active_hst (s : State) (op : Op) : (s.active op).hst = s.hst := by unfold State.active; split <;> rfl
theorem State.active_jrn (s : State) (op : Op) : (s.active op).jrn = s.jrn := by unfold State.active; split <;> rfl
theorem State.active_mem (s : State) (op : Op) : (s.active op).mem = s.mem := by unfold State.active; split <;> rfl
theorem State.active_nvm (s : State) (op : Op) : (s.active op).nvm = s.nvm := by unfold State.active; split <;> rfl
theorem State.active_ctx (s : State) (op : Op) (n : Fin 8) : (s.active op).ctx n = s.ctx n := by simp only [State.ctx, State.active_hst]
theorem State.active_outside (s t : State) (op : Op) (h : t.outside = s.outside) : (t.active op).outside = (s.active op).outside := by
  have ha : t.aon = s.aon := State.aon_of h
  have hl : t.lf = s.lf := State.lf_of h
  unfold State.active
  split
  · have : ∀ u : State, (u.modLf (fun l => { l with idleSince := u.aon.calendar })).outside =
        State.modLf u.outside (fun l => { l with idleSince := u.outside.aon.calendar }) := fun _ => rfl
    rw [this, this, h]
  · exact h

/-- What acceptance leaves for dispatch. -/
theorem State.taken_accept (s : State) (op : Op) (h : Hdr) (p : Octets) (obs : Obs) (hp : op.plain = true) (r : s.Ready op h p obs) :
    s.Taken op h p obs (s.accept op h p obs) (s.queuedCmd op h p obs) := by
  have hq := s.quiet_numbered op h p
  have hc : s.NoCommands := r.1.1
  have hh : s.jrn.held = [] := r.1.2.1
  rw [s.accept_ready op h p obs hp r]
  constructor
  case outside => rw [State.outside_modCtx]; exact State.active_outside _ _ _ hq.outside
  case queue => simp only [State.modCtx_ntc, State.active_outside_ntc]; exact hq.queue
  case nvm =>
    simp only [State.modCtx_nvm, State.active_nvm, State.numbered]
    split
    · rw [State.ringPut_nvm]
    · rfl
  case mem =>
    simp only [State.modCtx_mem, State.active_mem, State.numbered]
    split
    · rw [State.ringPut_mem]
      exact Mem.ringOnly_ring _ _ r.2.2.2.2.2.2.2.2.2.2.2.2.2.1 _
    · exact .rfl' _
  case memSame =>
    intro hj
    simp only [State.modCtx_mem, State.active_mem, State.numbered, hj]
    rfl
  case toCmdOf =>
    constructor
    case cjseq => simp only [State.queuedCmd, State.jseq]; split <;> rfl
    case csec =>
      simp only [State.queuedCmd]
      split
      · rfl
      · rename_i hj
        simp only [Bool.not_eq_true] at hj
        simp [Entry.none, Op.security, hj]
    all_goals rfl
  case ports => simp only [State.modCtx_hst, State.active_hst]; exact hq.ports
  case hrest => simp only [State.modCtx_hst, State.active_hst]; exact hq.hrest
  case jrnSame =>
    intro hj
    simp only [State.modCtx_jrn, State.active_jrn, State.numbered, hj]
    rfl
  case held =>
    simp only [State.modCtx_jrn, State.active_jrn, State.numbered]
    split
    · rw [State.ringPut_jrn]; exact hh
    · exact hh
  case others =>
    intro m hm
    rw [State.ctx_modCtx_ne _ hm, State.active_ctx, hq.cmds, hc m]
  case own =>
    simp only [State.ctx_modCtx_self, Ctx.remember_cmds, State.active_ctx, hq.cmds, hc h.ctx, List.nil_append]
  case settled =>
    intro m
    by_cases hm : m = h.ctx
    · subst hm
      rw [State.ctx_modCtx_self, State.active_ctx, ← hq.settled]
      rfl
    · rw [State.ctx_modCtx_ne _ hm, State.active_ctx, hq.settled]
  all_goals rfl

end Sys2Proof.Machine
end

