-- ==== Sys2Proof/Laws/Dispatch.lean ====
section
/-!
SUPPORT. Dispatch of a command that was accepted at once, its completion and its reply.
-/
namespace Sys2Proof.Machine

open Sys2Proof

/-! ## Dispatch -/

theorem State.ringUpdate_nvm (s : State) (k : Nat) (e : Entry) : (s.ringUpdate k e).nvm = s.nvm := by unfold State.ringUpdate; split <;> rfl
theorem State.ringUpdate_jrn (s : State) (k : Nat) (e : Entry) : (s.ringUpdate k e).jrn = s.jrn := by unfold State.ringUpdate; split <;> rfl
theorem State.ringUpdate_hst (s : State) (k : Nat) (e : Entry) : (s.ringUpdate k e).hst = s.hst := by unfold State.ringUpdate; split <;> rfl
theorem State.ringUpdate_ntc (s : State) (k : Nat) (e : Entry) : (s.ringUpdate k e).ntc = s.ntc := by unfold State.ringUpdate; split <;> rfl

theorem State.ringOnly_ringUpdate (s : State) (k : Nat) (hk : k < 2048) (e : Entry) : s.mem.RingOnly (s.ringUpdate k e).mem := by
  unfold State.ringUpdate
  split
  · exact s.mem.ringOnly_write _ _ (by simp only [ringAddr]; omega)
  · exact .rfl' _

theorem Ctx.modCmd_one {x : Ctx} {c : Cmd} (h : x.cmds = [c]) (f : Cmd → Cmd) : (x.modCmd c.seq f).cmds = [f c] := by
  simp [Ctx.modCmd, h]

theorem Ctx.modCmd_settled (x : Ctx) (q : BitVec 16) (f : Cmd → Cmd) : (x.modCmd q f).settled = x.settled := rfl
theorem Ctx.noteStatus_settled (x : Ctx) (q : BitVec 16) (st : Status) : (x.noteStatus q st).settled = x.settled := rfl
theorem Ctx.noteStatus_cmds (x : Ctx) (q : BitVec 16) (st : Status) : (x.noteStatus q st).cmds = x.cmds := rfl
theorem Ctx.markSent_settled (x : Ctx) (c : Cmd) : (x.markSent c).settled = x.settled := rfl
theorem Ctx.unpend_settled (x : Ctx) (l : List Cmd) : ({ x with cmds := l } : Ctx).settled = x.settled := rfl

/-- DISPATCH of its entry: the state and the command that the body is given. -/
def State.atDispatch (s : State) (op : Op) (h : Hdr) (p : Octets) (obs : Obs) : State × Cmd :=
  State.stampDispatch { s.accept op h p obs with hst := { (s.accept op h p obs).hst with rrNext := h.ctx + 1 } } h.ctx (s.queuedCmd op h p obs)

/-- What the body of an accepted command finds. -/
theorem State.taken_atDispatch (s : State) (op : Op) (h : Hdr) (p : Octets) (obs : Obs) (hp : op.plain = true) (r : s.Ready op h p obs) :
    s.Taken op h p obs (s.atDispatch op h p obs).1 (s.atDispatch op h p obs).2 := by
  have hd : s.jrn.head < 2048 := r.2.2.2.2.2.2.2.2.2.2.2.2.2.1
  have t0 := s.taken_accept op h p obs hp r
  generalize hc : s.queuedCmd op h p obs = c at t0
  generalize ha : s.accept op h p obs = a at t0
  have hs : c.slot < 2048 := by rw [t0.cslot]; exact hd
  simp only [State.atDispatch, State.stampDispatch, ha, hc]
  have hown : ∀ u : State, (∀ m, (u.ctx m) = (a.ctx m)) → ∀ e : Entry,
      ((u.modCtx h.ctx (fun x => x.modCmd c.seq (fun y => { y with entry := e }))).ctx h.ctx).cmds = [{ c with entry := e }] := by
    intro u hu e
    rw [State.ctx_modCtx_self, Ctx.modCmd_one (by rw [hu, t0.own])]
  have hoth : ∀ u : State, (∀ m, (u.ctx m) = (a.ctx m)) → ∀ (f : Cmd → Cmd) (m : Fin 8), m ≠ h.ctx →
      ((u.modCtx h.ctx (fun x => x.modCmd c.seq f)).ctx m).cmds = [] := by
    intro u hu f m hm
    rw [State.ctx_modCtx_ne _ hm, hu, t0.others m hm]
  have hset : ∀ u : State, (∀ m, (u.ctx m) = (a.ctx m)) → ∀ (f : Cmd → Cmd) (m : Fin 8),
      ((u.modCtx h.ctx (fun x => x.modCmd c.seq f)).ctx m).settled = (s.ctx m).settled := by
    intro u hu f m
    by_cases hm : m = h.ctx
    · subst hm; rw [State.ctx_modCtx_self, Ctx.modCmd_settled, hu, t0.settled]
    · rw [State.ctx_modCtx_ne _ hm, hu, t0.settled]
  by_cases h0 : c.entry.seq = 0
  · simp only [h0, if_true]
    have hu : ∀ m, (State.ctx (State.nextDispatch { a with hst := { a.hst with rrNext := h.ctx + 1 } }) m) = a.ctx m := fun _ => rfl
    constructor
    case outside => exact t0.outside
    case queue => exact t0.queue
    case nvm => exact t0.nvm
    case mem => exact t0.mem
    case memSame => exact t0.memSame
    case ports => exact t0.ports
    case hrest => exact t0.hrest
    case jrnSame =>
      intro hj
      have := t0.jrnSame hj
      show ({ a.jrn with dispatch := a.jrn.dispatch + 1 } : Jrn) = _
      rw [this]
      rfl
    case held => exact t0.held
    case others => exact fun m hm => hoth _ hu _ m hm
    case own => exact hown _ hu _
    case settled => exact fun m => hset _ hu _ m
    case toCmdOf => exact ⟨t0.cop, t0.cp, t0.cobs, t0.cport, t0.cdst, t0.cseq, t0.crole, t0.ckey, t0.cdrop, t0.cjseq, t0.csec, t0.cslot⟩
    case cphase => exact t0.cphase
    case cnv => exact t0.cnv
  · simp only [h0, if_false]
    generalize he : ({ c.entry with dispatch := a.jrn.dispatch } : Entry) = e
    have hes : e.seq = c.entry.seq := by rw [← he]
    have hec : e.security = c.entry.security := by rw [← he]
    generalize hw : State.nextDispatch { a with hst := { a.hst with rrNext := h.ctx + 1 } } = w
    have w1 : w.outside = a.outside := by rw [← hw]; rfl
    have w2 : w.hst = { a.hst with rrNext := h.ctx + 1 } := by rw [← hw]; rfl
    have w3 : w.ntc = a.ntc := by rw [← hw]; rfl
    have w4 : w.nvm = a.nvm := by rw [← hw]; rfl
    have w5 : w.mem = a.mem := by rw [← hw]; rfl
    have w6 : w.jrn = { a.jrn with dispatch := a.jrn.dispatch + 1 } := by rw [← hw]; rfl
    have hq := w.quiet_ringUpdate c.slot e
    have hu : ∀ m, (w.ringUpdate c.slot e).ctx m = a.ctx m := by
      intro m; simp only [State.ctx, State.ringUpdate_hst, w2]
    have hj : op.journaled = true := by
      by_cases hj : op.journaled = true
      · exact hj
      · exfalso; apply h0; rw [t0.cjseq, State.jseq, if_neg hj]
    constructor
    case outside => rw [State.outside_modCtx, hq.outside, w1]; exact t0.outside
    case queue => rw [State.modCtx_ntc, hq.queue, w3]; exact t0.queue
    case nvm => rw [State.modCtx_nvm, State.ringUpdate_nvm, w4]; exact t0.nvm
    case mem =>
      refine t0.mem.trans ?_
      have := w.ringOnly_ringUpdate c.slot hs e
      rw [w5] at this
      exact this
    case memSame => intro hj'; rw [hj] at hj'; cases hj'
    case ports => rw [State.modCtx_hst]; show (w.ringUpdate c.slot e).hst.ports = _; rw [State.ringUpdate_hst, w2]; exact t0.ports
    case hrest => rw [State.modCtx_hst]; show Hst.rest { (w.ringUpdate c.slot e).hst with ctx := _ } = _; rw [State.ringUpdate_hst, w2]; exact t0.hrest
    case jrnSame => intro hj'; rw [hj] at hj'; cases hj'
    case held => rw [State.modCtx_jrn, State.ringUpdate_jrn, w6]; exact t0.held
    case others => exact fun m hm => hoth _ hu _ m hm
    case own => exact hown _ hu _
    case settled => exact fun m => hset _ hu _ m
    case toCmdOf =>
      exact ⟨t0.cop, t0.cp, t0.cobs, t0.cport, t0.cdst, t0.cseq, t0.crole, t0.ckey, t0.cdrop, hes.trans t0.cjseq, hec.trans t0.csec, t0.cslot⟩
    case cphase => exact t0.cphase
    case cnv => exact t0.cnv

theorem mem_order (r n : Fin 8) : n ∈ allCtx.map (fun k => r + k) := by
  revert r n; decide

/-- R61: with one command waiting in the device, it is the next. -/
theorem State.pick_one (s : State) (n : Fin 8) (c : Cmd) (hown : (s.ctx n).cmds = [c]) (hw : c.phase = .waiting)
    (hoth : ∀ m, m ≠ n → (s.ctx m).cmds = []) : s.pick = some (n, c) := by
  have hn : (s.ctx n).next? = some c := by
    have : c.isWaiting = true := by simp [Cmd.isWaiting, hw]
    have hw' : c.wait? = none := by simp [Cmd.wait?, hw]
    simp [Ctx.next?, hown, this, hw']
  have ho : ∀ m, m ≠ n → (s.ctx m).next? = none := by
    intro m hm
    simp [Ctx.next?, hoth m hm]
  have key : ∀ l : List (Fin 8), n ∈ l → l.findSome? (fun m => ((s.ctx m).next?).map (fun c => (m, c))) = some (n, c) := by
    intro l
    induction l with
    | nil => intro h; cases h
    | cons x r ih =>
      intro h
      by_cases hx : x = n
      · subst hx; simp [List.findSome?, hn]
      · have : n ∈ r := by
          rcases List.mem_cons.1 h with e | h
          · exact absurd e.symm hx
          · exact h
        simp [List.findSome?, ho x hx, ih this]
  exact key _ (mem_order _ _)

theorem State.flights_one (s : State) (n : Fin 8) (c : Cmd) (hown : (s.ctx n).cmds = [c]) (hw : c.phase = .waiting)
    (hoth : ∀ m, m ≠ n → (s.ctx m).cmds = []) : s.flights = 0 := by
  unfold State.flights
  rw [List.sum_eq_zero_iff_forall_eq_nat]
  intro k hk
  rw [List.mem_map] at hk
  obtain ⟨x, hx, rfl⟩ := hk
  rw [Vector.mem_toList_iff, Vector.mem_iff_getElem] at hx
  obtain ⟨i, hi, rfl⟩ := hx
  have e : s.hst.ctx[i] = s.ctx ⟨i, hi⟩ := rfl
  rw [e]
  by_cases hm : (⟨i, hi⟩ : Fin 8) = n
  · rw [hm, hown]; simp [Cmd.inFlight, hw]
  · rw [hoth _ hm]; rfl

theorem State.finishWhere_waiting (s : State) (h : ∀ n, ∀ c ∈ (s.ctx n).cmds, c.inFlight = false) (t : Cmd → Bool) (r : Cmd → Status × Octets) :
    s.finishWhere t r = s := by
  unfold State.finishWhere
  refine foldl_id _ _ _ (fun n _ => ?_)
  have : (s.ctx n).cmds.filter (fun c => c.inFlight && t c) = [] := by
    rw [List.filter_eq_nil_iff]
    intro c hc
    simp [h n c hc]
  simp [this]

theorem State.sealed_waiting (s : State) (h : ∀ n, ∀ c ∈ (s.ctx n).cmds, c.inFlight = false) : s.sealed = s := by
  unfold State.sealed
  split
  · unfold State.sealReplies
    exact s.finishWhere_waiting h _ _
  · rfl

theorem State.works_waiting (s : State) (h : ∀ n, ∀ c ∈ (s.ctx n).cmds, c.inFlight = false) : s.works = s := by
  have hw : ∀ n, ∀ c ∈ (s.ctx n).cmds, s.workOf n c = s := by
    intro n c hc
    have := h n c hc
    cases hp : c.phase with
    | running w => simp [Cmd.inFlight, hp] at this
    | waiting => simp [State.workOf, Cmd.wait?, hp]
    | done => simp [State.workOf, Cmd.wait?, hp]
    | sent => simp [State.workOf, Cmd.wait?, hp]
  unfold State.works
  exact foldl_id _ _ _ (fun n _ => foldl_id _ _ _ (fun c hc => hw n c hc))

/-! ## Completion -/

theorem State.quiet_secure (s : State) (n : Fin 8) (c : Cmd) (e : Entry) (q : BitVec 16) (hq : c.seq = q) (x : Cmd)
    (hown : (s.ctx n).cmds = [x]) (hx : x.seq = q) :
    (s.secure n c e).outside = s.outside ∧ (s.secure n c e).ntc.queue = s.ntc.queue ∧ (s.secure n c e).hst.ports = s.hst.ports ∧
    (s.secure n c e).mem = s.mem ∧
    (∀ m, m ≠ n → ((s.secure n c e).ctx m).cmds = (s.ctx m).cmds) ∧ (∀ m, ((s.secure n c e).ctx m).settled = (s.ctx m).settled) ∧
    (s.secure n c e).hst.rest = s.hst.rest ∧ (s.secure n c e).nvm.rest = s.nvm.rest ∧
    ∃ k, ((s.secure n c e).ctx n).cmds = [{ x with nvAt := k }] := by
  subst hq
  unfold State.secure
  split
  · have same : ∃ k, (s.ctx n).cmds = [{ x with nvAt := k }] := ⟨x.nvAt, hown⟩
    split
    · exact ⟨rfl, rfl, rfl, rfl, fun _ _ => rfl, fun _ => rfl, rfl, rfl, same⟩
    · exact ⟨rfl, rfl, rfl, rfl, fun _ _ => rfl, fun _ => rfl, rfl, (s.quiet_nvPut _ _).nrest, same⟩
  · rename_i hk
    simp only
    have hq := s.quiet_nvCopy e
    refine ⟨hq.outside, hq.queue, hq.ports, rfl, fun m hm => ?_, fun m => ?_, hq.hrest, hq.nrest, some s.jrn.nvHead, ?_⟩
    · rw [State.ctx_modCtx_ne _ hm]; rfl
    · by_cases hm : m = n
      · subst hm; rw [State.ctx_modCtx_self]; rfl
      · rw [State.ctx_modCtx_ne _ hm]; rfl
    · rw [State.ctx_modCtx_self]
      have : ((s.nvCopy e).ctx n).cmds = [x] := hown
      rw [← hx]
      exact Ctx.modCmd_one this _

/-- What a completion leaves: the state, and the command, now complete. -/
structure State.Finished (s : State) (n : Fin 8) (x : Cmd) (st : Status) (d : Octets) (t : State) : Prop where
  outside : t.outside = s.outside
  queue   : t.ntc.queue = s.ntc.queue
  ports   : t.hst.ports = s.hst.ports
  mem     : x.slot < 2048 → s.mem.RingOnly t.mem
  memSame : x.entry.seq = 0 → t.mem = s.mem
  nvm     : x.entry.seq = 0 ∨ (x.entry.security = false ∧ st ≠ .authFail) → t.nvm = s.nvm
  others  : ∀ m, m ≠ n → (t.ctx m).cmds = []
  settled : ∀ m, (t.ctx m).settled = (s.ctx m).settled
  hrest   : t.hst.rest = s.hst.rest
  nrest   : t.nvm.rest = s.nvm.rest
  own     : ∃ k, (t.ctx n).cmds = [{ x with phase := .done, status := st, data := d, entry := x.entry.complete st x.dropped, nvAt := k }]

theorem State.finish_finished (s : State) (n : Fin 8) (x : Cmd) (hown : (s.ctx n).cmds = [x]) (hoth : ∀ m, m ≠ n → (s.ctx m).cmds = [])
    (st : Status) (d : Octets) : s.Finished n x st d (s.finish n x.seq st d) := by
  have hc : (s.ctx n).cmd? x.seq = some x := by simp [Ctx.cmd?, hown]
  -- the almanac side
  have hj : ∃ k, ((s.journalDone n x st x.dropped).ctx n).cmds = [{ x with nvAt := k }] ∧
      (s.journalDone n x st x.dropped).outside = s.outside ∧ (s.journalDone n x st x.dropped).ntc.queue = s.ntc.queue ∧
      (s.journalDone n x st x.dropped).hst.ports = s.hst.ports ∧
      (x.slot < 2048 → s.mem.RingOnly (s.journalDone n x st x.dropped).mem) ∧
      (x.entry.seq = 0 → (s.journalDone n x st x.dropped).mem = s.mem) ∧
      (x.entry.seq = 0 ∨ (x.entry.security = false ∧ st ≠ .authFail) → (s.journalDone n x st x.dropped).nvm = s.nvm) ∧
      (∀ m, m ≠ n → ((s.journalDone n x st x.dropped).ctx m).cmds = []) ∧
      (∀ m, ((s.journalDone n x st x.dropped).ctx m).settled = (s.ctx m).settled) ∧
      (s.journalDone n x st x.dropped).hst.rest = s.hst.rest ∧ (s.journalDone n x st x.dropped).nvm.rest = s.nvm.rest := by
    unfold State.journalDone
    split
    · exact ⟨x.nvAt, hown, rfl, rfl, rfl, fun _ => .rfl' _, fun _ => rfl, fun _ => rfl, hoth, fun _ => rfl, rfl, rfl⟩
    · rename_i h0
      simp only
      generalize he : x.entry.complete st x.dropped = e
      have hq := s.quiet_ringUpdate x.slot e
      have hown' : ((s.ringUpdate x.slot e).ctx n).cmds = [x] := by rw [hq.cmds, hown]
      split
      · obtain ⟨a, b, c, m', g, f, hr, nr, k, hk⟩ := State.quiet_secure (s.ringUpdate x.slot e) n x e x.seq rfl x hown' rfl
        refine ⟨k, hk, a.trans hq.outside, b.trans hq.queue, c.trans hq.ports, fun hs => ?_, fun h => absurd h h0, ?_, ?_, ?_, hr.trans hq.hrest, nr.trans hq.nrest⟩
        · rw [m']; exact s.ringOnly_ringUpdate _ hs _
        · intro hx
          rcases hx with hx | ⟨h1, h2⟩
          · exact absurd hx h0
          · rename_i hsec
            rw [← he] at hsec
            simp [Entry.complete, h1, h2] at hsec
        · intro m hm; rw [g m hm, hq.cmds, hoth m hm]
        · intro m; rw [f m, hq.settled]
      · refine ⟨x.nvAt, hown', hq.outside, hq.queue, hq.ports, fun hs => s.ringOnly_ringUpdate _ hs _, fun h => absurd h h0, fun _ => s.ringUpdate_nvm _ _, ?_, hq.settled, hq.hrest, hq.nrest⟩
        intro m hm; rw [hq.cmds, hoth m hm]
  obtain ⟨k, h1, h2, h3, h4, h5, h5', h6, h7, h8, h9, h10⟩ := hj
  unfold State.finish
  simp only [hc]
  generalize hu : s.journalDone n x st x.dropped = u at *
  constructor
  case outside => rw [State.outside_modCtx, h2]
  case queue => rw [State.modCtx_ntc, h3]
  case ports => rw [State.modCtx_hst]; exact h4
  case hrest => rw [State.modCtx_hst]; exact h9
  case nrest => rw [State.modCtx_nvm]; exact h10
  case mem => exact h5
  case memSame => exact h5'
  case nvm => exact h6
  case others => intro m hm; rw [State.ctx_modCtx_ne _ hm]; exact h7 m hm
  case settled =>
    intro m
    by_cases hm : m = n
    · subst hm; rw [State.ctx_modCtx_self, Ctx.modCmd_settled, Ctx.noteStatus_settled, h8]
    · rw [State.ctx_modCtx_ne _ hm, h8]
  case own =>
    refine ⟨k, ?_⟩
    rw [State.ctx_modCtx_self]
    have : ((u.ctx n).noteStatus x.seq st).cmds = [{ x with nvAt := k }] := h1
    exact Ctx.modCmd_one this _

/-! ## The reply -/

theorem State.ports_modPort (s : State) (p q : Port) (f : PortState → PortState) :
    (s.modPort p f).port q = if q = p then f (s.port p) else s.port q := by
  simp only [State.port, State.modPort, Fin.getElem_fin]
  rw [Vector.getElem_set]
  by_cases h : q = p
  · subst h; simp
  · have : ¬ (portIx p).val = (portIx q).val := by revert h; cases p <;> cases q <;> decide
    simp [h, this]

theorem Hst.rateAfter_ctx (h : Hst) (n : Fin 8) (q : BitVec 16) : (h.rateAfter n q).ctx = h.ctx := by unfold Hst.rateAfter; split <;> rfl

theorem State.unpend_ctx (s : State) {n m : Fin 8} (hm : m ≠ n) (q : BitVec 16) : (s.unpend n q).ctx m = s.ctx m := by
  unfold State.unpend
  rw [State.ctx_modCtx_ne _ hm]
  simp only [State.ctx, Hst.rateAfter_ctx]

/-- With one complete command in the device, its reply goes to its port. -/
theorem State.releaseAll_one (s : State) (n : Fin 8) (x : Cmd) (hown : (s.ctx n).cmds = [x]) (hoth : ∀ m, m ≠ n → (s.ctx m).cmds = []) :
    s.releaseAll = s.release n 1 := by
  have hrel : ∀ m, m ≠ n → ((s.release n 1).ctx m).cmds = [] := by
    intro m hm
    have hs : ∀ (p : Port) (dst : BitVec 48) (k : Nat) (pk : Packet), ((s.sendReply p dst k pk).ctx m).cmds = [] := by
      intro p dst k pk; cases p <;> exact hoth m hm
    have hj : ∀ st b, ((s.journalDone n x st b).ctx m).cmds = [] := by
      intro st b
      unfold State.journalDone
      split
      · exact hoth m hm
      · simp only
        split
        · unfold State.secure
          split
          · split
            · rw [(s.quiet_ringUpdate _ _).cmds]; exact hoth m hm
            · rw [((s.ringUpdate _ _).quiet_nvPut _ _).cmds, (s.quiet_ringUpdate _ _).cmds]; exact hoth m hm
          · simp only
            rw [State.ctx_modCtx_ne _ hm, ((s.ringUpdate _ _).quiet_nvCopy _).cmds, (s.quiet_ringUpdate _ _).cmds]; exact hoth m hm
        · rw [(s.quiet_ringUpdate _ _).cmds]; exact hoth m hm
    simp only [State.release]
    split
    · exact hoth m hm
    · rename_i c hc
      have hcx : c = x := by
        simp only [Ctx.ready?, hown, List.find?] at hc
        split at hc
        · split at hc
          · cases hc; rename_i h _; revert h; split <;> intro h <;> cases h; rfl
          · cases hc
        · cases hc
      subst hcx
      split
      · rw [State.unpend_ctx _ hm]; exact hoth m hm
      · split
        · split
          · exact hoth m hm
          · split
            · rw [State.ctx_modCtx_ne _ hm]; exact hs _ _ _ _
            · unfold State.discardReply; rw [State.unpend_ctx _ hm]; exact hj _ _
        · rw [State.ctx_modCtx_ne _ hm]; exact hs _ _ _ _
  have hother : ∀ (u : State), (∀ m, m ≠ n → (u.ctx m).cmds = []) → ∀ m, m ≠ n → u.release m (u.ctx m).cmds.length = u := by
    intro u hu m hm; rw [hu m hm]; rfl
  have hlen : (s.ctx n).cmds.length = 1 := by rw [hown]; rfl
  have pre : ∀ (u : State), (∀ m, m ≠ n → (u.ctx m).cmds = []) → ∀ l : List (Fin 8), n ∉ l → l.foldl (fun s n => s.release n (s.ctx n).cmds.length) u = u := by
    intro u hu l hl
    refine foldl_id _ _ _ (fun m hm => ?_)
    exact hother u hu m (fun e => hl (e ▸ hm))
  have split_ : ∃ a b, allCtx = a ++ n :: b ∧ n ∉ a ∧ n ∉ b := by
    revert n; intro n _ _ _ _ _ _
    exact (by decide : ∀ n : Fin 8, allCtx = allCtx.take n.val ++ n :: allCtx.drop (n.val + 1) ∧ n ∉ allCtx.take n.val ∧ n ∉ allCtx.drop (n.val + 1)) n |>
      fun h => ⟨_, _, h.1, h.2.1, h.2.2⟩
  obtain ⟨a, b, hab, ha, hb⟩ := split_
  unfold State.releaseAll
  rw [hab, List.foldl_append, pre s hoth a ha, List.foldl_cons, hlen, pre _ hrel b hb]

end Sys2Proof.Machine
end

