-- ==== Sys2Proof/Laws/Command.lean ====
section
/-!
SUPPORT. What an accepted host command comes to, once for every command: its body runs on the accepted state, and then its completion and
its reply touch only the host block, the almanac, memory and the store.
-/
namespace Sys2Proof.Machine

open Sys2Proof

/-- What stands after a command whose body left `u` and answered `st` and `d`. -/
structure State.Answered (s : State) (op : Op) (h : Hdr) (p : Octets) (u : State) (st : Status) (d : Octets) (t : State) : Prop where
  outside : t.outside = u.outside
  mem     : u.mem.RingOnly t.mem
  memSame : op.journaled = false → t.mem = u.mem
  nvm     : op.journaled = false ∨ (op.security = false ∧ st ≠ .authFail) → t.nvm = u.nvm
  settled : ∀ m, (t.ctx m).settled = (u.ctx m).settled
  hrest   : t.hst.rest = u.hst.rest
  nrest   : t.nvm.rest = u.nvm.rest
  wired   : h.port ≠ .net → (t.port h.port).out = (u.port h.port).out ++ [replyPacket h.ctx h.seq op st (s.jseq op) d] ∧
      t.ntc.queue = u.ntc.queue
  net     : h.port = .net → u.quarantined = false → u.canSign (BitVec.ofNat 8 (s.replyKey h.ctx op.code p)).toNat = true →
      ∃ more, t.ntc.queue = u.ntc.queue ++ [replyFrame h.ctx h.seq h.src
        (u.packetOctets Port.net (BitVec.ofNat 8 (s.replyKey h.ctx op.code p)).toNat (replyPacket h.ctx h.seq op st (s.jseq op) d) more)]

theorem State.packetOctets_outside {s t : State} (e : t.outside = s.outside) (p : Port) (k : Nat) (x : Packet) (b : Bool) :
    t.packetOctets p k x b = s.packetOctets p k x b := by
  have hc := State.cph_of e
  simp only [State.packetOctets, State.slot, hc]

theorem State.canSign_outside {s t : State} (e : t.outside = s.outside) (k : Nat) : t.canSign k = s.canSign k := by
  have hc := State.cph_of e
  have hs : t.slot k = s.slot k := by simp only [State.slot, hc]
  unfold State.canSign
  rw [hs, hc]

theorem State.ready_done (s : State) (n : Fin 8) (x : Cmd) (hown : (s.ctx n).cmds = [x]) (hp : x.phase = .done) : (s.ctx n).ready? = some x := by
  simp [Ctx.ready?, hown, hp]

theorem State.journalDone_frame (s : State) (n : Fin 8) (c : Cmd) (st : Status) (b : Bool) (hs : c.slot < 2048) (hown : (s.ctx n).cmds = [c]) :
    (s.journalDone n c st b).outside = s.outside ∧ s.mem.RingOnly (s.journalDone n c st b).mem ∧
    (c.entry.seq = 0 → s.journalDone n c st b = s) ∧
    (c.entry.security = false ∧ st ≠ .authFail → (s.journalDone n c st b).nvm = s.nvm) ∧
    (∀ m, ((s.journalDone n c st b).ctx m).settled = (s.ctx m).settled) ∧
    (s.journalDone n c st b).hst.ports = s.hst.ports ∧ (s.journalDone n c st b).ntc.queue = s.ntc.queue ∧
    (s.journalDone n c st b).hst.rest = s.hst.rest ∧ (s.journalDone n c st b).nvm.rest = s.nvm.rest := by
  unfold State.journalDone
  split
  · exact ⟨rfl, .rfl' _, fun _ => rfl, fun _ => rfl, fun _ => rfl, rfl, rfl, rfl, rfl⟩
  · rename_i h0
    simp only
    have hq := s.quiet_ringUpdate c.slot (c.entry.complete st b)
    have hm := s.ringOnly_ringUpdate c.slot hs (c.entry.complete st b)
    split
    · rename_i hsec
      obtain ⟨a, b', e, m', -, f, hr, nr, -⟩ := State.quiet_secure (s.ringUpdate c.slot (c.entry.complete st b)) n c (c.entry.complete st b) c.seq rfl c
        (by rw [hq.cmds, hown]) rfl
      refine ⟨a.trans hq.outside, by rw [m']; exact hm, fun h => absurd h h0, ?_, ?_, e.trans hq.ports, b'.trans hq.queue, hr.trans hq.hrest, nr.trans hq.nrest⟩
      · rintro ⟨h1, h2⟩; simp [Entry.complete, h1, h2] at hsec
      · intro m; rw [f, hq.settled]
    · exact ⟨hq.outside, hm, fun h => absurd h h0, fun _ => s.ringUpdate_nvm _ _, hq.settled, hq.ports, hq.queue, hq.hrest, hq.nrest⟩

theorem State.hst_unpend (s : State) (n : Fin 8) (q : BitVec 16) :
    (s.unpend n q).hst.ports = s.hst.ports ∧ (s.unpend n q).outside = s.outside ∧ (s.unpend n q).mem = s.mem ∧ (s.unpend n q).nvm = s.nvm ∧
    (s.unpend n q).ntc = s.ntc ∧ (∀ m, ((s.unpend n q).ctx m).settled = (s.ctx m).settled) ∧ (s.unpend n q).hst.rest = s.hst.rest := by
  refine ⟨?_, rfl, rfl, rfl, rfl, fun m => ?_, ?_⟩
  · unfold State.unpend
    rw [State.modCtx_hst]
    show (Hst.rateAfter s.hst n q).ports = _
    unfold Hst.rateAfter; split <;> rfl
  · have hr : ∀ k : Fin 8, State.ctx { s with hst := s.hst.rateAfter n q } k = s.ctx k := by
      intro k; simp only [State.ctx, Hst.rateAfter_ctx]
    unfold State.unpend
    by_cases hm : m = n
    · subst hm; rw [State.ctx_modCtx_self, Ctx.unpend_settled, hr]
    · rw [State.ctx_modCtx_ne _ hm, hr]
  · unfold State.unpend
    rw [State.modCtx_hst]
    show Hst.rest { Hst.rateAfter s.hst n q with ctx := _ } = _
    unfold Hst.rateAfter; split <;> rfl

/-- A dispatched command, the only one in the device, completes and is answered. -/
theorem State.answered_finish (s : State) (op : Op) (h : Hdr) (p : Octets) (obs : Obs) (hd : s.jrn.head < 2048) (u : State) (x0 : Cmd)
    (tk : s.CmdOf op h p obs x0) (hown : (u.ctx h.ctx).cmds = [x0]) (hoth : ∀ m, m ≠ h.ctx → (u.ctx m).cmds = []) (st : Status) (d : Octets) :
    s.Answered op h p u st d (u.finish h.ctx h.seq st d).releaseAll := by
  have hslot : x0.slot < 2048 := by rw [tk.cslot]; exact hd
  have fin := u.finish_finished h.ctx x0 hown hoth st d
  rw [tk.cseq] at fin
  generalize hf : u.finish h.ctx h.seq st d = f at *
  obtain ⟨k, hk⟩ := fin.own
  rw [f.releaseAll_one h.ctx _ hk fin.others]
  have hj0 : op.journaled = false → x0.entry.seq = 0 := by
    intro hj; rw [tk.cjseq, State.jseq, hj]; rfl
  have hnv : op.journaled = false ∨ (op.security = false ∧ st ≠ .authFail) → f.nvm = u.nvm := by
    intro hx
    refine fin.nvm ?_
    rcases hx with hx | ⟨h1, h2⟩
    · exact Or.inl (hj0 hx)
    · exact Or.inr ⟨by rw [tk.csec]; exact h1, h2⟩
  have hms : op.journaled = false → f.mem = u.mem := fun hj => fin.memSame (hj0 hj)
  -- the reply
  generalize hx : ({ x0 with phase := .done, status := st, data := d, entry := x0.entry.complete st x0.dropped, nvAt := k } : Cmd) = x at hk
  have xp : x.phase = .done := by rw [← hx]
  have xd : x.dropped = false := by rw [← hx]; exact tk.cdrop
  have xport : x.port = h.port := by rw [← hx]; exact tk.cport
  have xdst : x.dst = h.src := by rw [← hx]; exact tk.cdst
  have xkey : x.key = BitVec.ofNat 8 (s.replyKey h.ctx op.code p) := by rw [← hx]; exact tk.ckey
  have xslot : x.slot < 2048 := by rw [← hx]; exact hslot
  have xe : x.entry.seq = s.jseq op := by rw [← hx]; show x0.entry.seq = _; exact tk.cjseq
  have xst : x.status = st := by rw [← hx]
  have xsec : op.security = false ∧ st ≠ .authFail → x.entry.security = false := by
    rintro ⟨h1, h2⟩
    rw [← hx]
    simp only [Entry.complete, tk.csec, h1]
    simp [h2]
  have xpk : x.packet h.ctx = replyPacket h.ctx h.seq op st (s.jseq op) d := by
    rw [← hx] at xe ⊢
    simp only [Cmd.packet, replyPacket, tk.cseq, tk.cop]
    rw [xe]
  have hready := f.ready_done h.ctx x hk xp
  simp only [State.release, hready, xd, Bool.false_eq_true, if_false, xport]
  have wiredCase : ∀ q : Port, q ≠ .net → h.port = q →
      s.Answered op h p u st d ((f.sendReply q x.dst x.key.toNat (x.packet h.ctx)).modCtx h.ctx (fun y => y.markSent x)) := by
    intro q hq hhq
    have hsend : f.sendReply q x.dst x.key.toNat (x.packet h.ctx) = f.modPort q (fun t => { t with out := t.out ++ [x.packet h.ctx] }) := by
      cases q <;> first | rfl | exact absurd rfl hq
    rw [hsend]
    constructor
    case outside => rw [State.outside_modCtx, State.outside_modPort]; exact fin.outside
    case mem => exact fin.mem hslot
    case memSame => exact hms
    case nvm => exact hnv
    case hrest => exact fin.hrest
    case nrest => exact fin.nrest
    case settled =>
      intro m
      by_cases hm : m = h.ctx
      · subst hm; rw [State.ctx_modCtx_self, Ctx.markSent_settled]; exact fin.settled _
      · rw [State.ctx_modCtx_ne _ hm]; exact fin.settled _
    case wired =>
      intro _
      refine ⟨?_, fin.queue⟩
      have e : ∀ (g : State) (F : Ctx → Ctx), (g.modCtx h.ctx F).port h.port = g.port h.port := fun _ _ => rfl
      rw [e, hhq, State.ports_modPort, if_pos rfl]
      show (f.port q).out ++ _ = _
      rw [xpk]
      have : f.port q = u.port q := by simp only [State.port, fin.ports]
      rw [this]
    case net => intro h'; exact absurd (hhq.symm.trans h') hq
  cases hport : h.port with
  | spiA => exact wiredCase .spiA (by decide) hport
  | spiB => exact wiredCase .spiB (by decide) hport
  | uartC => exact wiredCase .uartC (by decide) hport
  | net =>
    have hnw : ¬ (h.port ≠ Port.net) := fun e => e hport
    simp only
    split
    · rename_i hquar
      refine ⟨fin.outside, fin.mem hslot, hms, hnv, fin.settled, fin.hrest, fin.nrest, fun e => absurd e hnw, ?_⟩
      intro _ hq
      exfalso
      have : f.quarantined = u.quarantined := by simp only [State.quarantined, State.cph_of fin.outside]
      rw [this, hq] at hquar; cases hquar
    · split
      · rename_i hcs
        constructor
        case outside => rw [State.outside_modCtx]; exact fin.outside
        case mem => exact fin.mem hslot
        case memSame => exact hms
        case nvm => exact hnv
        case hrest => exact fin.hrest
        case nrest => exact fin.nrest
        case settled =>
          intro m
          by_cases hm : m = h.ctx
          · subst hm; rw [State.ctx_modCtx_self, Ctx.markSent_settled]; exact fin.settled _
          · rw [State.ctx_modCtx_ne _ hm]; exact fin.settled _
        case wired => exact fun e => absurd e hnw
        case net =>
          intro _ _ _
          refine ⟨(f.ctx h.ctx).hasMore, ?_⟩
          rw [State.modCtx_ntc]
          show f.ntc.queue ++ _ = _
          rw [fin.queue, xdst, xkey, xpk, State.packetOctets_outside fin.outside]
          rfl
      · rename_i hcs
        have hcs' : ¬ u.canSign (BitVec.ofNat 8 (s.replyKey h.ctx op.code p)).toNat = true := by
          rw [← State.canSign_outside fin.outside, ← xkey]; exact hcs
        obtain ⟨j1, j2, j3, j4, j5, j6, j7, j8, j9⟩ := f.journalDone_frame h.ctx x x.status true xslot hk
        obtain ⟨u1, u2, u3, u4, u5, u6, u7⟩ := (f.journalDone h.ctx x x.status true).hst_unpend h.ctx x.seq
        unfold State.discardReply
        constructor
        case outside => rw [u2, j1]; exact fin.outside
        case mem => rw [u3]; exact (fin.mem hslot).trans j2
        case memSame =>
          intro hj
          rw [u3, j3 (by rw [xe]; simp [State.jseq, hj])]; exact hms hj
        case nvm =>
          intro hx'
          rw [u4]
          rcases hx' with hj | hs
          · rw [j3 (by rw [xe]; simp [State.jseq, hj])]; exact hnv (Or.inl hj)
          · rw [j4 ⟨xsec hs, by rw [xst]; exact hs.2⟩]; exact hnv (Or.inr hs)
        case settled => intro m; rw [u6, j5]; exact fin.settled _
        case hrest => rw [u7, j8]; exact fin.hrest
        case nrest => rw [u4, j9]; exact fin.nrest
        case wired => exact fun e => absurd e hnw
        case net => exact fun _ _ hc => absurd hc hcs'


theorem Op.code_ne_open {op : Op} (hp : op.plain = true) : op.code ≠ Op.hstOpen.code := by
  intro e
  apply (Op.plain_ne hp).1
  have := Op.ofCode_code op
  rw [e, Op.ofCode_code] at this
  cases this; rfl

/-- The reply, where the body left the ports, the frames that wait and the key slots. -/
theorem State.Answered.replies {s : State} {op : Op} {h : Hdr} {p : Octets} {obs : Obs} {u t t' : State} {c : Cmd} {st : Status} {d : Octets}
    (an : s.Answered op h p u st d t') (tk : s.Taken op h p obs t c) (hp : op.plain = true) (r : s.Ready op h p obs)
    (h1 : u.hst.ports = t.hst.ports) (h2 : u.ntc.queue = t.ntc.queue) (h3 : u.cph = t.cph) : s.Replies op h st d t' := by
  have hc : t.cph = s.cph := by rw [State.cph_of tk.outside]; unfold State.active; split <;> rfl
  have hk : (BitVec.ofNat 8 (s.replyKey h.ctx op.code p)).toNat = (s.ctx h.ctx).keySlot.toNat := by
    have : s.replyKey h.ctx op.code p = (s.ctx h.ctx).keySlot.toNat := by simp [State.replyKey, Op.code_ne_open hp]
    rw [this]; simp
  constructor
  · intro hn
    have := (an.wired hn).1
    rw [this]
    have : u.port h.port = s.port h.port := by simp only [State.port, h1, tk.ports]
    rw [this]
  · intro hn hq
    have cs : u.canSign (s.ctx h.ctx).keySlot.toNat = s.canSign (s.ctx h.ctx).keySlot.toNat := by
      have hs : ∀ k, u.slot k = s.slot k := by intro k; simp only [State.slot, h3, hc]
      unfold State.canSign
      rw [hs, h3, hc]
    have hsign : s.canSign (s.ctx h.ctx).keySlot.toNat = true := by
      rcases r.2.2.2.2.2.2.2.2.2.2.2.2.2.2 with e | e
      · exact absurd hn e
      · exact e.2.1
    have hqu : u.quarantined = false := by simp only [State.quarantined, h3, hc]; exact hq
    obtain ⟨more, e⟩ := an.net hn hqu (by rw [hk, cs]; exact hsign)
    refine ⟨more, ?_⟩
    rw [e, h2, tk.queue, hk]
    have : ∀ k x, u.packetOctets Port.net k x more = s.packetOctets Port.net k x more := by
      intro k x
      have hs : ∀ k, u.slot k = s.slot k := by intro k; simp only [State.slot, h3, hc]
      simp only [State.packetOctets, hs]
    rw [this]

/-- How far the arbiter carries an accepted command: its dispatch, and what follows. -/
theorem State.command_dispatch (s : State) (op : Op) (h : Hdr) (p : Octets) (obs : Obs) (hp : op.plain = true) (r : s.Ready op h p obs) :
    s.command op h p obs = (((s.accept op h p obs).dispatch h.ctx (s.queuedCmd op h p obs)).dispatchAll 63).sealed.releaseAll := by
  have ta := s.taken_accept op h p obs hp r
  have hcalm := r.1
  have hwork : s.working = true := r.2.1
  have hent : s.pwr.entry = none := r.2.2.2.1
  have hpwr : (s.accept op h p obs).pwr = s.pwr := by
    rw [State.pwr_of ta.outside]; unfold State.active; split <;> rfl
  have hsys : (s.accept op h p obs).sys = s.sys := by
    rw [State.sys_of ta.outside]; unfold State.active; split <;> rfl
  have hseq : (s.accept op h p obs).seq = s.seq := by
    rw [State.seq_of ta.outside]; unfold State.active; split <;> rfl
  unfold State.command
  rw [s.arrive_ready op h p obs hp r]
  generalize ha : s.accept op h p obs = a at *
  have hro : ∀ n, a.ranOff n = false := by
    intro n
    have := hcalm.2.2 n
    simp only [State.ranOff, State.sq, hseq] at this ⊢
    exact this
  have hfl : ∀ n, ∀ c ∈ (a.ctx n).cmds, c.inFlight = false := by
    intro n c hc
    by_cases hn : n = h.ctx
    · subst hn
      rw [ta.own] at hc
      rw [List.mem_singleton.1 hc]
      simp [Cmd.inFlight, ta.cphase]
    · rw [ta.others n hn] at hc; cases hc
  have e0 : a.serveHeld a.jrn.held.length = a := by rw [ta.held]; rfl
  have hwk : a.working = true := by
    simp only [State.working, hpwr, hsys] at hwork ⊢; exact hwork
  have hadm : a.pwr.admits = true := by rw [hpwr]; simp [Pwr.admits, hent]
  simp only [State.settle, e0, a.runOff_of_not _ (hro 0), a.runOff_of_not _ (hro 1), a.runOff_of_not _ (hro 2), a.works_waiting hfl,
    a.sealed_waiting hfl]
  have e2 : a.dispatchAll 64 = (a.dispatch h.ctx (s.queuedCmd op h p obs)).dispatchAll 63 := by
    rw [State.dispatchAll]
    simp only [hwk, hadm, a.flights_one h.ctx _ ta.own ta.cphase ta.others, a.pick_one h.ctx _ ta.own ta.cphase ta.others]
    simp
  rw [e2]

/-- What the arbiter makes of a body's answer. -/
def State.doneWith (u : State) (h : Hdr) (c : Cmd) : Done → State
  | .reply st d => u.finish h.ctx h.seq st d
  | .await w => (State.sealStart (u.modCtx h.ctx (fun x => x.modCmd h.seq (fun y => { y with phase := .running w }))) h.ctx c w).works

/-- Dispatch runs the body. -/
theorem State.dispatch_body (s : State) (op : Op) (h : Hdr) (p : Octets) (obs : Obs) (hp : op.plain = true) (r : s.Ready op h p obs) (u : State)
    (e : Done) (hb : opBody op (s.atDispatch op h p obs).1 h.ctx (s.atDispatch op h p obs).2 = (u, e)) :
    (s.accept op h p obs).dispatch h.ctx (s.queuedCmd op h p obs) = u.doneWith h (s.atDispatch op h p obs).2 e := by
  have ta := s.taken_accept op h p obs hp r
  unfold State.dispatch
  have e1 : (s.atDispatch op h p obs) = State.stampDispatch { s.accept op h p obs with hst := { (s.accept op h p obs).hst with rrNext := h.ctx + 1 } } h.ctx (s.queuedCmd op h p obs) := rfl
  simp only [← e1]
  rw [ta.cop, hb, ta.cseq]
  cases e <;> rfl

/-- With no command waiting or in flight, nothing follows a dispatch but the replies. -/
theorem State.after_dispatch (f : State) (k : Nat) (hn : ∀ n, ∀ c ∈ (f.ctx n).cmds, c.isWaiting = false ∧ c.inFlight = false) :
    (f.dispatchAll k).sealed = f := by
  rw [State.dispatchAll_none _ (fun n c hc => (hn n c hc).1), State.sealed_waiting _ (fun n c hc => (hn n c hc).2)]

theorem State.finished_settled {s : State} {n : Fin 8} {x : Cmd} {st : Status} {d : Octets} {t : State} (fin : s.Finished n x st d t) :
    ∀ m, ∀ c ∈ (t.ctx m).cmds, c.isWaiting = false ∧ c.inFlight = false := by
  obtain ⟨k, hk⟩ := fin.own
  intro m c hc
  by_cases hm : m = n
  · subst hm
    rw [hk] at hc
    rw [List.mem_singleton.1 hc]
    simp [Cmd.isWaiting, Cmd.inFlight]
  · rw [fin.others m hm] at hc; cases hc

/-- An accepted host command that its body answers. -/
theorem State.command_reply (s : State) (op : Op) (h : Hdr) (p : Octets) (obs : Obs) (hp : op.plain = true) (r : s.Ready op h p obs) :
    ∃ t c, s.Taken op h p obs t c ∧ ∀ u st d, opBody op t h.ctx c = (u, .reply st d) → (∀ m, (u.ctx m).cmds = (t.ctx m).cmds) →
      s.Answered op h p u st d (s.command op h p obs) := by
  have tk := s.taken_atDispatch op h p obs hp r
  refine ⟨_, _, tk, ?_⟩
  intro u st d hb hcm
  have hown := (hcm h.ctx).trans tk.own
  have hoth := fun m hm => (hcm m).trans (tk.others m hm)
  rw [s.command_dispatch op h p obs hp r, s.dispatch_body op h p obs hp r u _ hb]
  have fin := u.finish_finished h.ctx _ hown hoth st d
  rw [tk.cseq] at fin
  simp only [State.doneWith]
  rw [State.after_dispatch _ _ (State.finished_settled fin)]
  exact s.answered_finish op h p obs r.2.2.2.2.2.2.2.2.2.2.2.2.2.1 u _ tk.toCmdOf hown hoth st d

theorem Nvm.rest_startCommit (n : Nvm) : n.startCommit.rest = n.rest := by
  unfold Nvm.startCommit
  split
  · rfl
  · split <;> rfl

/-- What stands after a command whose body left `u` and waits. -/
structure State.Waits (h : Hdr) (u : State) (t : State) : Prop where
  outside : t.outside = u.outside
  mem     : u.mem.RingOnly t.mem
  settled : ∀ m, (t.ctx m).settled = (u.ctx m).settled
  hrest   : t.hst.rest = u.hst.rest
  nrest   : t.nvm.rest = u.nvm.rest

theorem State.runningState (u : State) (n : Fin 8) (c : Cmd) (q : BitVec 16) (hq : c.seq = q) (w : Wait) (hown : (u.ctx n).cmds = [c]) (hoth : ∀ m, m ≠ n → (u.ctx m).cmds = []) :
    ((u.modCtx n (fun x => x.modCmd q (fun y => { y with phase := .running w }))).ctx n).cmds = [{ c with phase := .running w }] ∧
    (∀ m, m ≠ n → ((u.modCtx n (fun x => x.modCmd q (fun y => { y with phase := .running w }))).ctx m).cmds = []) ∧
    (∀ m, ((u.modCtx n (fun x => x.modCmd q (fun y => { y with phase := .running w }))).ctx m).settled = (u.ctx m).settled) := by
  subst hq
  refine ⟨?_, fun m hm => ?_, fun m => ?_⟩
  · rw [State.ctx_modCtx_self, Ctx.modCmd_one hown]
  · rw [State.ctx_modCtx_ne _ hm, hoth m hm]
  · by_cases hm : m = n
    · subst hm; rw [State.ctx_modCtx_self, Ctx.modCmd_settled]
    · rw [State.ctx_modCtx_ne _ hm]

theorem State.works_running (s : State) (h : ∀ n, ∀ c ∈ (s.ctx n).cmds, ∀ o, c.phase ≠ .running (.work o)) : s.works = s := by
  have hw : ∀ n, ∀ c ∈ (s.ctx n).cmds, s.workOf n c = s := by
    intro n c hc
    have := h n c hc
    cases hp : c.phase with
    | running w =>
      cases w
      case work o => exact absurd hp (this o)
      all_goals simp [State.workOf, Cmd.wait?, hp]
    | waiting => simp [State.workOf, Cmd.wait?, hp]
    | done => simp [State.workOf, Cmd.wait?, hp]
    | sent => simp [State.workOf, Cmd.wait?, hp]
  unfold State.works
  exact foldl_id _ _ _ (fun n _ => foldl_id _ _ _ (fun c hc => hw n c hc))

/-- Whether the seal of the store ends a wait. -/
def Wait.sealable : Wait → Bool
  | .seal _ _ _ => true
  | .commit _ _ => true
  | .ramp _ => true
  | _ => false

/-- An accepted host command whose body waits for something other than the store or a gap: it stays in flight. -/
theorem State.command_await (s : State) (op : Op) (h : Hdr) (p : Octets) (obs : Obs) (hp : op.plain = true) (r : s.Ready op h p obs) :
    ∃ t c, s.Taken op h p obs t c ∧ ∀ u w, opBody op t h.ctx c = (u, .await w) → (∀ m, (u.ctx m).cmds = (t.ctx m).cmds) →
      w.sealStatus = none → (∀ o, w ≠ .work o) →
      s.command op h p obs = u.modCtx h.ctx (fun x => x.modCmd h.seq (fun y => { y with phase := .running w })) ∧
      ((s.command op h p obs).ctx h.ctx).cmds = [{ c with phase := .running w }] ∧ State.Waits h u (s.command op h p obs) := by
  have tk := s.taken_atDispatch op h p obs hp r
  refine ⟨_, _, tk, ?_⟩
  intro u w hb hcm hw hno
  have hown := (hcm h.ctx).trans tk.own
  have hoth := fun m hm => (hcm m).trans (tk.others m hm)
  obtain ⟨r1, r2, r3⟩ := u.runningState h.ctx _ h.seq tk.cseq w hown hoth
  have hstart : ∀ v : State, v.sealStart h.ctx (s.atDispatch op h p obs).2 w = v := by intro v; unfold State.sealStart; simp [hw]
  have hnw : ∀ n, ∀ c ∈ ((u.modCtx h.ctx (fun x => x.modCmd h.seq (fun y => { y with phase := .running w }))).ctx n).cmds, c.phase = .running w := by
    intro n c hc
    by_cases hn : n = h.ctx
    · subst hn; rw [r1] at hc; rw [List.mem_singleton.1 hc]
    · rw [r2 n hn] at hc; cases hc
  have hcmd : s.command op h p obs = u.modCtx h.ctx (fun x => x.modCmd h.seq (fun y => { y with phase := .running w })) := by
    rw [s.command_dispatch op h p obs hp r, s.dispatch_body op h p obs hp r u _ hb]
    simp only [State.doneWith, hstart]
    rw [State.works_running _ (fun n c hc o => by rw [hnw n c hc]; intro e; cases e; exact hno o rfl)]
    rw [State.dispatchAll_none _ (fun n c hc => by simp [Cmd.isWaiting, hnw n c hc])]
    have hsealed : ∀ v : State, (∀ n, ∀ c ∈ (v.ctx n).cmds, c.phase = .running w) → v.sealed = v := by
      intro v hv
      unfold State.sealed
      by_cases he : (v.nvm.bufPages.isEmpty && v.nvm.backlog.isEmpty) = true
      case neg => rw [if_neg he]
      rw [if_pos he]
      unfold State.sealReplies State.finishWhere
      refine foldl_id _ _ _ (fun n _ => ?_)
      rw [List.filter_eq_nil_iff.2]
      · rfl
      · intro c hc
        have hp := hv n c hc
        simp only [Cmd.wait?, hp]
        cases w <;> simp_all [Wait.sealStatus]
    rw [hsealed _ hnw]
    refine State.releaseAll_none _ (fun n => ?_)
    by_cases hn : n = h.ctx
    · subst hn
      unfold Ctx.ready?
      rw [r1]
      simp
    · exact Ctx.ready?_nil (r2 n hn)
  refine ⟨hcmd, ?_, ?_⟩
  · rw [hcmd]; exact r1
  · rw [hcmd]; exact ⟨rfl, .rfl' _, r3, rfl, rfl⟩

theorem State.finishWhere_one (s : State) (n : Fin 8) (x : Cmd) (hown : (s.ctx n).cmds = [x]) (hoth : ∀ m, m ≠ n → (s.ctx m).cmds = [])
    (t : Cmd → Bool) (r : Cmd → Status × Octets) :
    s.finishWhere t r = if (x.inFlight && t x) = true then s.finish n x.seq (r x).1 (r x).2 else s := by
  obtain ⟨a, b, hab, ha, hb'⟩ : ∃ a b, allCtx = a ++ n :: b ∧ n ∉ a ∧ n ∉ b :=
    ((by decide : ∀ n : Fin 8, allCtx = allCtx.take n.val ++ n :: allCtx.drop (n.val + 1) ∧ n ∉ allCtx.take n.val ∧ n ∉ allCtx.drop (n.val + 1)) n) |>
    fun h => ⟨_, _, h.1, h.2.1, h.2.2⟩
  have idle : ∀ (g : State), (∀ m, m ≠ n → (g.ctx m).cmds = []) → ∀ l : List (Fin 8), n ∉ l →
      l.foldl (fun s n => ((s.ctx n).cmds.filter (fun c => c.inFlight && t c)).foldl (fun s c => s.finish n c.seq (r c).1 (r c).2) s) g = g := by
    intro g hg' l hl
    refine foldl_id _ _ _ (fun m hm => ?_)
    rw [hg' m (fun e => hl (e ▸ hm))]; rfl
  unfold State.finishWhere
  rw [hab, List.foldl_append, idle s hoth a ha, List.foldl_cons, hown]
  have fin := s.finish_finished n x hown hoth (r x).1 (r x).2
  by_cases hx : (x.inFlight && t x) = true
  · rw [if_pos hx, List.filter_cons, if_pos hx, List.filter_nil, List.foldl_cons, List.foldl_nil, idle _ fin.others b hb']
  · rw [if_neg hx, List.filter_cons, if_neg hx, List.filter_nil, List.foldl_nil, idle _ hoth b hb']

/-- The seal replies of a device with one command: none, or that command's. -/
theorem State.sealed_one (s : State) (n : Fin 8) (x : Cmd) (hown : (s.ctx n).cmds = [x]) (hoth : ∀ m, m ≠ n → (s.ctx m).cmds = []) :
    s.sealed = s ∨ ∃ st d, s.sealed = s.finish n x.seq st d := by
  have key : ∀ (t : Cmd → Bool) (r : Cmd → Status × Octets), s.finishWhere t r = s ∨ ∃ st d, s.finishWhere t r = s.finish n x.seq st d := by
    intro t r
    rw [s.finishWhere_one n x hown hoth]
    by_cases h : (x.inFlight && t x) = true
    · rw [if_pos h]; exact Or.inr ⟨_, _, rfl⟩
    · rw [if_neg h]; exact Or.inl rfl
  unfold State.sealed
  split
  · unfold State.sealReplies
    exact key _ _
  · exact Or.inl rfl

/-- An accepted host command whose body waits for the seal of its change: the change stands, and the reply follows the seal, or goes at once
where nothing is left to seal. -/
theorem State.command_seal (s : State) (op : Op) (h : Hdr) (p : Octets) (obs : Obs) (hp : op.plain = true) (r : s.Ready op h p obs) :
    ∃ t c, s.Taken op h p obs t c ∧ ∀ u w, opBody op t h.ctx c = (u, .await w) → (∀ m, (u.ctx m).cmds = (t.ctx m).cmds) →
      (∀ o, w ≠ .work o) → State.Waits h u (s.command op h p obs) := by
  have tk := s.taken_atDispatch op h p obs hp r
  refine ⟨_, _, tk, ?_⟩
  intro u w hb hcm hno
  have hown := (hcm h.ctx).trans tk.own
  have hoth := fun m hm => (hcm m).trans (tk.others m hm)
  obtain ⟨r1, r2, r3⟩ := u.runningState h.ctx _ h.seq tk.cseq w hown hoth
  rw [s.command_dispatch op h p obs hp r, s.dispatch_body op h p obs hp r u _ hb]
  generalize hz : u.modCtx h.ctx (fun x => x.modCmd h.seq (fun y => { y with phase := .running w })) = z at *
  have z1 : z.outside = u.outside := by rw [← hz]; rfl
  have z2 : z.mem = u.mem := by rw [← hz]; rfl
  have z3 : z.hst.rest = u.hst.rest := by rw [← hz]; rfl
  have z4 : z.nvm = u.nvm := by rw [← hz]; rfl
  -- the entry that joins the buffer
  have hss : ∃ y, y.seq = h.seq ∧ y.phase = .running w ∧ s.CmdOf op h p obs y ∧
      ((z.sealStart h.ctx (s.atDispatch op h p obs).2 w).ctx h.ctx).cmds = [y] ∧
      (∀ m, m ≠ h.ctx → ((z.sealStart h.ctx (s.atDispatch op h p obs).2 w).ctx m).cmds = []) ∧
      (z.sealStart h.ctx (s.atDispatch op h p obs).2 w).outside = u.outside ∧ (z.sealStart h.ctx (s.atDispatch op h p obs).2 w).mem = u.mem ∧
      (∀ m, ((z.sealStart h.ctx (s.atDispatch op h p obs).2 w).ctx m).settled = (u.ctx m).settled) ∧
      (z.sealStart h.ctx (s.atDispatch op h p obs).2 w).hst.rest = u.hst.rest ∧
      (z.sealStart h.ctx (s.atDispatch op h p obs).2 w).nvm.rest = u.nvm.rest := by
    have cof : ∀ k : Option Nat, s.CmdOf op h p obs { (s.atDispatch op h p obs).2 with phase := .running w, nvAt := k } := fun k =>
      ⟨tk.cop, tk.cp, tk.cobs, tk.cport, tk.cdst, tk.cseq, tk.crole, tk.ckey, tk.cdrop, tk.cjseq, tk.csec, tk.cslot⟩
    unfold State.sealStart
    split
    · exact ⟨{ (s.atDispatch op h p obs).2 with phase := .running w }, tk.cseq, rfl, cof (s.atDispatch op h p obs).2.nvAt, r1, r2, z1, z2, r3, z3, by rw [z4]⟩
    · rename_i st _
      simp only
      split
      · obtain ⟨a, -, -, m', g, f, hr, nr, k, hk⟩ := z.quiet_secure h.ctx (s.atDispatch op h p obs).2 ((s.atDispatch op h p obs).2.entry.complete st false)
          h.seq tk.cseq _ r1 tk.cseq
        refine ⟨{ (s.atDispatch op h p obs).2 with phase := .running w, nvAt := k }, tk.cseq, rfl, cof k, hk, ?_, ?_, ?_, ?_, hr.trans z3, ?_⟩
        · intro m hm; exact (g m hm).trans (r2 m hm)
        · exact a.trans z1
        · exact m'.trans z2
        · intro m; exact (f m).trans (r3 m)
        · show (Nvm.startCommit (z.secure _ _ _).nvm).rest = _
          rw [Nvm.rest_startCommit, nr, z4]
      · refine ⟨{ (s.atDispatch op h p obs).2 with phase := .running w }, tk.cseq, rfl, cof (s.atDispatch op h p obs).2.nvAt, r1, r2, z1, z2, r3, z3, ?_⟩
        show (Nvm.startCommit z.nvm).rest = _
        rw [Nvm.rest_startCommit, z4]
  obtain ⟨y, y1, y2, y3, g1, g2, g3, g4, g5, g6, g7⟩ := hss
  simp only [State.doneWith, hz]
  generalize z.sealStart h.ctx (s.atDispatch op h p obs).2 w = g at *
  have hph : ∀ n, ∀ c ∈ (g.ctx n).cmds, c.phase = .running w := by
    intro n c hc
    by_cases hn : n = h.ctx
    · subst hn; rw [g1] at hc; rw [List.mem_singleton.1 hc]; exact y2
    · rw [g2 n hn] at hc; cases hc
  rw [State.works_running _ (fun n c hc o => by rw [hph n c hc]; intro e; cases e; exact hno o rfl)]
  rw [State.dispatchAll_none _ (fun n c hc => by simp [Cmd.isWaiting, hph n c hc])]
  rcases g.sealed_one h.ctx y g1 g2 with e | ⟨st, d, e⟩
  · rw [e, State.releaseAll_none]
    · exact ⟨g3, by rw [g4]; exact .rfl' _, g5, g6, g7⟩
    · intro n
      by_cases hn : n = h.ctx
      · subst hn
        unfold Ctx.ready?
        rw [g1]
        simp [y2]
      · exact Ctx.ready?_nil (g2 n hn)
  · rw [e, y1]
    have an := s.answered_finish op h p obs r.2.2.2.2.2.2.2.2.2.2.2.2.2.1 g y y3 g1 g2 st d
    exact ⟨an.outside.trans g3, by rw [← g4]; exact an.mem, fun m => (an.settled m).trans (g5 m), an.hrest.trans g6, an.nrest.trans g7⟩

/-- An accepted host command whose work runs in the gap that is there. -/
theorem State.command_work (s : State) (op : Op) (h : Hdr) (p : Octets) (obs : Obs) (hp : op.plain = true) (r : s.Ready op h p obs) :
    ∃ t c, s.Taken op h p obs t c ∧ ∀ u o, opBody op t h.ctx c = (u, .await (.work o)) → (∀ m, (u.ctx m).cmds = (t.ctx m).cmds) →
      State.gate (u.modCtx h.ctx (fun x => x.modCmd h.seq (fun y => { y with phase := .running (.work o) }))) op = true →
      ∀ v st d, State.doWork (u.modCtx h.ctx (fun x => x.modCmd h.seq (fun y => { y with phase := .running (.work o) })))
          { c with phase := .running (.work o) } o = (v, st, d) →
        (∀ m, (v.ctx m).cmds = ((u.modCtx h.ctx (fun x => x.modCmd h.seq (fun y => { y with phase := .running (.work o) }))).ctx m).cmds) →
        s.Answered op h p v st d (s.command op h p obs) := by
  have tk := s.taken_atDispatch op h p obs hp r
  refine ⟨_, _, tk, ?_⟩
  intro u o hb hcm hg v st d hv hvc
  have hown := (hcm h.ctx).trans tk.own
  have hoth := fun m hm => (hcm m).trans (tk.others m hm)
  obtain ⟨r1, r2, r3⟩ := u.runningState h.ctx _ h.seq tk.cseq (.work o) hown hoth
  rw [s.command_dispatch op h p obs hp r, s.dispatch_body op h p obs hp r u _ hb]
  generalize hz : u.modCtx h.ctx (fun x => x.modCmd h.seq (fun y => { y with phase := .running (.work o) })) = z at *
  generalize hx : ({ (s.atDispatch op h p obs).2 with phase := .running (.work o) } : Cmd) = x at *
  have hstart : ∀ v : State, v.sealStart h.ctx (s.atDispatch op h p obs).2 (.work o) = v := by intro v; rfl
  simp only [State.doneWith, hz, hstart]
  have xop : x.op = op := by rw [← hx]; exact tk.cop
  have xseq : x.seq = h.seq := by rw [← hx]; exact tk.cseq
  have xw : x.wait? = some (.work o) := by rw [← hx]; rfl
  have vown : (v.ctx h.ctx).cmds = [x] := (hvc h.ctx).trans r1
  have voth : ∀ m, m ≠ h.ctx → (v.ctx m).cmds = [] := fun m hm => (hvc m).trans (r2 m hm)
  have fin := v.finish_finished h.ctx x vown voth st d
  rw [xseq] at fin
  have hworks : z.works = v.finish h.ctx h.seq st d := by
    have step : z.workOf h.ctx x = v.finish h.ctx h.seq st d := by
      unfold State.workOf
      simp only [xw, xop, hg, hv, xseq, if_true]
    obtain ⟨a, b, hab, ha, hb'⟩ : ∃ a b, allCtx = a ++ h.ctx :: b ∧ h.ctx ∉ a ∧ h.ctx ∉ b :=
      ((by decide : ∀ n : Fin 8, allCtx = allCtx.take n.val ++ n :: allCtx.drop (n.val + 1) ∧ n ∉ allCtx.take n.val ∧ n ∉ allCtx.drop (n.val + 1)) h.ctx) |>
      fun h => ⟨_, _, h.1, h.2.1, h.2.2⟩
    have idle : ∀ (g : State), (∀ m, m ≠ h.ctx → (g.ctx m).cmds = []) → ∀ l : List (Fin 8), h.ctx ∉ l →
        l.foldl (fun s n => (s.ctx n).cmds.foldl (fun s c => s.workOf n c) s) g = g := by
      intro g hg' l hl
      refine foldl_id _ _ _ (fun m hm => ?_)
      rw [hg' m (fun e => hl (e ▸ hm))]; rfl
    unfold State.works
    rw [hab, List.foldl_append, idle z r2 a ha, List.foldl_cons, r1]
    show List.foldl _ (List.foldl (fun s c => s.workOf h.ctx c) z [x]) b = _
    rw [List.foldl_cons, List.foldl_nil, step, idle _ fin.others b hb']
  rw [hworks, State.after_dispatch _ _ (State.finished_settled fin)]
  refine s.answered_finish op h p obs r.2.2.2.2.2.2.2.2.2.2.2.2.2.1 v x ?_ vown voth st d
  rw [← hx]
  exact ⟨tk.cop, tk.cp, tk.cobs, tk.cport, tk.cdst, tk.cseq, tk.crole, tk.ckey, tk.cdrop, tk.cjseq, tk.csec, tk.cslot⟩

/-- A body's change of the accepted state is that change of the state before, for whoever looks past the handling of the command. -/
theorem State.Answered.becomes {s : State} {op : Op} {h : Hdr} {p : Octets} {u v t' : State} {st : Status} {d : Octets}
    (an : s.Answered op h p u st d t') (hb : v.Becomes u) : v.Becomes t' :=
  ⟨an.outside.trans hb.outside, fun m => (an.settled m).trans (hb.settled m), an.hrest.trans hb.hrest, an.nrest.trans hb.nrest,
   hb.mem.trans an.mem⟩

theorem State.Waits.becomes {h : Hdr} {u v t' : State} (an : State.Waits h u t') (hb : v.Becomes u) : v.Becomes t' :=
  ⟨an.outside.trans hb.outside, fun m => (an.settled m).trans (hb.settled m), an.hrest.trans hb.hrest, an.nrest.trans hb.nrest,
   hb.mem.trans an.mem⟩

/-- The accepted state is the state before, with the activity counted. -/
theorem State.Taken.becomes {s : State} {op : Op} {h : Hdr} {p : Octets} {obs : Obs} {t : State} {c : Cmd} (tk : s.Taken op h p obs t c) :
    (s.active op).Becomes t := by
  refine ⟨tk.outside, fun m => ?_, ?_, ?_, ?_⟩
  · rw [State.active_ctx]; exact tk.settled m
  · rw [State.active_hst]; exact tk.hrest
  · rw [State.active_nvm, tk.nvm]
  · rw [State.active_mem]; exact tk.mem

theorem State.Taken.granted {s : State} {op : Op} {h : Hdr} {p : Octets} {obs : Obs} {t : State} {c : Cmd} (tk : s.Taken op h p obs t c) :
    s.Granted op t := ⟨tk.outside, tk.nvm, tk.ports, tk.hrest, fun hj => ⟨tk.memSame hj, tk.jrnSame hj⟩⟩

/-- A command its body answers at once: what it makes of the state, and its reply. -/
theorem State.run_reply (s : State) (op : Op) (h : Hdr) (p : Octets) (obs : Obs) (hp : op.plain = true) (r : s.Ready op h p obs)
    (F : State → State) (st : Status) (D : State → Octets) (v : State)
    (hb : ∀ t c, s.Taken op h p obs t c → opBody op t h.ctx c = (F t, .reply st (D t)))
    (hc : ∀ t m, ((F t).ctx m).cmds = (t.ctx m).cmds)
    (hE : ∀ t c, s.Taken op h p obs t c → v.Becomes (F t)) :
    ∃ u, s.Granted op u ∧ v.Becomes (s.command op h p obs) ∧
      ((F u).hst.ports = u.hst.ports → (F u).ntc.queue = u.ntc.queue → (F u).cph = u.cph → s.Replies op h st (D u) (s.command op h p obs)) := by
  obtain ⟨t, c, tk, hk⟩ := s.command_reply op h p obs hp r
  have an := hk _ _ _ (hb t c tk) (hc t)
  exact ⟨t, tk.granted, an.becomes (hE t c tk), fun h1 h2 h3 => an.replies tk hp r h1 h2 h3⟩

/-- A command whose body waits for the store: what it makes of the state. -/
theorem State.run_seal (s : State) (op : Op) (h : Hdr) (p : Octets) (obs : Obs) (hp : op.plain = true) (r : s.Ready op h p obs)
    (F : State → State) (W : State → Wait) (v : State)
    (hb : ∀ t c, s.Taken op h p obs t c → opBody op t h.ctx c = (F t, .await (W t)))
    (hno : ∀ t o, W t ≠ .work o)
    (hc : ∀ t m, ((F t).ctx m).cmds = (t.ctx m).cmds)
    (hE : ∀ t c, s.Taken op h p obs t c → v.Becomes (F t)) : v.Becomes (s.command op h p obs) := by
  obtain ⟨t, c, tk, hk⟩ := s.command_seal op h p obs hp r
  exact (hk _ _ (hb t c tk) (hc t) (hno t)).becomes (hE t c tk)

end Sys2Proof.Machine
end

