-- ==== Sys2Proof/Laws/Becomes.lean ====
section
/-!
SUPPORT. `State.Becomes` under the named updates: the same change on both sides.
-/
namespace Sys2Proof.Machine

open Sys2Proof

theorem State.Becomes.rfl' (s : State) : s.Becomes s := ⟨rfl, fun _ => rfl, rfl, rfl, .rfl' _⟩

theorem State.Becomes.trans {a b c : State} (h : a.Becomes b) (k : b.Becomes c) : a.Becomes c :=
  ⟨k.outside.trans h.outside, fun m => (k.settled m).trans (h.settled m), k.hrest.trans h.hrest, k.nrest.trans h.nrest, h.mem.trans k.mem⟩

theorem State.Quiet.becomes {a b : State} (h : a.Quiet b) (hm : a.mem.RingOnly b.mem) : a.Becomes b :=
  ⟨h.outside, h.settled, h.hrest, h.nrest, hm⟩

theorem State.ntc_of {s t : State} (h : t.outside = s.outside) : ({ t.ntc with queue := [] } : Ntc) = { s.ntc with queue := [] } := by
  have e := congrArg State.ntc h
  exact e

theorem State.Becomes.sys {s t : State} (h : s.Becomes t) (x : Sys) : ({ s with sys := x } : State).Becomes { t with sys := x } :=
  ⟨by have e := congrArg (fun z : State => { z with sys := x }) h.outside; exact e, h.settled, h.hrest, h.nrest, h.mem⟩

theorem State.Becomes.pwr {s t : State} (h : s.Becomes t) (x : Pwr) : ({ s with pwr := x } : State).Becomes { t with pwr := x } :=
  ⟨by have e := congrArg (fun z : State => { z with pwr := x }) h.outside; exact e, h.settled, h.hrest, h.nrest, h.mem⟩

theorem State.Becomes.aon {s t : State} (h : s.Becomes t) (x : Aon) : ({ s with aon := x } : State).Becomes { t with aon := x } :=
  ⟨by have e := congrArg (fun z : State => { z with aon := x }) h.outside; exact e, h.settled, h.hrest, h.nrest, h.mem⟩

theorem State.Becomes.cph {s t : State} (h : s.Becomes t) (x : Cph) : ({ s with cph := x } : State).Becomes { t with cph := x } :=
  ⟨by have e := congrArg (fun z : State => { z with cph := x }) h.outside; exact e, h.settled, h.hrest, h.nrest, h.mem⟩

theorem State.Becomes.seq {s t : State} (h : s.Becomes t) (x : SeqBlock) : ({ s with seq := x } : State).Becomes { t with seq := x } :=
  ⟨by have e := congrArg (fun z : State => { z with seq := x }) h.outside; exact e, h.settled, h.hrest, h.nrest, h.mem⟩

theorem State.Becomes.tmr {s t : State} (h : s.Becomes t) (x : Tmr) : ({ s with tmr := x } : State).Becomes { t with tmr := x } :=
  ⟨by have e := congrArg (fun z : State => { z with tmr := x }) h.outside; exact e, h.settled, h.hrest, h.nrest, h.mem⟩

theorem State.Becomes.crd {s t : State} (h : s.Becomes t) (x : Crd) : ({ s with crd := x } : State).Becomes { t with crd := x } :=
  ⟨by have e := congrArg (fun z : State => { z with crd := x }) h.outside; exact e, h.settled, h.hrest, h.nrest, h.mem⟩

theorem State.Becomes.lf {s t : State} (h : s.Becomes t) (x : Lf) : ({ s with lf := x } : State).Becomes { t with lf := x } :=
  ⟨by have e := congrArg (fun z : State => { z with lf := x }) h.outside; exact e, h.settled, h.hrest, h.nrest, h.mem⟩

theorem State.Becomes.uhf {s t : State} (h : s.Becomes t) (x : Uhf) : ({ s with uhf := x } : State).Becomes { t with uhf := x } :=
  ⟨by have e := congrArg (fun z : State => { z with uhf := x }) h.outside; exact e, h.settled, h.hrest, h.nrest, h.mem⟩

theorem State.Becomes.uwb {s t : State} (h : s.Becomes t) (x : Uwb) : ({ s with uwb := x } : State).Becomes { t with uwb := x } :=
  ⟨by have e := congrArg (fun z : State => { z with uwb := x }) h.outside; exact e, h.settled, h.hrest, h.nrest, h.mem⟩

theorem State.Becomes.hrv {s t : State} (h : s.Becomes t) (x : Hrv) : ({ s with hrv := x } : State).Becomes { t with hrv := x } :=
  ⟨by have e := congrArg (fun z : State => { z with hrv := x }) h.outside; exact e, h.settled, h.hrest, h.nrest, h.mem⟩

theorem State.Becomes.free {s t : State} (h : s.Becomes t) (x : Nat) : ({ s with free := x } : State).Becomes { t with free := x } :=
  ⟨by have e := congrArg (fun z : State => { z with free := x }) h.outside; exact e, h.settled, h.hrest, h.nrest, h.mem⟩

theorem State.Becomes.pending {s t : State} (h : s.Becomes t) (x : List Instr) : ({ s with pending := x } : State).Becomes { t with pending := x } :=
  ⟨by have e := congrArg (fun z : State => { z with pending := x }) h.outside; exact e, h.settled, h.hrest, h.nrest, h.mem⟩

/-- A change of the network block that does not look at the frames that wait. -/
theorem State.Becomes.modNtc {s t : State} (h : s.Becomes t) (f : Ntc → Ntc)
    (hf : ∀ n q, ({ f { n with queue := q } with queue := [] } : Ntc) = { f n with queue := [] }) : (s.modNtc f).Becomes (t.modNtc f) := by
  refine ⟨?_, h.settled, h.hrest, h.nrest, h.mem⟩
  have e := congrArg (fun z : State => { z with ntc := { f z.ntc with queue := [] } }) h.outside
  have es : ({ f ({ s.ntc with queue := [] } : Ntc) with queue := [] } : Ntc) = { f s.ntc with queue := [] } := hf s.ntc []
  have et : ({ f ({ t.ntc with queue := [] } : Ntc) with queue := [] } : Ntc) = { f t.ntc with queue := [] } := hf t.ntc []
  have l : (t.modNtc f).outside = { t.outside with ntc := { f t.outside.ntc with queue := [] } } := by
    show State.outside { t with ntc := f t.ntc } = _
    simp only [State.outside, et]
  have r : (s.modNtc f).outside = { s.outside with ntc := { f s.outside.ntc with queue := [] } } := by
    show State.outside { s with ntc := f s.ntc } = _
    simp only [State.outside, es]
  rw [l, r]
  exact e

/-- A change of a context whose settled part depends on the settled part alone. -/
theorem State.Becomes.modCtx {s t : State} (h : s.Becomes t) (n : Fin 8) (f : Ctx → Ctx)
    (hf : ∀ x y : Ctx, x.settled = y.settled → (f x).settled = (f y).settled) : (s.modCtx n f).Becomes (t.modCtx n f) := by
  refine ⟨h.outside, fun m => ?_, h.hrest, h.nrest, h.mem⟩
  by_cases hm : m = n
  · subst hm; rw [State.ctx_modCtx_self, State.ctx_modCtx_self]; exact hf _ _ (h.settled m)
  · rw [State.ctx_modCtx_ne _ hm, State.ctx_modCtx_ne _ hm]; exact h.settled m

/-- Words put into the write buffer. -/
theorem State.Becomes.storeWords {s t : State} (h : s.Becomes t) (a : Nat) (ws : List Word) : s.Becomes (t.storeWords a ws) :=
  ⟨h.outside, h.settled, h.hrest, (Nvm.rest_bufWrite _ _ _).trans h.nrest, h.mem⟩

theorem State.Becomes.storeReg {s t : State} (h : s.Becomes t) (r : Nat) (w : Word) : s.Becomes (t.storeReg r w) := h.storeWords _ _

/-- A change of the memory block beside its words. -/
theorem State.Becomes.mem' {s t : State} (h : s.Becomes t) (f : Mem → Mem) (hc : ∀ m, (f m).cells = m.cells) (hm : ∀ m, (f m).map = m.map)
    (hf : ∀ m l, f { m with cells := l } = { f m with cells := l }) : ({ s with mem := f s.mem } : State).Becomes { t with mem := f t.mem } := by
  refine ⟨h.outside, h.settled, h.hrest, h.nrest, ?_⟩
  have hr := h.mem.rest
  have hb : (f s.mem).ringBank = s.mem.ringBank := by simp only [Mem.ringBank, Mem.phys_map _ _ (hm _)]
  refine ⟨?_, fun d pa hp => ?_⟩
  · show f t.mem = { f s.mem with cells := (f t.mem).cells }
    rw [hc t.mem, hr, hf]
  · show alGet d (f t.mem).cells pa = alGet d (f s.mem).cells pa
    rw [hc, hc]
    exact h.mem.cells d pa (by rw [← hb]; exact hp)

theorem State.Becomes.critWritten {s t : State} (h : s.Becomes t) (w n : Nat) : (s.critWritten w n).Becomes (t.critWritten w n) :=
  h.mem' (fun m => { m with critDiff := alCut (3 * w) (3 * n) m.critDiff }) (fun _ => rfl) (fun _ => rfl) (fun _ _ => rfl)

/-- A change of the store block beside the write buffer. -/
theorem State.Becomes.nvm' {s t : State} (h : s.Becomes t) (f : Nvm → Nvm) (hf : ∀ n m : Nvm, n.rest = m.rest → (f n).rest = (f m).rest) :
    ({ s with nvm := f s.nvm } : State).Becomes { t with nvm := f t.nvm } := ⟨h.outside, h.settled, h.hrest, hf _ _ h.nrest, h.mem⟩

/-- A change of the host block's registers. -/
theorem State.Becomes.hst' {s t : State} (h : s.Becomes t) (f : Hst → Hst) (hc : ∀ x, (f x).ctx = x.ctx)
    (hf : ∀ x y : Hst, x.rest = y.rest → (f x).rest = (f y).rest) :
    ({ s with hst := f s.hst } : State).Becomes { t with hst := f t.hst } := by
  refine ⟨h.outside, fun m => ?_, hf _ _ h.hrest, h.nrest, h.mem⟩
  have e : ∀ u : State, State.ctx { u with hst := f u.hst } m = u.ctx m := by intro u; simp only [State.ctx, hc]
  rw [e, e]; exact h.settled m

end Sys2Proof.Machine
end

