-- ==== Sys2Proof/Laws/Canonical.lean ====
section
/-!
SUPPORT. The canonical form of working memory and of the store: the reset contents have it and every operation that changes
a list of cells keeps it.
-/
namespace Sys2Proof.Machine

open Sys2Proof

/-! ## The store -/

theorem Store.wf_iff (t : Store) : t.wf = true ↔
    keysRise t.cells = true ∧ (∀ kv ∈ t.cells, kv.2 ≠ some erased ∧ kv.1 < 262144) ∧ t.written.Pairwise (· < ·) ∧ ∀ p ∈ t.written, p < 2048 := by
  simp [Store.wf, List.all_eq_true, and_assoc]

theorem addNat_mem (a : Nat) (l : List Nat) : ∀ x ∈ addNat a l, x = a ∨ x ∈ l := by
  induction l with
  | nil => intro x h; exact Or.inl (List.mem_singleton.1 h)
  | cons k r ih =>
    intro x h
    simp only [addNat] at h
    split at h
    · rcases List.mem_cons.1 h with rfl | h
      · exact Or.inl rfl
      · exact Or.inr h
    · split at h
      · exact Or.inr h
      · rcases List.mem_cons.1 h with rfl | h
        · exact Or.inr (by simp)
        · rcases ih x h with h | h
          · exact Or.inl h
          · exact Or.inr (List.mem_cons_of_mem _ h)

theorem addNat_rise (a : Nat) (l : List Nat) (h : l.Pairwise (· < ·)) : (addNat a l).Pairwise (· < ·) := by
  induction l with
  | nil => simp [addNat]
  | cons k r ih =>
    obtain ⟨hk, hr⟩ := List.pairwise_cons.1 h
    simp only [addNat]
    split
    · rename_i hlt
      refine List.pairwise_cons.2 ⟨fun x hx => ?_, h⟩
      rcases List.mem_cons.1 hx with rfl | hx
      · exact hlt
      · exact Nat.lt_trans hlt (hk x hx)
    · split
      · exact h
      · refine List.pairwise_cons.2 ⟨fun x hx => ?_, ih hr⟩
        rcases addNat_mem a r x hx with rfl | hx
        · omega
        · exact hk x hx

/-- R442: writing a word inside the store keeps the form. -/
theorem Store.put_wf (t : Store) (a : Nat) (w : Option Word) (h : t.wf = true) (ha : a < 262144) : (t.put a w).wf = true := by
  rw [Store.wf_iff] at h ⊢
  obtain ⟨h1, h2, h3, h4⟩ := h
  refine ⟨alPut_rise _ _ _ _ h1, fun kv hm => ?_, addNat_rise _ _ h3, fun p hp => ?_⟩
  · rcases alPut_mem _ _ _ _ kv hm with hm | ⟨rfl, hx⟩
    · exact h2 kv hm
    · exact ⟨hx, ha⟩
  · rcases addNat_mem _ _ p hp with rfl | hp
    · omega
    · exact h4 p hp

/-- R450: writing words inside the store keeps the form. -/
theorem Store.putAll_wf (l : List (Nat × Option Word)) :
    ∀ t : Store, t.wf = true → (∀ kv ∈ l, kv.1 < 262144) → (t.putAll l).wf = true := by
  induction l with
  | nil => exact fun _ h _ => h
  | cons kv r ih =>
    intro t h hl
    exact ih (t.put kv.1 kv.2) (t.put_wf _ _ h (hl kv (by simp))) (fun x hx => hl x (List.mem_cons_of_mem _ hx))

theorem cells_foldPut (l : List (Nat × Option Word)) : ∀ c : List (Nat × Option Word),
    (keysRise c = true ∧ ∀ kv ∈ c, kv.2 ≠ some erased ∧ kv.1 < 262144) → (∀ kv ∈ l, kv.1 < 262144) →
    keysRise (l.foldl (fun l kv => alPut (some erased) kv.1 kv.2 l) c) = true ∧
    ∀ kv ∈ l.foldl (fun l kv => alPut (some erased) kv.1 kv.2 l) c, kv.2 ≠ some erased ∧ kv.1 < 262144 := by
  induction l with
  | nil => exact fun _ h _ => h
  | cons x r ih =>
    intro c h hl
    refine ih _ ⟨alPut_rise _ _ _ _ h.1, fun kv hm => ?_⟩ (fun y hy => hl y (List.mem_cons_of_mem _ hy))
    rcases alPut_mem _ _ _ _ kv hm with hm | ⟨rfl, hx⟩
    · exact h.2 kv hm
    · exact ⟨hx, hl x (by simp)⟩

/-- R446: programming a page from an image keeps the form. -/
theorem Store.takePage_wf (t image : Store) (p : Nat) (h : t.wf = true) (hi : image.wf = true) (hp : p < 2048) :
    (t.takePage image p).wf = true := by
  rw [Store.wf_iff] at h hi ⊢
  obtain ⟨h1, h2, h3, h4⟩ := h
  have hc := cells_foldPut (alPart (p * 128) 128 image.cells) (alCut (p * 128) 128 t.cells)
    ⟨alCut_rise _ _ _ h1, fun kv hm => h2 kv (List.mem_filter.1 hm).1⟩ (fun kv hm => (hi.2.1 kv (List.mem_filter.1 hm).1).2)
  refine ⟨hc.1, hc.2, ?_, ?_⟩
  · simp only [Store.takePage]
    split
    · exact addNat_rise _ _ h3
    · exact h3.filter _
  · intro q hq
    simp only [Store.takePage] at hq
    split at hq
    · rcases addNat_mem _ _ q hq with rfl | hq
      · exact hp
      · exact h4 q hq
    · exact h4 q (List.mem_filter.1 hq).1

/-- R447: making a page BLANK keeps the form. -/
theorem Store.blankPage_wf (t : Store) (p : Nat) (h : t.wf = true) : (t.blankPage p).wf = true := by
  rw [Store.wf_iff] at h ⊢
  obtain ⟨h1, h2, h3, h4⟩ := h
  exact ⟨alCut_rise _ _ _ h1, fun kv hm => h2 kv (List.mem_filter.1 hm).1, h3.filter _, fun q hq => h4 q (List.mem_filter.1 hq).1⟩

/-- R442: the stores after a cold start have the form. -/
theorem Nvm.reset_wf : Nvm.reset.work.wf = true ∧ Nvm.reset.sealed.wf = true := by decide

/-! ## Working memory -/

/-- R416: the memory after a cold start has the form. -/
theorem Mem.reset_wf : Mem.reset.wf = true := by decide

/-- R433: the map serves every logical bank from a bank of the memory. -/
theorem Mem.phys_lt (m : Mem) (hm : ∀ b ∈ m.map.toList, b < 24) (a : Nat) (ha : a < 393216) : m.phys a < 393216 := by
  simp only [Mem.phys]
  split
  · rename_i hb
    have : (m.map[a / 16384]?).getD (a / 16384) < 24 := by
      rw [Vector.getElem?_eq_getElem hb]
      exact hm _ (by simp)
    omega
  · exact ha

/-- R420: a whole-word write inside the memory keeps the form. -/
theorem Mem.write_wf (m : Mem) (a : Nat) (w : Word) (h : m.wf = true) (hm : ∀ b ∈ m.map.toList, b < 24) (ha : a < 393216) :
    (m.write a w).wf = true := m.poke_wf a _ h (m.phys_lt hm a ha)

theorem Mem.writeRun_wf (ws : List Word) : ∀ (m : Mem) (a : Nat), m.wf = true → (∀ b ∈ m.map.toList, b < 24) → a + ws.length ≤ 393216 →
    (m.writeRun a ws).wf = true := by
  induction ws with
  | nil => exact fun _ _ h _ _ => h
  | cons w r ih =>
    intro m a h hm ha
    simp only [List.length_cons] at ha
    exact ih (m.write a w) (a + 1) (m.write_wf a w h hm (by omega)) hm (by omega)

/-- A change of the fill bit of a bank that lists nothing keeps the form. -/
theorem Mem.refill_wf (m : Mem) (b : Nat) (f : BitVec 24) (h : m.wf = true)
    (hf : ∀ c, c ≠ b → f.getLsbD c = m.fill.getLsbD c) :
    Mem.wf { m with cells := alCut (b * 16384) 16384 m.cells, fill := f } = true := by
  rw [Mem.wf_iff] at h ⊢
  refine ⟨alCut_rise _ _ _ h.1, fun kv hm => ?_⟩
  obtain ⟨hin, hout⟩ := List.mem_filter.1 hm
  obtain ⟨hv, hk⟩ := h.2 kv hin
  refine ⟨?_, hk⟩
  have hc : kv.1 / 16384 ≠ b := by
    simp only [Bool.or_eq_true, decide_eq_true_eq] at hout
    omega
  simp only [Mem.fillAt] at hv ⊢
  rw [hf _ hc]
  exact hv

theorem setBit_other (f : BitVec 24) (b c : Nat) (h : c ≠ b) : (f ||| BitVec.ofNat 24 (2 ^ b)).getLsbD c = f.getLsbD c := by
  simp only [BitVec.getLsbD_or, BitVec.getLsbD_ofNat, Nat.testBit_two_pow, decide_eq_false (fun e : b = c => h e.symm),
    Bool.and_false, Bool.or_false]

theorem clearBit_other (f : BitVec 24) (b c : Nat) (h : c ≠ b) : (f &&& ~~~(BitVec.ofNat 24 (2 ^ b))).getLsbD c = f.getLsbD c := by
  by_cases hc : c < 24
  · simp only [BitVec.getLsbD_and, BitVec.getLsbD_not, BitVec.getLsbD_ofNat, Nat.testBit_two_pow, hc, decide_true, Bool.true_and,
      decide_eq_false (fun e : b = c => h e.symm), Bool.not_false, Bool.and_true]
  · rw [BitVec.getLsbD_of_ge _ _ (by omega), BitVec.getLsbD_of_ge _ _ (by omega)]

/-- R429, R244: filling a bank with zero words keeps the form. -/
theorem Mem.zeroBank_wf (m : Mem) (b : Nat) (h : m.wf = true) : (m.zeroBank b).wf = true :=
  m.refill_wf _ _ h (fun c hc => clearBit_other _ _ c hc)

/-- R436: filling a bank with poison keeps the form. -/
theorem State.failBank_wf (s : State) (b : Nat) (h : s.mem.wf = true) : (s.failBank b).mem.wf = true := by
  have e := s.mem.refill_wf b (s.mem.fill ||| BitVec.ofNat 24 (2 ^ b)) h (fun c hc => setBit_other _ _ c hc)
  exact e

/-- R434: a bank whose words are dropped keeps the form. -/
theorem Mem.dropBank_wf (m : Mem) (b : Nat) (h : m.wf = true) : Mem.wf { m with cells := alCut (b * 16384) 16384 m.cells } = true := by
  have e := m.refill_wf b m.fill h (fun _ _ => rfl)
  exact e

/-- A spare has a bank number of the memory. -/
theorem Mem.spare_lt (m : Mem) (t : Nat) (h : m.spare? = some t) : 16 ≤ t ∧ t < 24 := by
  have := List.mem_of_find?_eq_some h
  simp only [List.mem_cons, List.not_mem_nil, or_false] at this
  omega

theorem Mem.dropBanks_aux (bad : BitVec 24) (l : List Nat) : ∀ y : Mem, (l.foldl (fun m b =>
      if bad.getLsbD ((m.map[b]?).getD b) then
        match m.spare? with
        | some t => { m with map := m.map.setIfInBounds b t }
        | none => m
      else m) y).cells = y.cells := by
  induction l with
  | nil => exact fun _ => rfl
  | cons b r ih =>
    intro y
    rw [List.foldl_cons, ih]
    split
    · split <;> rfl
    · rfl

/-- R428: retiring banks for a run lists nothing. -/
theorem Mem.dropBanks_cells (m : Mem) (bad : BitVec 24) : (m.dropBanks bad).cells = m.cells :=
  Mem.dropBanks_aux bad _ _

/-- R429: after a fresh start no word is listed, so the form holds. -/
theorem Mem.fresh_wf (m : Mem) (cold : Bool) (checker : Word) : (m.fresh cold checker).wf = true := by
  rw [Mem.wf_iff]
  have e : (m.fresh cold checker).cells = [] := by simp only [Mem.fresh, Mem.dropBanks_cells]
  rw [e]
  exact ⟨rfl, fun _ h => nomatch h⟩

/-! ## The operations of the whole machine that write words -/

/-- What the form rests on: the list is canonical, the map names banks of the memory, and the ring's next slot is one of its slots. -/
structure State.Kept (s : State) : Prop where
  wf   : s.mem.wf = true
  map  : ∀ b ∈ s.mem.map.toList, b < 24
  head : s.jrn.head < 2048

theorem State.Kept.of_eq {s t : State} (h : s.Kept) (hc : t.mem.cells = s.mem.cells) (hf : t.mem.fill = s.mem.fill)
    (hm : t.mem.map = s.mem.map) (hh : t.jrn.head = s.jrn.head) : t.Kept := by
  refine ⟨?_, by rw [hm]; exact h.map, by rw [hh]; exact h.head⟩
  have w := (Mem.wf_iff _).1 h.wf
  refine (Mem.wf_iff _).2 ⟨by rw [hc]; exact w.1, fun kv hk => ?_⟩
  rw [hc] at hk
  simp only [Mem.fillAt, hf]
  exact w.2 kv hk

theorem State.Kept.memJrn {s t : State} (h : s.Kept) (hm : t.mem = s.mem) (hj : t.jrn = s.jrn) : t.Kept :=
  h.of_eq (by rw [hm]) (by rw [hm]) (by rw [hm]) (by rw [hj])

theorem State.Kept.poke {s : State} (h : s.Kept) (a : Nat) (b : BitVec 47) (ha : a < 393216) : ({ s with mem := s.mem.poke a b } : State).Kept :=
  ⟨s.mem.poke_wf a b h.wf (s.mem.phys_lt h.map a ha), h.map, h.head⟩

theorem State.Kept.checkMarks {s : State} (h : s.Kept) : s.checkMarks.Kept :=
  h.memJrn (foldl_keeps _ State.mem (fun a x => a.checkMark_mem x) _ s) (foldl_keeps _ State.jrn (fun a x => a.checkMark_jrn x) _ s)

/-- R80: writing an entry keeps the form. -/
theorem State.Kept.ringPut {s : State} (h : s.Kept) (e : Entry) : (s.ringPut e).Kept := by
  refine State.Kept.checkMarks ⟨?_, ?_, ?_⟩
  · refine s.mem.writeRun_wf _ _ h.wf h.map ?_
    have := h.head
    rw [Entry.words_length, ringAddr]
    omega
  · have e : ∀ (ws : List Word) (m : Mem) (a : Nat), (m.writeRun a ws).map = m.map := by
      intro ws
      induction ws with
      | nil => exact fun _ _ => rfl
      | cons w r ih => exact fun m a => (ih _ _).trans rfl
    intro b hb
    rw [e] at hb
    exact h.map b hb
  · exact Nat.mod_lt _ (by decide)

theorem State.Kept.nvCopy {s : State} (h : s.Kept) (e : Entry) : (s.nvCopy e).Kept := h.of_eq rfl rfl rfl rfl

theorem State.Kept.reserve {s : State} (h : s.Kept) : s.reserve.Kept := by
  simp only [State.reserve]
  split
  · exact h.of_eq rfl rfl rfl rfl
  · exact h

theorem State.Kept.putInternal {s : State} (h : s.Kept) (o q : BitVec 16) (c : BitVec 32) (w : Word) : (s.putInternal o q c w).Kept := by
  simp only [State.putInternal]
  refine State.Kept.reserve (State.Kept.nvCopy (State.Kept.ringPut ?_ _) _)
  exact h.of_eq rfl rfl rfl rfl

theorem State.Kept.openBlock {s : State} (h : s.Kept) : s.openBlock.Kept := by
  simp only [State.openBlock]
  split
  · exact h
  · split
    · split
      · exact h.of_eq rfl rfl rfl rfl
      · refine State.Kept.putInternal ?_ _ _ _ _
        exact h.of_eq rfl rfl rfl rfl
    · split
      · exact h
      · split
        · exact h.of_eq rfl rfl rfl rfl
        · exact h.reserve

theorem State.Kept.internal {s : State} (h : s.Kept) (o q : BitVec 16) (c : BitVec 32) : (s.internal o q c).Kept := by
  simp only [State.internal]
  split
  · exact h
  · have k := h.openBlock
    split
    · exact k
    · split
      · exact k.putInternal _ _ _ _
      · exact k.of_eq rfl rfl rfl rfl

theorem State.Kept.raise {s : State} (h : s.Kept) (k : Nat) (d : Octets) : (s.raise k d).Kept := by
  simp only [State.raise]
  split
  · exact (h.internal _ _ _).memJrn (State.queueAll_mem _ _ _) (State.queueAll_jrn _ _ _)
  · exact h.memJrn (State.queueAll_mem _ _ _) (State.queueAll_jrn _ _ _)

theorem State.Kept.raiseFault {s : State} (h : s.Kept) (k src a y : Nat) : (s.raiseFault k src a y).Kept := by
  simp only [State.raiseFault]
  split
  · refine State.Kept.raise ?_ _ _
    exact h.of_eq rfl rfl rfl rfl
  · exact h.of_eq rfl rfl rfl rfl

/-- R437: a fault-log entry and its event keep the form. -/
theorem State.Kept.logFault {s : State} (h : s.Kept) (k src a y : Nat) : (s.logFault k src a y).Kept := by
  simp only [State.logFault]
  split
  · refine State.Kept.raiseFault ?_ _ _ _ _
    exact h.of_eq rfl rfl rfl rfl
  · exact h.of_eq rfl rfl rfl rfl

/-- R432: counting a correction keeps the form. -/
theorem State.Kept.countCorrection {s : State} (h : s.Kept) (src a : Nat) (w : Word) (demand : Bool) (ha : a < 393216) :
    (s.countCorrection src a w demand).Kept := by
  have hw : ({ s with mem := s.mem.write a w } : State).Kept := h.poke a _ ha
  have last : ∀ (b : Bool) (t : State), t.Kept → State.Kept (if b then
      (State.logFault { t with mem := { t.mem with
        flags := raiseFlag t.mem.flags 2
        cand := t.mem.cand.mapIdx (fun i k => if i = a / 16384 then satSucc k 7 else k) } } 3 src a 0) else t) := by
    intro b t ht
    split
    · refine State.Kept.logFault ?_ _ _ _ _
      exact ht.of_eq rfl rfl rfl rfl
    · exact ht
  simp only [State.countCorrection]
  refine last _ _ ?_
  split
  · refine State.Kept.logFault ?_ _ _ _ _
    exact hw.of_eq rfl rfl rfl rfl
  · exact h.of_eq rfl rfl rfl rfl

/-- R420: poisoning a word keeps the form. -/
theorem State.Kept.poisonWord {s : State} (h : s.Kept) (k src a y : Nat) (ha : a < 393216) : (s.poisonWord k src a y).Kept := by
  refine State.Kept.logFault ?_ _ _ _ _
  exact (h.poke a poison47 ha).of_eq rfl rfl rfl rfl

/-- R420: a read of a word, with all it does, keeps the form. -/
theorem State.Kept.readWord {s : State} (h : s.Kept) (src a : Nat) (demand : Bool) (ha : a < 393216) : (s.readWord src a demand).1.Kept := by
  cases e : decode47 (s.mem.stored a) with
  | good w => simp only [State.readWord, e]; exact h
  | corrected w => simp only [State.readWord, e]; exact h.countCorrection _ _ _ _ ha
  | bad y => simp only [State.readWord, e]; exact h.poisonWord _ _ _ _ ha
  | poison => simp only [State.readWord, e]; exact h.of_eq rfl rfl rfl rfl

theorem State.Kept.readWords (n : Nat) : ∀ {s : State}, s.Kept → ∀ (src a : Nat), a + n ≤ 393216 → (s.readWords src a n).1.Kept := by
  induction n with
  | zero => exact fun h _ _ _ => h
  | succ n ih =>
    intro s h src a ha
    exact ih (h.readWord src a true (by omega)) src (a + 1) (by omega)

/-- R434: copying a word to the spare keeps the form. -/
theorem State.Kept.copyWord {s : State} (h : s.Kept) (la pa dest : Nat) (hl : la < 393216) (ht : dest < 24) : (s.copyWord la pa dest).Kept := by
  have set : ∀ (t : State) (b : BitVec 47), t.Kept →
      ({ t with mem := { t.mem with cells := alPut (t.mem.fillAt (dest * 16384 + pa % 16384)) (dest * 16384 + pa % 16384) b t.mem.cells } } : State).Kept := by
    intro t b k
    refine ⟨?_, k.map, k.head⟩
    have w := (Mem.wf_iff _).1 k.wf
    refine (Mem.wf_iff _).2 ⟨alPut_rise _ _ _ _ w.1, fun kv hm => ?_⟩
    rcases alPut_mem _ _ _ _ kv hm with hm | ⟨rfl, hx⟩
    · exact w.2 kv hm
    · refine ⟨hx, ?_⟩
      have := Nat.mod_lt pa (show 0 < 16384 by decide)
      show dest * 16384 + pa % 16384 < 393216
      omega
  simp only [State.copyWord]
  split
  · exact set _ _ h
  · exact set _ _ (h.countCorrection _ _ _ _ hl)
  · exact set _ _ h
  · exact set _ _ (h.poisonWord _ _ _ _ hl)

/-- R434: replacing a bank by a spare keeps the form. -/
theorem State.Kept.replaceBank {s : State} (h : s.Kept) (b dest : Nat) (hb : b < 16) (ht : dest < 24) : (s.replaceBank b dest).Kept := by
  have fold : ∀ (l : List Nat) (t : State), t.Kept →
      (l.foldl (fun s pa => s.copyWord (b * 16384 + pa % 16384) pa dest) t).Kept := by
    intro l
    induction l with
    | nil => exact fun _ k => k
    | cons x r ih =>
      intro t k
      refine ih _ (k.copyWord _ _ _ ?_ ht)
      have := Nat.mod_lt x (show 0 < 16384 by decide)
      omega
  simp only [State.replaceBank]
  generalize hx : (alPart _ 16384 s.mem.cells).map (·.1) = pas
  generalize hf : (if s.mem.fill.getLsbD ((s.mem.map[b]?).getD b) then s.mem.fill ||| BitVec.ofNat 24 (2 ^ dest)
    else s.mem.fill &&& ~~~(BitVec.ofNat 24 (2 ^ dest))) = f
  have h0 : ({ s with mem := { s.mem with cells := alCut (dest * 16384) 16384 s.mem.cells, fill := f } } : State).Kept := by
    refine ⟨s.mem.refill_wf dest f h.wf (fun c hc => ?_), h.map, h.head⟩
    rw [← hf]
    split
    · exact setBit_other _ _ c hc
    · exact clearBit_other _ _ c hc
  have k := fold pas _ h0
  generalize List.foldl _ _ pas = u at k
  refine ⟨Mem.dropBank_wf u.mem _ k.wf, fun x hm => ?_, k.head⟩
  have hm : x ∈ (u.mem.map.setIfInBounds b dest).toList := hm
  rw [Vector.toList_setIfInBounds] at hm
  rcases List.mem_or_eq_of_mem_set hm with hm | rfl
  · exact k.map x hm
  · exact ht

/-- R436: bits that flip in retained banks keep the form. -/
theorem State.Kept.flipped (l : List (Nat × BitVec 47)) : ∀ {s : State}, s.Kept → (s.flipped l).Kept := by
  induction l with
  | nil => exact fun h => h
  | cons x r ih =>
    intro s h
    refine ih ?_
    dsimp only
    split
    · rename_i hr
      simp only [State.retained, Bool.and_eq_true, decide_eq_true_eq] at hr
      exact h.poke _ _ (by omega)
    · exact h

theorem poisonBits (keep : Nat → Bool) (old : BitVec 24) (c : Nat) (hk : keep c = true) (hc : c < 24) (l : List Nat) : ∀ f : BitVec 24,
    (l.foldl (fun f b => if keep b then f ||| (old &&& BitVec.ofNat 24 (2 ^ b)) else f ||| BitVec.ofNat 24 (2 ^ b)) f).getLsbD c =
      (f.getLsbD c || (l.contains c && old.getLsbD c)) := by
  have bit : ∀ b : Nat, (BitVec.ofNat 24 (2 ^ b)).getLsbD c = decide (b = c) := by
    intro b
    rw [BitVec.getLsbD_ofNat, Nat.testBit_two_pow, decide_eq_true hc, Bool.true_and]
  induction l with
  | nil => intro f; simp
  | cons b r ih =>
    intro f
    rw [List.foldl_cons, ih]
    by_cases e : b = c
    · subst e
      simp only [hk, if_true, BitVec.getLsbD_or, BitVec.getLsbD_and, bit, decide_true, Bool.and_true, List.contains_cons, BEq.rfl,
        Bool.true_or, Bool.true_and]
      cases f.getLsbD b <;> cases old.getLsbD b <;> simp
    · have hb : (c == b) = false := by simp [Ne.symm e]
      rw [List.contains_cons, hb, Bool.false_or]
      split
      · rw [BitVec.getLsbD_or, BitVec.getLsbD_and, bit, decide_eq_false e, Bool.and_false, Bool.or_false]
      · rw [BitVec.getLsbD_or, bit, decide_eq_false e, Bool.or_false]

/-- R429: the poison fill of a wake from DEEP keeps the form. -/
theorem State.Kept.poisonFill {s : State} (h : s.Kept) : s.poisonFill.Kept := by
  refine ⟨(Mem.wf_iff _).2 ⟨?_, fun kv hm => ?_⟩, h.map, h.head⟩
  · exact filter_rise _ _ ((Mem.wf_iff _).1 h.wf).1
  · obtain ⟨hin, hk⟩ := List.mem_filter.1 hm
    obtain ⟨hv, ha⟩ := ((Mem.wf_iff _).1 h.wf).2 kv hin
    refine ⟨?_, ha⟩
    have hc : kv.1 / 16384 < 24 := by omega
    have e := poisonBits (fun b => ((List.range 8).filter s.retained).contains b) s.mem.fill _ hk hc (List.range 24) (0#24)
    rw [show (List.range 24).contains (kv.1 / 16384) = true by simpa using hc] at e
    rw [Bool.true_and, show (0#24).getLsbD (kv.1 / 16384) = false by simp, Bool.false_or] at e
    intro hx
    apply hv
    rw [hx]
    simp only [Mem.fillAt, State.poisonFill]
    exact congrArg (fun b : Bool => if b = true then poison47 else 0) e

end Sys2Proof.Machine
end

