-- ==== Sys2Proof/WellFormed.lean ====
section
/-!
DEFINITION. Well-formed commands: the terms of `Instr` that spell something the outside world can do to the block. A sender
puts only well-formed commands on the queue; the meanings are total, so an ill-formed term runs too, but says nothing about
the device.
-/
namespace Sys2Proof

/-- R45, R49: only a command of the network port has a source address and a CMAC. -/
def Hdr.wf (h : Hdr) : Bool := h.port == .net || (h.src == 0 && h.cmac == 0)

/-- R49: a host command's parameters fit the 16-bit PARAM_LEN. -/
def commandWf (h : Hdr) (p : Octets) : Bool := h.wf && decide (p.length ≤ 65535)

/-- R40: the two SPI ports. -/
def Port.isSpi (p : Port) : Bool := p == .spiA || p == .spiB

/-- R350: a frame's length counts its payload. -/
def Frame.wf (f : Frame) : Bool := decide (f.payload.length ≤ f.length)

/-- R353, R356: a time that PTP carries fits 48 bits of seconds, and a domain fits its octet. -/
def PtpMsg.wf (m : PtpMsg) : Bool :=
  decide (m.domain ≤ 255) && decide (0 ≤ m.time) && decide (m.time < 2 ^ 48 * 1000000000)

/-- R103: a phase, in steps of 0.2 degrees, fits the signed 16-bit field that reports it. -/
def CoilMeas.wf (m : CoilMeas) : Bool := decide (-32768 ≤ m.phase) && decide (m.phase ≤ 32767)

/-- R142, R151: a frame that a lane hears has the 41 octets of a body, and its RSSI fits an octet. -/
def RxFrame.wf (f : RxFrame) : Bool := decide (f.body.length = 41) && decide (f.rssi ≤ 255)

/-- R172: a raw timestamp has 40 bits. -/
def Arrival.wf (a : Arrival) : Bool := decide (a.ta < 2 ^ 40) && decide (a.tb < 2 ^ 40)

/-- R463: a margin read covers 131 words, so there are no more corrections than that. -/
def PageHealth.wf : PageHealth → Bool
  | .good => true
  | .weak n => decide (n ≤ 131)
  | .failing n => decide (n ≤ 131)
  | .lost l => !l.isEmpty

/-- R315: an observation of an engine's check, or none. -/
def Obs.isCheck : Obs → Bool
  | .none | .glitch => true
  | _ => false

/-- R478: the observation of a self-test, or none. -/
def Obs.isSelfTest : Obs → Bool
  | .none | .selfTest _ _ _ => true
  | _ => false

/-- R480: the observation of a signature check, or none. -/
def Obs.isVerdict : Obs → Bool
  | .none | .verdict _ => true
  | _ => false

/-- R463: the observation of a patrol, or none; a physical page number has 11 bits and no page is found twice. -/
def Obs.isPatrol : Obs → Bool
  | .none => true
  | .patrol l => l.all (fun x => decide (x.1 < 2048) && x.2.wf) && decide (l.map Prod.fst).Nodup
  | _ => false

/-- R96 to R103: the observation of coils, or none. -/
def Obs.isCoils : Obs → Bool
  | .none => true
  | .coils _ l => l.all CoilMeas.wf
  | _ => false

/-- R162: the observation of a UHF calibration, or none. -/
def Obs.isCal : Obs → Bool
  | .none | .cal _ _ => true
  | _ => false

/-- R176: the observation of a UWB calibration, or none. -/
def Obs.isUwbCal : Obs → Bool
  | .none | .uwbCal _ _ => true
  | _ => false

/-- R210: the observation of the roster index, or none. -/
def Obs.isIndex : Obs → Bool
  | .none | .indexFull => true
  | _ => false

/-- The commands that spell something the outside world can do to the block. -/
def Instr.wf (i : Instr) : Bool :=
  match i with
  | .spiPacket port _ _ => port.isSpi
  | .chipSelectFall port _ => port.isSpi
  | .chipSelectRise port _ => port.isSpi
  | .uartFrame _ _ => true
  | .hstUartCfgWrite h p => commandWf h p
  | .networkFrame f => f.wf
  | .networkCommand f _ => f.wf
  | .speedReport f => f.wf
  | .batteryResponse f others _ => f.wf && others.all Frame.wf
  | .announce m => m.wf
  | .sync m _ => m.wf
  | .followUp m => m.wf
  | .delayReq m _ => m.wf
  | .delayResp m => m.wf
  | .linkChange _ => true
  | .frameTransmitted _ => true
  | .sysNop h p => commandWf h p
  | .sysIdentify h p => commandWf h p
  | .sysStatus h p => commandWf h p
  | .sysSnapshot h p => commandWf h p
  | .sysReset h p => commandWf h p
  | .deviceRestart _ => true
  | .sysSelfTest h p obs => commandWf h p && obs.isSelfTest
  | .sysFwBegin h p => commandWf h p
  | .sysFwChunk h p => commandWf h p
  | .sysFwCommit h p obs => commandWf h p && obs.isVerdict
  | .sysRegRead h p => commandWf h p
  | .sysRegWrite h p => commandWf h p
  | .rcRegisterRead h p => commandWf h p
  | .w1cFlagClear h p => commandWf h p
  | .ntcTimeNsRead h p => commandWf h p
  | .sysDebugLockWrite h p => commandWf h p
  | .domainSeal h p => commandWf h p
  | .seqPolicySigned h p => commandWf h p
  | .uwbCalWrite h p => commandWf h p
  | .tmrCfgWrite h p => commandWf h p
  | .sysTamperConfig h p => commandWf h p
  | .sysTamperClear h p => commandWf h p
  | .hstOpen h p => commandWf h p
  | .hstClose h p => commandWf h p
  | .hstSetRole h p => commandWf h p
  | .hstEventRead h p => commandWf h p
  | .hstEventMask h p => commandWf h p
  | .hstClaim h p => commandWf h p
  | .hstUnclaim h p => commandWf h p
  | .claimLeaseLapse _ => true
  | .roleBackoffEnd _ => true
  | .jrnRead h p => commandWf h p
  | .jrnStatus h p => commandWf h p
  | .jrnLookup h p => commandWf h p
  | .jrnMark h p => commandWf h p
  | .pwrEnter h p => commandWf h p
  | .pwrWakeConfig h p => commandWf h p
  | .pwrResidencyRead h p => commandWf h p
  | .pwrWakeRecordRead h p => commandWf h p
  | .pwrProfile h p => commandWf h p
  | .wakePinActive _ => true
  | .vholdLow _ => true
  | .memOk _ flips _ => flips.all (fun x => decide (x.1 < 393216))
  | .logicOk saveBad _ => decide (saveBad.Nodup)
  | .commandsAccepted _ _ _ => true
  | .lfChannelConfig h p => commandWf h p
  | .lfTune h p obs => commandWf h p && obs.isCoils
  | .lfDiagnose h p obs => commandWf h p && obs.isCoils
  | .lfPollStart h p => commandWf h p
  | .lfPollStop h p => commandWf h p
  | .lfFieldMapLoad h p => commandWf h p
  | .lfSend h p obs => commandWf h p && obs.isCoils
  | .presenceDetected _ _ => true
  | .diagnosisPulse _ m => m.wf
  | .elementEnd _ l => l.all CoilMeas.wf
  | .driverOverTemperature _ _ => true
  | .lockDriveStart _ _ => true
  | .uhfChannelPlan h p => commandWf h p
  | .uhfEnable h p => commandWf h p
  | .uhfDisable h p => commandWf h p
  | .unitReachesState _ _ _ => true
  | .uhfCaptureArm h p => commandWf h p
  | .uhfCaptureRead h p => commandWf h p
  | .uhfCalibrate h p obs => commandWf h p && obs.isCal
  | .uhfVigilConfig h p obs => commandWf h p && obs.isCal
  | .uhfCalibrationDue _ _ => true
  | .temperatureDrift _ _ _ _ => true
  | .responseFrame f => f.wf
  | .primarySlotEnd _ _ => true
  | .collectionClose _ => true
  | .lateFrameEnd _ _ _ _ rssi => decide (rssi ≤ 255)
  | .sampleParityError _ => true
  | .coexRequest _ _ _ => true
  | .coexGrantChange _ _ => true
  | .radioCoexConfig h p => commandWf h p
  | .coexConfigApply _ => true
  | .uwbConfig h p => commandWf h p
  | .uwbSessionOpen h p obs => commandWf h p && obs.isUwbCal
  | .uwbSessionClose h p => commandWf h p
  | .uwbRangeNow h p => commandWf h p
  | .uwbCirRead h p => commandWf h p
  | .uwbCalibrate h p obs => commandWf h p && obs.isUwbCal
  | .uwbRadioState h p => commandWf h p
  | .uwbCalibrationDue _ => true
  | .rangingRoundPreparation _ _ _ => true
  | .uwbFrameTxDue rmarker _ => decide (rmarker < 2 ^ 40)
  | .uwbPollReceived a => a.wf
  | .uwbResponseReceived a => a.wf
  | .uwbFinalReceived a => a.wf
  | .uwbReportReceived _ _ _ => true
  | .crdRosterWrite h p obs => commandWf h p && obs.isIndex
  | .crdRosterRead h p => commandWf h p
  | .crdRevoke h p => commandWf h p
  | .crdEpochAdvance h p => commandWf h p
  | .crdTicketLoad h p => commandWf h p
  | .crdLockoutStatus h p => commandWf h p
  | .crdLockoutClear h p => commandWf h p
  | .crdBatteryChallenge h p => commandWf h p
  | .crdRoundResultRead h p => commandWf h p
  | .hrvReceiverConfig h p => commandWf h p
  | .hrvArm h p => commandWf h p
  | .hrvArmDisarm h p => commandWf h p
  | .hrvLock h p => commandWf h p
  | .hrvLockClear h p => commandWf h p
  | .hrvStatus h p => commandWf h p
  | .hrvActuate h p obs => commandWf h p && obs.isCoils
  | .lockDriveTimeout _ _ => true
  | .lockDriveStall _ _ => true
  | .hrvPolicy h p => commandWf h p
  | .cadencePoint _ => true
  | .latePeriodStart _ => true
  | .alwaysOnInputSample _ _ _ _ _ _ => true
  | .seqLoad h p => commandWf h p
  | .imageInstall _ => true
  | .seqStart h p => commandWf h p
  | .seqStop h p => commandWf h p
  | .seqStatus h p => commandWf h p
  | .nop _ => true
  | .set _ => true
  | .add _ => true
  | .cmp _ => true
  | .branch _ => true
  | .loop _ => true
  | .call _ => true
  | .ret _ => true
  | .get _ => true
  | .waitTime _ _ => true
  | .waitTimeEnd _ => true
  | .waitEvent _ => true
  | .signal _ => true
  | .sendLf _ _ => true
  | .burst _ _ => true
  | .listen _ => true
  | .headland _ => true
  | .halt _ => true
  | .roundDeadline _ => true
  | .cphKeyWrite h p => commandWf h p
  | .cphKeyErase h p => commandWf h p
  | .cphKeyEraseAll h p => commandWf h p
  | .cphKeyDerive h p => commandWf h p
  | .cphRun h p obs => commandWf h p && obs.isCheck
  | .cphCtxSaveCopy h p => commandWf h p
  | .cphCtxSaveExport h p => commandWf h p
  | .cphCtxRestore h p => commandWf h p
  | .cphRandom h p => commandWf h p
  | .cphKeyInfo h p => commandWf h p
  | .drbgReseedDone _ _ => true
  | .ntcConfig h p => commandWf h p
  | .ntcRead h p => commandWf h p
  | .ntcAdjust h p => commandWf h p
  | .ntcStep h p obs => commandWf h p && obs.isCoils
  | .ntcTriggerArm h p obs => commandWf h p && obs.isCoils
  | .ntcTriggerDisarm h p => commandWf h p
  | .ntcTriggerRead h p => commandWf h p
  | .triggerFire _ coils => coils.all CoilMeas.wf
  | .captureEdge _ _ => true
  | .ntcCaptureRead h p => commandWf h p
  | .ntcCalendarAttest h p => commandWf h p
  | .ntcCalendarRead h p => commandWf h p
  | .tmrConfig h p => commandWf h p
  | .tmrSetCompare h p => commandWf h p
  | .tmrRead h p => commandWf h p
  | .tmrReadPair h p => commandWf h p
  | .tmrStart h p => commandWf h p
  | .tmrStop h p => commandWf h p
  | .tmrClear h p => commandWf h p
  | .tmrSnapshotAll h p => commandWf h p
  | .gpioEdge _ _ => true
  | .timerMatch _ => true
  | .timerOverflow _ => true
  | .memRead h p => commandWf h p
  | .memWrite h p => commandWf h p
  | .memScrub h p => commandWf h p
  | .memFaultLogRead h p => commandWf h p
  | .memRetire h p => commandWf h p
  | .memErrorInject h p => commandWf h p
  | .nvmRead h p => commandWf h p
  | .nvmWrite h p => commandWf h p
  | .nvmCommit h p => commandWf h p
  | .pageCommitDone fails => fails.all (fun x => decide (x ≤ 3))
  | .pageEraseDone _ => true
  | .nvmPasswordPresent h p => commandWf h p
  | .nvmPasswordSet h p => commandWf h p
  | .nvmPasswordRemove h p => commandWf h p
  | .nvmPasswordWithdraw h p => commandWf h p
  | .nvmPasswordReset h p => commandWf h p
  | .pwBackoffEnd _ => true
  | .nvmTallyIncrement h p => commandWf h p
  | .tallyIncrementDone _ => true
  | .nvmTallyRead h p => commandWf h p
  | .nvmPatrol h p obs => commandWf h p && obs.isPatrol
  | .patrolPageDue health => health.wf
  | .nvmRegulatoryWrite h p => commandWf h p
  | .nvmRegulatoryLock h p => commandWf h p
  | .regulatoryLimitsApply _ => true
  | .nvmStatus h p => commandWf h p
  | .outputPacketDelivered port => port != .net
  | .uhfCaptureDone _ => true
  | .trigPulseEnd _ => true
  | .vddioChange _ => true
  | .uartStartBit => true
  | .syncInterval => true
  | .announceInterval => true
  | .announceTimeout => true
  | .transmitOpportunity => true
  | .fwTransferTimeout => true
  | .replyCollectionTimeout => true
  | .claimWaitTimeout => true
  | .entryBegin => true
  | .entryDrainComplete => true
  | .powerStateReached => true
  | .vcoreRampDone => true
  | .vsysFall => true
  | .vsysReturn => true
  | .coldStart => true
  | .vbkupLow => true
  | .vcoreOk => true
  | .vcoreTimeout => true
  | .xoOk => true
  | .xoTimeout => true
  | .xoRetry => true
  | .xo32Stable => true
  | .lfConfigApply => true
  | .pollPoint => true
  | .ridePoint => true
  | .fullRoundStart => true
  | .holdoffEnd => true
  | .vlfLimiterTrip => true
  | .uhfPlanApply => true
  | .uwbCfgApply => true
  | .radioIdleTimeout => true
  | .synthesiserLock => true
  | .rosterCompactionDone => true
  | .counterLogFold => true
  | .batteryRecheck => true
  | .batteryResponseTimeout => true
  | .batteryRetry => true
  | .batteryLinkTimeout => true
  | .stagingTimeout => true
  | .range => true
  | .emit => true
  | .quarantineEnd => true
  | .drbgReseedDue => true
  | .attestNonceExpiry => true
  | .alwaysOnTick => true
  | .gleanerStep => true
  | .mergeBufferEviction => true
  | .stewardRestart => true
  | .commitMsTimeout => true
  | .uwbReceiveSlotEnd => true
  | .slewComplete => true
  | .vbkupLoss => true
  | .vbkupReturn => true

/-- R49: the header and the parameters of a row that is a host command; `none` for every other row. -/
def Instr.command? (i : Instr) : Option (Hdr × Octets) :=
  match i with
  | .spiPacket _ _ _ => none
  | .chipSelectFall _ _ => none
  | .chipSelectRise _ _ => none
  | .uartFrame _ _ => none
  | .hstUartCfgWrite h p => some (h, p)
  | .networkFrame _ => none
  | .networkCommand _ _ => none
  | .speedReport _ => none
  | .batteryResponse _ _ _ => none
  | .announce _ => none
  | .sync _ _ => none
  | .followUp _ => none
  | .delayReq _ _ => none
  | .delayResp _ => none
  | .linkChange _ => none
  | .frameTransmitted _ => none
  | .sysNop h p => some (h, p)
  | .sysIdentify h p => some (h, p)
  | .sysStatus h p => some (h, p)
  | .sysSnapshot h p => some (h, p)
  | .sysReset h p => some (h, p)
  | .deviceRestart _ => none
  | .sysSelfTest h p _ => some (h, p)
  | .sysFwBegin h p => some (h, p)
  | .sysFwChunk h p => some (h, p)
  | .sysFwCommit h p _ => some (h, p)
  | .sysRegRead h p => some (h, p)
  | .sysRegWrite h p => some (h, p)
  | .rcRegisterRead h p => some (h, p)
  | .w1cFlagClear h p => some (h, p)
  | .ntcTimeNsRead h p => some (h, p)
  | .sysDebugLockWrite h p => some (h, p)
  | .domainSeal h p => some (h, p)
  | .seqPolicySigned h p => some (h, p)
  | .uwbCalWrite h p => some (h, p)
  | .tmrCfgWrite h p => some (h, p)
  | .sysTamperConfig h p => some (h, p)
  | .sysTamperClear h p => some (h, p)
  | .hstOpen h p => some (h, p)
  | .hstClose h p => some (h, p)
  | .hstSetRole h p => some (h, p)
  | .hstEventRead h p => some (h, p)
  | .hstEventMask h p => some (h, p)
  | .hstClaim h p => some (h, p)
  | .hstUnclaim h p => some (h, p)
  | .claimLeaseLapse _ => none
  | .roleBackoffEnd _ => none
  | .jrnRead h p => some (h, p)
  | .jrnStatus h p => some (h, p)
  | .jrnLookup h p => some (h, p)
  | .jrnMark h p => some (h, p)
  | .pwrEnter h p => some (h, p)
  | .pwrWakeConfig h p => some (h, p)
  | .pwrResidencyRead h p => some (h, p)
  | .pwrWakeRecordRead h p => some (h, p)
  | .pwrProfile h p => some (h, p)
  | .wakePinActive _ => none
  | .vholdLow _ => none
  | .memOk _ _ _ => none
  | .logicOk _ _ => none
  | .commandsAccepted _ _ _ => none
  | .lfChannelConfig h p => some (h, p)
  | .lfTune h p _ => some (h, p)
  | .lfDiagnose h p _ => some (h, p)
  | .lfPollStart h p => some (h, p)
  | .lfPollStop h p => some (h, p)
  | .lfFieldMapLoad h p => some (h, p)
  | .lfSend h p _ => some (h, p)
  | .presenceDetected _ _ => none
  | .diagnosisPulse _ _ => none
  | .elementEnd _ _ => none
  | .driverOverTemperature _ _ => none
  | .lockDriveStart _ _ => none
  | .uhfChannelPlan h p => some (h, p)
  | .uhfEnable h p => some (h, p)
  | .uhfDisable h p => some (h, p)
  | .unitReachesState _ _ _ => none
  | .uhfCaptureArm h p => some (h, p)
  | .uhfCaptureRead h p => some (h, p)
  | .uhfCalibrate h p _ => some (h, p)
  | .uhfVigilConfig h p _ => some (h, p)
  | .uhfCalibrationDue _ _ => none
  | .temperatureDrift _ _ _ _ => none
  | .responseFrame _ => none
  | .primarySlotEnd _ _ => none
  | .collectionClose _ => none
  | .lateFrameEnd _ _ _ _ _ => none
  | .sampleParityError _ => none
  | .coexRequest _ _ _ => none
  | .coexGrantChange _ _ => none
  | .radioCoexConfig h p => some (h, p)
  | .coexConfigApply _ => none
  | .uwbConfig h p => some (h, p)
  | .uwbSessionOpen h p _ => some (h, p)
  | .uwbSessionClose h p => some (h, p)
  | .uwbRangeNow h p => some (h, p)
  | .uwbCirRead h p => some (h, p)
  | .uwbCalibrate h p _ => some (h, p)
  | .uwbRadioState h p => some (h, p)
  | .uwbCalibrationDue _ => none
  | .rangingRoundPreparation _ _ _ => none
  | .uwbFrameTxDue _ _ => none
  | .uwbPollReceived _ => none
  | .uwbResponseReceived _ => none
  | .uwbFinalReceived _ => none
  | .uwbReportReceived _ _ _ => none
  | .crdRosterWrite h p _ => some (h, p)
  | .crdRosterRead h p => some (h, p)
  | .crdRevoke h p => some (h, p)
  | .crdEpochAdvance h p => some (h, p)
  | .crdTicketLoad h p => some (h, p)
  | .crdLockoutStatus h p => some (h, p)
  | .crdLockoutClear h p => some (h, p)
  | .crdBatteryChallenge h p => some (h, p)
  | .crdRoundResultRead h p => some (h, p)
  | .hrvReceiverConfig h p => some (h, p)
  | .hrvArm h p => some (h, p)
  | .hrvArmDisarm h p => some (h, p)
  | .hrvLock h p => some (h, p)
  | .hrvLockClear h p => some (h, p)
  | .hrvStatus h p => some (h, p)
  | .hrvActuate h p _ => some (h, p)
  | .lockDriveTimeout _ _ => none
  | .lockDriveStall _ _ => none
  | .hrvPolicy h p => some (h, p)
  | .cadencePoint _ => none
  | .latePeriodStart _ => none
  | .alwaysOnInputSample _ _ _ _ _ _ => none
  | .seqLoad h p => some (h, p)
  | .imageInstall _ => none
  | .seqStart h p => some (h, p)
  | .seqStop h p => some (h, p)
  | .seqStatus h p => some (h, p)
  | .nop _ => none
  | .set _ => none
  | .add _ => none
  | .cmp _ => none
  | .branch _ => none
  | .loop _ => none
  | .call _ => none
  | .ret _ => none
  | .get _ => none
  | .waitTime _ _ => none
  | .waitTimeEnd _ => none
  | .waitEvent _ => none
  | .signal _ => none
  | .sendLf _ _ => none
  | .burst _ _ => none
  | .listen _ => none
  | .headland _ => none
  | .halt _ => none
  | .roundDeadline _ => none
  | .cphKeyWrite h p => some (h, p)
  | .cphKeyErase h p => some (h, p)
  | .cphKeyEraseAll h p => some (h, p)
  | .cphKeyDerive h p => some (h, p)
  | .cphRun h p _ => some (h, p)
  | .cphCtxSaveCopy h p => some (h, p)
  | .cphCtxSaveExport h p => some (h, p)
  | .cphCtxRestore h p => some (h, p)
  | .cphRandom h p => some (h, p)
  | .cphKeyInfo h p => some (h, p)
  | .drbgReseedDone _ _ => none
  | .ntcConfig h p => some (h, p)
  | .ntcRead h p => some (h, p)
  | .ntcAdjust h p => some (h, p)
  | .ntcStep h p _ => some (h, p)
  | .ntcTriggerArm h p _ => some (h, p)
  | .ntcTriggerDisarm h p => some (h, p)
  | .ntcTriggerRead h p => some (h, p)
  | .triggerFire _ _ => none
  | .captureEdge _ _ => none
  | .ntcCaptureRead h p => some (h, p)
  | .ntcCalendarAttest h p => some (h, p)
  | .ntcCalendarRead h p => some (h, p)
  | .tmrConfig h p => some (h, p)
  | .tmrSetCompare h p => some (h, p)
  | .tmrRead h p => some (h, p)
  | .tmrReadPair h p => some (h, p)
  | .tmrStart h p => some (h, p)
  | .tmrStop h p => some (h, p)
  | .tmrClear h p => some (h, p)
  | .tmrSnapshotAll h p => some (h, p)
  | .gpioEdge _ _ => none
  | .timerMatch _ => none
  | .timerOverflow _ => none
  | .memRead h p => some (h, p)
  | .memWrite h p => some (h, p)
  | .memScrub h p => some (h, p)
  | .memFaultLogRead h p => some (h, p)
  | .memRetire h p => some (h, p)
  | .memErrorInject h p => some (h, p)
  | .nvmRead h p => some (h, p)
  | .nvmWrite h p => some (h, p)
  | .nvmCommit h p => some (h, p)
  | .pageCommitDone _ => none
  | .pageEraseDone _ => none
  | .nvmPasswordPresent h p => some (h, p)
  | .nvmPasswordSet h p => some (h, p)
  | .nvmPasswordRemove h p => some (h, p)
  | .nvmPasswordWithdraw h p => some (h, p)
  | .nvmPasswordReset h p => some (h, p)
  | .pwBackoffEnd _ => none
  | .nvmTallyIncrement h p => some (h, p)
  | .tallyIncrementDone _ => none
  | .nvmTallyRead h p => some (h, p)
  | .nvmPatrol h p _ => some (h, p)
  | .patrolPageDue _ => none
  | .nvmRegulatoryWrite h p => some (h, p)
  | .nvmRegulatoryLock h p => some (h, p)
  | .regulatoryLimitsApply _ => none
  | .nvmStatus h p => some (h, p)
  | .outputPacketDelivered _ => none
  | .uhfCaptureDone _ => none
  | .trigPulseEnd _ => none
  | .vddioChange _ => none
  | .uartStartBit => none
  | .syncInterval => none
  | .announceInterval => none
  | .announceTimeout => none
  | .transmitOpportunity => none
  | .fwTransferTimeout => none
  | .replyCollectionTimeout => none
  | .claimWaitTimeout => none
  | .entryBegin => none
  | .entryDrainComplete => none
  | .powerStateReached => none
  | .vcoreRampDone => none
  | .vsysFall => none
  | .vsysReturn => none
  | .coldStart => none
  | .vbkupLow => none
  | .vcoreOk => none
  | .vcoreTimeout => none
  | .xoOk => none
  | .xoTimeout => none
  | .xoRetry => none
  | .xo32Stable => none
  | .lfConfigApply => none
  | .pollPoint => none
  | .ridePoint => none
  | .fullRoundStart => none
  | .holdoffEnd => none
  | .vlfLimiterTrip => none
  | .uhfPlanApply => none
  | .uwbCfgApply => none
  | .radioIdleTimeout => none
  | .synthesiserLock => none
  | .rosterCompactionDone => none
  | .counterLogFold => none
  | .batteryRecheck => none
  | .batteryResponseTimeout => none
  | .batteryRetry => none
  | .batteryLinkTimeout => none
  | .stagingTimeout => none
  | .range => none
  | .emit => none
  | .quarantineEnd => none
  | .drbgReseedDue => none
  | .attestNonceExpiry => none
  | .alwaysOnTick => none
  | .gleanerStep => none
  | .mergeBufferEviction => none
  | .stewardRestart => none
  | .commitMsTimeout => none
  | .uwbReceiveSlotEnd => none
  | .slewComplete => none
  | .vbkupLoss => none
  | .vbkupReturn => none

end Sys2Proof
end

