-- ==== Sys2Proof/Laws/PerInstr.lean ====
section
/-!
SUPPORT. What holds of every command as syntax, one lemma for each constructor.
-/
namespace Sys2Proof.Laws.RowKind

open Sys2Proof

/-- R45, R49: a well-formed host command has parameters that PARAM_LEN can count, and has a source address and a CMAC only on
the network port. -/
def Statement (i : Instr) : Prop :=
  ∀ h p, i.command? = some (h, p) → i.wf = true → p.length ≤ 65535 ∧ (h.port = .net ∨ (h.src = 0 ∧ h.cmac = 0))

theorem of_commandWf (h : Hdr) (p : Octets) (w : commandWf h p = true) : p.length ≤ 65535 ∧ (h.port = .net ∨ (h.src = 0 ∧ h.cmac = 0)) := by
  simp only [commandWf, Hdr.wf, Bool.and_eq_true, Bool.or_eq_true, beq_iff_eq, decide_eq_true_eq] at w
  exact ⟨w.2, w.1⟩

theorem of_row (i : Instr) (h : Hdr) (p : Octets) (hc : i.command? = some (h, p)) (hw : i.wf = true → commandWf h p = true) : Statement i := by
  intro h' p' e w
  rw [hc] at e
  cases e
  exact of_commandWf h p (hw w)

theorem of_other (i : Instr) (hc : i.command? = none) : Statement i := by
  intro h p e
  rw [hc] at e
  cases e

theorem spiPacket (port : Port) (os : Octets) (obs : Obs) : Statement (.spiPacket port os obs) := of_other _ rfl
theorem chipSelectFall (port : Port) (sckHigh : Bool) : Statement (.chipSelectFall port sckHigh) := of_other _ rfl
theorem chipSelectRise (port : Port) (partOctets : Nat) : Statement (.chipSelectRise port partOctets) := of_other _ rfl
theorem uartFrame (os : Octets) (obs : Obs) : Statement (.uartFrame os obs) := of_other _ rfl
theorem hstUartCfgWrite (h : Hdr) (p : Octets) : Statement (.hstUartCfgWrite h p) := of_row _ h p rfl id
theorem networkFrame (f : Frame) : Statement (.networkFrame f) := of_other _ rfl
theorem networkCommand (f : Frame) (obs : Obs) : Statement (.networkCommand f obs) := of_other _ rfl
theorem speedReport (f : Frame) : Statement (.speedReport f) := of_other _ rfl
theorem batteryResponse (f : Frame) (others : List Frame) (fault : Bool) : Statement (.batteryResponse f others fault) := of_other _ rfl
theorem announce (m : PtpMsg) : Statement (.announce m) := of_other _ rfl
theorem sync (m : PtpMsg) (t2 : Int) : Statement (.sync m t2) := of_other _ rfl
theorem followUp (m : PtpMsg) : Statement (.followUp m) := of_other _ rfl
theorem delayReq (m : PtpMsg) (t4 : Int) : Statement (.delayReq m t4) := of_other _ rfl
theorem delayResp (m : PtpMsg) : Statement (.delayResp m) := of_other _ rfl
theorem linkChange (up : Bool) : Statement (.linkChange up) := of_other _ rfl
theorem frameTransmitted (t : Int) : Statement (.frameTransmitted t) := of_other _ rfl
theorem sysNop (h : Hdr) (p : Octets) : Statement (.sysNop h p) := of_row _ h p rfl id
theorem sysIdentify (h : Hdr) (p : Octets) : Statement (.sysIdentify h p) := of_row _ h p rfl id
theorem sysStatus (h : Hdr) (p : Octets) : Statement (.sysStatus h p) := of_row _ h p rfl id
theorem sysSnapshot (h : Hdr) (p : Octets) : Statement (.sysSnapshot h p) := of_row _ h p rfl id
theorem sysReset (h : Hdr) (p : Octets) : Statement (.sysReset h p) := of_row _ h p rfl id
theorem deviceRestart (imageOk : Bool) : Statement (.deviceRestart imageOk) := of_other _ rfl
theorem sysSelfTest (h : Hdr) (p : Octets) (obs : Obs) : Statement (.sysSelfTest h p obs) := of_row _ h p rfl (fun w => ((Bool.and_eq_true _ _).mp w).1)
theorem sysFwBegin (h : Hdr) (p : Octets) : Statement (.sysFwBegin h p) := of_row _ h p rfl id
theorem sysFwChunk (h : Hdr) (p : Octets) : Statement (.sysFwChunk h p) := of_row _ h p rfl id
theorem sysFwCommit (h : Hdr) (p : Octets) (obs : Obs) : Statement (.sysFwCommit h p obs) := of_row _ h p rfl (fun w => ((Bool.and_eq_true _ _).mp w).1)
theorem sysRegRead (h : Hdr) (p : Octets) : Statement (.sysRegRead h p) := of_row _ h p rfl id
theorem sysRegWrite (h : Hdr) (p : Octets) : Statement (.sysRegWrite h p) := of_row _ h p rfl id
theorem rcRegisterRead (h : Hdr) (p : Octets) : Statement (.rcRegisterRead h p) := of_row _ h p rfl id
theorem w1cFlagClear (h : Hdr) (p : Octets) : Statement (.w1cFlagClear h p) := of_row _ h p rfl id
theorem ntcTimeNsRead (h : Hdr) (p : Octets) : Statement (.ntcTimeNsRead h p) := of_row _ h p rfl id
theorem sysDebugLockWrite (h : Hdr) (p : Octets) : Statement (.sysDebugLockWrite h p) := of_row _ h p rfl id
theorem domainSeal (h : Hdr) (p : Octets) : Statement (.domainSeal h p) := of_row _ h p rfl id
theorem seqPolicySigned (h : Hdr) (p : Octets) : Statement (.seqPolicySigned h p) := of_row _ h p rfl id
theorem uwbCalWrite (h : Hdr) (p : Octets) : Statement (.uwbCalWrite h p) := of_row _ h p rfl id
theorem tmrCfgWrite (h : Hdr) (p : Octets) : Statement (.tmrCfgWrite h p) := of_row _ h p rfl id
theorem sysTamperConfig (h : Hdr) (p : Octets) : Statement (.sysTamperConfig h p) := of_row _ h p rfl id
theorem sysTamperClear (h : Hdr) (p : Octets) : Statement (.sysTamperClear h p) := of_row _ h p rfl id
theorem hstOpen (h : Hdr) (p : Octets) : Statement (.hstOpen h p) := of_row _ h p rfl id
theorem hstClose (h : Hdr) (p : Octets) : Statement (.hstClose h p) := of_row _ h p rfl id
theorem hstSetRole (h : Hdr) (p : Octets) : Statement (.hstSetRole h p) := of_row _ h p rfl id
theorem hstEventRead (h : Hdr) (p : Octets) : Statement (.hstEventRead h p) := of_row _ h p rfl id
theorem hstEventMask (h : Hdr) (p : Octets) : Statement (.hstEventMask h p) := of_row _ h p rfl id
theorem hstClaim (h : Hdr) (p : Octets) : Statement (.hstClaim h p) := of_row _ h p rfl id
theorem hstUnclaim (h : Hdr) (p : Octets) : Statement (.hstUnclaim h p) := of_row _ h p rfl id
theorem claimLeaseLapse (ctx : Fin 8) : Statement (.claimLeaseLapse ctx) := of_other _ rfl
theorem roleBackoffEnd (ctx : Fin 8) : Statement (.roleBackoffEnd ctx) := of_other _ rfl
theorem jrnRead (h : Hdr) (p : Octets) : Statement (.jrnRead h p) := of_row _ h p rfl id
theorem jrnStatus (h : Hdr) (p : Octets) : Statement (.jrnStatus h p) := of_row _ h p rfl id
theorem jrnLookup (h : Hdr) (p : Octets) : Statement (.jrnLookup h p) := of_row _ h p rfl id
theorem jrnMark (h : Hdr) (p : Octets) : Statement (.jrnMark h p) := of_row _ h p rfl id
theorem pwrEnter (h : Hdr) (p : Octets) : Statement (.pwrEnter h p) := of_row _ h p rfl id
theorem pwrWakeConfig (h : Hdr) (p : Octets) : Statement (.pwrWakeConfig h p) := of_row _ h p rfl id
theorem pwrResidencyRead (h : Hdr) (p : Octets) : Statement (.pwrResidencyRead h p) := of_row _ h p rfl id
theorem pwrWakeRecordRead (h : Hdr) (p : Octets) : Statement (.pwrWakeRecordRead h p) := of_row _ h p rfl id
theorem pwrProfile (h : Hdr) (p : Octets) : Statement (.pwrProfile h p) := of_row _ h p rfl id
theorem wakePinActive (pin : Fin 2) : Statement (.wakePinActive pin) := of_other _ rfl
theorem vholdLow (sealedPages : Nat) : Statement (.vholdLow sealedPages) := of_other _ rfl
theorem memOk (checker : Word) (flips : List (Nat × BitVec 47)) (keyFlips : List (Fin 256)) : Statement (.memOk checker flips keyFlips) := of_other _ rfl
theorem logicOk (saveBad : List Nat) (exitUs : Nat) : Statement (.logicOk saveBad exitUs) := of_other _ rfl
theorem commandsAccepted (kat : BitVec 16) (modes : BitVec 4) (entropyOk : Bool) : Statement (.commandsAccepted kat modes entropyOk) := of_other _ rfl
theorem lfChannelConfig (h : Hdr) (p : Octets) : Statement (.lfChannelConfig h p) := of_row _ h p rfl id
theorem lfTune (h : Hdr) (p : Octets) (obs : Obs) : Statement (.lfTune h p obs) := of_row _ h p rfl (fun w => ((Bool.and_eq_true _ _).mp w).1)
theorem lfDiagnose (h : Hdr) (p : Octets) (obs : Obs) : Statement (.lfDiagnose h p obs) := of_row _ h p rfl (fun w => ((Bool.and_eq_true _ _).mp w).1)
theorem lfPollStart (h : Hdr) (p : Octets) : Statement (.lfPollStart h p) := of_row _ h p rfl id
theorem lfPollStop (h : Hdr) (p : Octets) : Statement (.lfPollStop h p) := of_row _ h p rfl id
theorem lfFieldMapLoad (h : Hdr) (p : Octets) : Statement (.lfFieldMapLoad h p) := of_row _ h p rfl id
theorem lfSend (h : Hdr) (p : Octets) (obs : Obs) : Statement (.lfSend h p obs) := of_row _ h p rfl (fun w => ((Bool.and_eq_true _ _).mp w).1)
theorem presenceDetected (word : BitVec 16) (offset : Int) : Statement (.presenceDetected word offset) := of_other _ rfl
theorem diagnosisPulse (vlfOk : Bool) (m : CoilMeas) : Statement (.diagnosisPulse vlfOk m) := of_other _ rfl
theorem elementEnd (vlfOk : Bool) (l : List CoilMeas) : Statement (.elementEnd vlfOk l) := of_other _ rfl
theorem driverOverTemperature (strip : Fin 3) (hot : Bool) : Statement (.driverOverTemperature strip hot) := of_other _ rfl
theorem lockDriveStart (n : Fin 2) (vlfOk : Bool) : Statement (.lockDriveStart n vlfOk) := of_other _ rfl
theorem uhfChannelPlan (h : Hdr) (p : Octets) : Statement (.uhfChannelPlan h p) := of_row _ h p rfl id
theorem uhfEnable (h : Hdr) (p : Octets) : Statement (.uhfEnable h p) := of_row _ h p rfl id
theorem uhfDisable (h : Hdr) (p : Octets) : Statement (.uhfDisable h p) := of_row _ h p rfl id
theorem unitReachesState (u : UnitId) (ok : Bool) (temp : Int) : Statement (.unitReachesState u ok temp) := of_other _ rfl
theorem uhfCaptureArm (h : Hdr) (p : Octets) : Statement (.uhfCaptureArm h p) := of_row _ h p rfl id
theorem uhfCaptureRead (h : Hdr) (p : Octets) : Statement (.uhfCaptureRead h p) := of_row _ h p rfl id
theorem uhfCalibrate (h : Hdr) (p : Octets) (obs : Obs) : Statement (.uhfCalibrate h p obs) := of_row _ h p rfl (fun w => ((Bool.and_eq_true _ _).mp w).1)
theorem uhfVigilConfig (h : Hdr) (p : Octets) (obs : Obs) : Statement (.uhfVigilConfig h p obs) := of_row _ h p rfl (fun w => ((Bool.and_eq_true _ _).mp w).1)
theorem uhfCalibrationDue (ok : Bool) (temp : Int) : Statement (.uhfCalibrationDue ok temp) := of_other _ rfl
theorem temperatureDrift (temp : Int) (uhfOk vigilOk : Bool) (c : UwbCal) : Statement (.temperatureDrift temp uhfOk vigilOk c) := of_other _ rfl
theorem responseFrame (f : RxFrame) : Statement (.responseFrame f) := of_other _ rfl
theorem primarySlotEnd (residual : Nat) (unsynced : Bool) : Statement (.primarySlotEnd residual unsynced) := of_other _ rfl
theorem collectionClose (clipped : Bool) : Statement (.collectionClose clipped) := of_other _ rfl
theorem lateFrameEnd (lane : Fin 64) (crcOk incomplete : Bool) (id : BitVec 40) (rssi : Nat) : Statement (.lateFrameEnd lane crcOk incomplete id rssi) := of_other _ rfl
theorem sampleParityError (strip : Option (Fin 8)) : Statement (.sampleParityError strip) := of_other _ rfl
theorem coexRequest (set : Fin 2) (req pri : Bool) : Statement (.coexRequest set req pri) := of_other _ rfl
theorem coexGrantChange (set : Fin 2) (gnt : Bool) : Statement (.coexGrantChange set gnt) := of_other _ rfl
theorem radioCoexConfig (h : Hdr) (p : Octets) : Statement (.radioCoexConfig h p) := of_row _ h p rfl id
theorem coexConfigApply (set : Fin 2) : Statement (.coexConfigApply set) := of_other _ rfl
theorem uwbConfig (h : Hdr) (p : Octets) : Statement (.uwbConfig h p) := of_row _ h p rfl id
theorem uwbSessionOpen (h : Hdr) (p : Octets) (obs : Obs) : Statement (.uwbSessionOpen h p obs) := of_row _ h p rfl (fun w => ((Bool.and_eq_true _ _).mp w).1)
theorem uwbSessionClose (h : Hdr) (p : Octets) : Statement (.uwbSessionClose h p) := of_row _ h p rfl id
theorem uwbRangeNow (h : Hdr) (p : Octets) : Statement (.uwbRangeNow h p) := of_row _ h p rfl id
theorem uwbCirRead (h : Hdr) (p : Octets) : Statement (.uwbCirRead h p) := of_row _ h p rfl id
theorem uwbCalibrate (h : Hdr) (p : Octets) (obs : Obs) : Statement (.uwbCalibrate h p obs) := of_row _ h p rfl (fun w => ((Bool.and_eq_true _ _).mp w).1)
theorem uwbRadioState (h : Hdr) (p : Octets) : Statement (.uwbRadioState h p) := of_row _ h p rfl id
theorem uwbCalibrationDue (c : UwbCal) : Statement (.uwbCalibrationDue c) := of_other _ rfl
theorem rangingRoundPreparation (n : Fin 8) (extra : Bool) (c : LoopCheck) : Statement (.rangingRoundPreparation n extra c) := of_other _ rfl
theorem uwbFrameTxDue (rmarker : Nat) (late : Bool) : Statement (.uwbFrameTxDue rmarker late) := of_other _ rfl
theorem uwbPollReceived (a : Arrival) : Statement (.uwbPollReceived a) := of_other _ rfl
theorem uwbResponseReceived (a : Arrival) : Statement (.uwbResponseReceived a) := of_other _ rfl
theorem uwbFinalReceived (a : Arrival) : Statement (.uwbFinalReceived a) := of_other _ rfl
theorem uwbReportReceived (ours fault : Bool) (os : Octets) : Statement (.uwbReportReceived ours fault os) := of_other _ rfl
theorem crdRosterWrite (h : Hdr) (p : Octets) (obs : Obs) : Statement (.crdRosterWrite h p obs) := of_row _ h p rfl (fun w => ((Bool.and_eq_true _ _).mp w).1)
theorem crdRosterRead (h : Hdr) (p : Octets) : Statement (.crdRosterRead h p) := of_row _ h p rfl id
theorem crdRevoke (h : Hdr) (p : Octets) : Statement (.crdRevoke h p) := of_row _ h p rfl id
theorem crdEpochAdvance (h : Hdr) (p : Octets) : Statement (.crdEpochAdvance h p) := of_row _ h p rfl id
theorem crdTicketLoad (h : Hdr) (p : Octets) : Statement (.crdTicketLoad h p) := of_row _ h p rfl id
theorem crdLockoutStatus (h : Hdr) (p : Octets) : Statement (.crdLockoutStatus h p) := of_row _ h p rfl id
theorem crdLockoutClear (h : Hdr) (p : Octets) : Statement (.crdLockoutClear h p) := of_row _ h p rfl id
theorem crdBatteryChallenge (h : Hdr) (p : Octets) : Statement (.crdBatteryChallenge h p) := of_row _ h p rfl id
theorem crdRoundResultRead (h : Hdr) (p : Octets) : Statement (.crdRoundResultRead h p) := of_row _ h p rfl id
theorem hrvReceiverConfig (h : Hdr) (p : Octets) : Statement (.hrvReceiverConfig h p) := of_row _ h p rfl id
theorem hrvArm (h : Hdr) (p : Octets) : Statement (.hrvArm h p) := of_row _ h p rfl id
theorem hrvArmDisarm (h : Hdr) (p : Octets) : Statement (.hrvArmDisarm h p) := of_row _ h p rfl id
theorem hrvLock (h : Hdr) (p : Octets) : Statement (.hrvLock h p) := of_row _ h p rfl id
theorem hrvLockClear (h : Hdr) (p : Octets) : Statement (.hrvLockClear h p) := of_row _ h p rfl id
theorem hrvStatus (h : Hdr) (p : Octets) : Statement (.hrvStatus h p) := of_row _ h p rfl id
theorem hrvActuate (h : Hdr) (p : Octets) (obs : Obs) : Statement (.hrvActuate h p obs) := of_row _ h p rfl (fun w => ((Bool.and_eq_true _ _).mp w).1)
theorem lockDriveTimeout (n : Fin 2) (current : Nat) : Statement (.lockDriveTimeout n current) := of_other _ rfl
theorem lockDriveStall (n : Fin 2) (current : Nat) : Statement (.lockDriveStall n current) := of_other _ rfl
theorem hrvPolicy (h : Hdr) (p : Octets) : Statement (.hrvPolicy h p) := of_row _ h p rfl id
theorem cadencePoint (obs : PeriodObs) : Statement (.cadencePoint obs) := of_other _ rfl
theorem latePeriodStart (obs : PeriodObs) : Statement (.latePeriodStart obs) := of_other _ rfl
theorem alwaysOnInputSample (tamper0 tamper1 posA posB : Bool) (currentA currentB : Nat) : Statement (.alwaysOnInputSample tamper0 tamper1 posA posB currentA currentB) := of_other _ rfl
theorem seqLoad (h : Hdr) (p : Octets) : Statement (.seqLoad h p) := of_row _ h p rfl id
theorem imageInstall (n : Fin 3) : Statement (.imageInstall n) := of_other _ rfl
theorem seqStart (h : Hdr) (p : Octets) : Statement (.seqStart h p) := of_row _ h p rfl id
theorem seqStop (h : Hdr) (p : Octets) : Statement (.seqStop h p) := of_row _ h p rfl id
theorem seqStatus (h : Hdr) (p : Octets) : Statement (.seqStatus h p) := of_row _ h p rfl id
theorem nop (n : Fin 3) : Statement (.nop n) := of_other _ rfl
theorem set (n : Fin 3) : Statement (.set n) := of_other _ rfl
theorem add (n : Fin 3) : Statement (.add n) := of_other _ rfl
theorem cmp (n : Fin 3) : Statement (.cmp n) := of_other _ rfl
theorem branch (n : Fin 3) : Statement (.branch n) := of_other _ rfl
theorem loop (n : Fin 3) : Statement (.loop n) := of_other _ rfl
theorem call (n : Fin 3) : Statement (.call n) := of_other _ rfl
theorem ret (n : Fin 3) : Statement (.ret n) := of_other _ rfl
theorem get (n : Fin 3) : Statement (.get n) := of_other _ rfl
theorem waitTime (n : Fin 3) (passed : Bool) : Statement (.waitTime n passed) := of_other _ rfl
theorem waitTimeEnd (n : Fin 3) : Statement (.waitTimeEnd n) := of_other _ rfl
theorem waitEvent (n : Fin 3) : Statement (.waitEvent n) := of_other _ rfl
theorem signal (n : Fin 3) : Statement (.signal n) := of_other _ rfl
theorem sendLf (late vlfOk : Bool) : Statement (.sendLf late vlfOk) := of_other _ rfl
theorem burst (late vlfOk : Bool) : Statement (.burst late vlfOk) := of_other _ rfl
theorem listen (late : Bool) : Statement (.listen late) := of_other _ rfl
theorem headland (n : Fin 3) : Statement (.headland n) := of_other _ rfl
theorem halt (n : Fin 3) : Statement (.halt n) := of_other _ rfl
theorem roundDeadline (n : Fin 3) : Statement (.roundDeadline n) := of_other _ rfl
theorem cphKeyWrite (h : Hdr) (p : Octets) : Statement (.cphKeyWrite h p) := of_row _ h p rfl id
theorem cphKeyErase (h : Hdr) (p : Octets) : Statement (.cphKeyErase h p) := of_row _ h p rfl id
theorem cphKeyEraseAll (h : Hdr) (p : Octets) : Statement (.cphKeyEraseAll h p) := of_row _ h p rfl id
theorem cphKeyDerive (h : Hdr) (p : Octets) : Statement (.cphKeyDerive h p) := of_row _ h p rfl id
theorem cphRun (h : Hdr) (p : Octets) (obs : Obs) : Statement (.cphRun h p obs) := of_row _ h p rfl (fun w => ((Bool.and_eq_true _ _).mp w).1)
theorem cphCtxSaveCopy (h : Hdr) (p : Octets) : Statement (.cphCtxSaveCopy h p) := of_row _ h p rfl id
theorem cphCtxSaveExport (h : Hdr) (p : Octets) : Statement (.cphCtxSaveExport h p) := of_row _ h p rfl id
theorem cphCtxRestore (h : Hdr) (p : Octets) : Statement (.cphCtxRestore h p) := of_row _ h p rfl id
theorem cphRandom (h : Hdr) (p : Octets) : Statement (.cphRandom h p) := of_row _ h p rfl id
theorem cphKeyInfo (h : Hdr) (p : Octets) : Statement (.cphKeyInfo h p) := of_row _ h p rfl id
theorem drbgReseedDone (ok : Bool) (apt : Bool) : Statement (.drbgReseedDone ok apt) := of_other _ rfl
theorem ntcConfig (h : Hdr) (p : Octets) : Statement (.ntcConfig h p) := of_row _ h p rfl id
theorem ntcRead (h : Hdr) (p : Octets) : Statement (.ntcRead h p) := of_row _ h p rfl id
theorem ntcAdjust (h : Hdr) (p : Octets) : Statement (.ntcAdjust h p) := of_row _ h p rfl id
theorem ntcStep (h : Hdr) (p : Octets) (obs : Obs) : Statement (.ntcStep h p obs) := of_row _ h p rfl (fun w => ((Bool.and_eq_true _ _).mp w).1)
theorem ntcTriggerArm (h : Hdr) (p : Octets) (obs : Obs) : Statement (.ntcTriggerArm h p obs) := of_row _ h p rfl (fun w => ((Bool.and_eq_true _ _).mp w).1)
theorem ntcTriggerDisarm (h : Hdr) (p : Octets) : Statement (.ntcTriggerDisarm h p) := of_row _ h p rfl id
theorem ntcTriggerRead (h : Hdr) (p : Octets) : Statement (.ntcTriggerRead h p) := of_row _ h p rfl id
theorem triggerFire (slot : Fin 16) (coils : List CoilMeas) : Statement (.triggerFire slot coils) := of_other _ rfl
theorem captureEdge (input : Fin 2) (rising : Bool) : Statement (.captureEdge input rising) := of_other _ rfl
theorem ntcCaptureRead (h : Hdr) (p : Octets) : Statement (.ntcCaptureRead h p) := of_row _ h p rfl id
theorem ntcCalendarAttest (h : Hdr) (p : Octets) : Statement (.ntcCalendarAttest h p) := of_row _ h p rfl id
theorem ntcCalendarRead (h : Hdr) (p : Octets) : Statement (.ntcCalendarRead h p) := of_row _ h p rfl id
theorem tmrConfig (h : Hdr) (p : Octets) : Statement (.tmrConfig h p) := of_row _ h p rfl id
theorem tmrSetCompare (h : Hdr) (p : Octets) : Statement (.tmrSetCompare h p) := of_row _ h p rfl id
theorem tmrRead (h : Hdr) (p : Octets) : Statement (.tmrRead h p) := of_row _ h p rfl id
theorem tmrReadPair (h : Hdr) (p : Octets) : Statement (.tmrReadPair h p) := of_row _ h p rfl id
theorem tmrStart (h : Hdr) (p : Octets) : Statement (.tmrStart h p) := of_row _ h p rfl id
theorem tmrStop (h : Hdr) (p : Octets) : Statement (.tmrStop h p) := of_row _ h p rfl id
theorem tmrClear (h : Hdr) (p : Octets) : Statement (.tmrClear h p) := of_row _ h p rfl id
theorem tmrSnapshotAll (h : Hdr) (p : Octets) : Statement (.tmrSnapshotAll h p) := of_row _ h p rfl id
theorem gpioEdge (pin : Fin 16) (level : Bool) : Statement (.gpioEdge pin level) := of_other _ rfl
theorem timerMatch (n : Fin 32) : Statement (.timerMatch n) := of_other _ rfl
theorem timerOverflow (n : Fin 32) : Statement (.timerOverflow n) := of_other _ rfl
theorem memRead (h : Hdr) (p : Octets) : Statement (.memRead h p) := of_row _ h p rfl id
theorem memWrite (h : Hdr) (p : Octets) : Statement (.memWrite h p) := of_row _ h p rfl id
theorem memScrub (h : Hdr) (p : Octets) : Statement (.memScrub h p) := of_row _ h p rfl id
theorem memFaultLogRead (h : Hdr) (p : Octets) : Statement (.memFaultLogRead h p) := of_row _ h p rfl id
theorem memRetire (h : Hdr) (p : Octets) : Statement (.memRetire h p) := of_row _ h p rfl id
theorem memErrorInject (h : Hdr) (p : Octets) : Statement (.memErrorInject h p) := of_row _ h p rfl id
theorem nvmRead (h : Hdr) (p : Octets) : Statement (.nvmRead h p) := of_row _ h p rfl id
theorem nvmWrite (h : Hdr) (p : Octets) : Statement (.nvmWrite h p) := of_row _ h p rfl id
theorem nvmCommit (h : Hdr) (p : Octets) : Statement (.nvmCommit h p) := of_row _ h p rfl id
theorem pageCommitDone (fails : List Nat) : Statement (.pageCommitDone fails) := of_other _ rfl
theorem pageEraseDone (ok : Bool) : Statement (.pageEraseDone ok) := of_other _ rfl
theorem nvmPasswordPresent (h : Hdr) (p : Octets) : Statement (.nvmPasswordPresent h p) := of_row _ h p rfl id
theorem nvmPasswordSet (h : Hdr) (p : Octets) : Statement (.nvmPasswordSet h p) := of_row _ h p rfl id
theorem nvmPasswordRemove (h : Hdr) (p : Octets) : Statement (.nvmPasswordRemove h p) := of_row _ h p rfl id
theorem nvmPasswordWithdraw (h : Hdr) (p : Octets) : Statement (.nvmPasswordWithdraw h p) := of_row _ h p rfl id
theorem nvmPasswordReset (h : Hdr) (p : Octets) : Statement (.nvmPasswordReset h p) := of_row _ h p rfl id
theorem pwBackoffEnd (ctx : Fin 8) : Statement (.pwBackoffEnd ctx) := of_other _ rfl
theorem nvmTallyIncrement (h : Hdr) (p : Octets) : Statement (.nvmTallyIncrement h p) := of_row _ h p rfl id
theorem tallyIncrementDone (jump : Nat) : Statement (.tallyIncrementDone jump) := of_other _ rfl
theorem nvmTallyRead (h : Hdr) (p : Octets) : Statement (.nvmTallyRead h p) := of_row _ h p rfl id
theorem nvmPatrol (h : Hdr) (p : Octets) (obs : Obs) : Statement (.nvmPatrol h p obs) := of_row _ h p rfl (fun w => ((Bool.and_eq_true _ _).mp w).1)
theorem patrolPageDue (health : PageHealth) : Statement (.patrolPageDue health) := of_other _ rfl
theorem nvmRegulatoryWrite (h : Hdr) (p : Octets) : Statement (.nvmRegulatoryWrite h p) := of_row _ h p rfl id
theorem nvmRegulatoryLock (h : Hdr) (p : Octets) : Statement (.nvmRegulatoryLock h p) := of_row _ h p rfl id
theorem regulatoryLimitsApply (tract : Fin 3) : Statement (.regulatoryLimitsApply tract) := of_other _ rfl
theorem nvmStatus (h : Hdr) (p : Octets) : Statement (.nvmStatus h p) := of_row _ h p rfl id
theorem outputPacketDelivered (port : Port) : Statement (.outputPacketDelivered port) := of_other _ rfl
theorem uhfCaptureDone (samples : List (Int × Int)) : Statement (.uhfCaptureDone samples) := of_other _ rfl
theorem trigPulseEnd (pin : Fin 4) : Statement (.trigPulseEnd pin) := of_other _ rfl
theorem vddioChange (present : Bool) : Statement (.vddioChange present) := of_other _ rfl
theorem uartStartBit : Statement (.uartStartBit) := of_other _ rfl
theorem syncInterval : Statement (.syncInterval) := of_other _ rfl
theorem announceInterval : Statement (.announceInterval) := of_other _ rfl
theorem announceTimeout : Statement (.announceTimeout) := of_other _ rfl
theorem transmitOpportunity : Statement (.transmitOpportunity) := of_other _ rfl
theorem fwTransferTimeout : Statement (.fwTransferTimeout) := of_other _ rfl
theorem replyCollectionTimeout : Statement (.replyCollectionTimeout) := of_other _ rfl
theorem claimWaitTimeout : Statement (.claimWaitTimeout) := of_other _ rfl
theorem entryBegin : Statement (.entryBegin) := of_other _ rfl
theorem entryDrainComplete : Statement (.entryDrainComplete) := of_other _ rfl
theorem powerStateReached : Statement (.powerStateReached) := of_other _ rfl
theorem vcoreRampDone : Statement (.vcoreRampDone) := of_other _ rfl
theorem vsysFall : Statement (.vsysFall) := of_other _ rfl
theorem vsysReturn : Statement (.vsysReturn) := of_other _ rfl
theorem coldStart : Statement (.coldStart) := of_other _ rfl
theorem vbkupLow : Statement (.vbkupLow) := of_other _ rfl
theorem vcoreOk : Statement (.vcoreOk) := of_other _ rfl
theorem vcoreTimeout : Statement (.vcoreTimeout) := of_other _ rfl
theorem xoOk : Statement (.xoOk) := of_other _ rfl
theorem xoTimeout : Statement (.xoTimeout) := of_other _ rfl
theorem xoRetry : Statement (.xoRetry) := of_other _ rfl
theorem xo32Stable : Statement (.xo32Stable) := of_other _ rfl
theorem lfConfigApply : Statement (.lfConfigApply) := of_other _ rfl
theorem pollPoint : Statement (.pollPoint) := of_other _ rfl
theorem ridePoint : Statement (.ridePoint) := of_other _ rfl
theorem fullRoundStart : Statement (.fullRoundStart) := of_other _ rfl
theorem holdoffEnd : Statement (.holdoffEnd) := of_other _ rfl
theorem vlfLimiterTrip : Statement (.vlfLimiterTrip) := of_other _ rfl
theorem uhfPlanApply : Statement (.uhfPlanApply) := of_other _ rfl
theorem uwbCfgApply : Statement (.uwbCfgApply) := of_other _ rfl
theorem radioIdleTimeout : Statement (.radioIdleTimeout) := of_other _ rfl
theorem synthesiserLock : Statement (.synthesiserLock) := of_other _ rfl
theorem rosterCompactionDone : Statement (.rosterCompactionDone) := of_other _ rfl
theorem counterLogFold : Statement (.counterLogFold) := of_other _ rfl
theorem batteryRecheck : Statement (.batteryRecheck) := of_other _ rfl
theorem batteryResponseTimeout : Statement (.batteryResponseTimeout) := of_other _ rfl
theorem batteryRetry : Statement (.batteryRetry) := of_other _ rfl
theorem batteryLinkTimeout : Statement (.batteryLinkTimeout) := of_other _ rfl
theorem stagingTimeout : Statement (.stagingTimeout) := of_other _ rfl
theorem range : Statement (.range) := of_other _ rfl
theorem emit : Statement (.emit) := of_other _ rfl
theorem quarantineEnd : Statement (.quarantineEnd) := of_other _ rfl
theorem drbgReseedDue : Statement (.drbgReseedDue) := of_other _ rfl
theorem attestNonceExpiry : Statement (.attestNonceExpiry) := of_other _ rfl
theorem alwaysOnTick : Statement (.alwaysOnTick) := of_other _ rfl
theorem gleanerStep : Statement (.gleanerStep) := of_other _ rfl
theorem mergeBufferEviction : Statement (.mergeBufferEviction) := of_other _ rfl
theorem stewardRestart : Statement (.stewardRestart) := of_other _ rfl
theorem commitMsTimeout : Statement (.commitMsTimeout) := of_other _ rfl
theorem uwbReceiveSlotEnd : Statement (.uwbReceiveSlotEnd) := of_other _ rfl
theorem slewComplete : Statement (.slewComplete) := of_other _ rfl
theorem vbkupLoss : Statement (.vbkupLoss) := of_other _ rfl
theorem vbkupReturn : Statement (.vbkupReturn) := of_other _ rfl

end Sys2Proof.Laws.RowKind
end

