-- ==== Sys2Proof/Tests/Slice0.lean ====
section
/-!
SUPPORT. Tests. For each statement a named theorem that shows, for each of its clauses, a state and operands that meet all of the
clause's hypotheses; ill-formed commands that `Instr.wf` refuses; and fixed values of the spec.
-/
namespace Sys2Proof.Tests

open Sys2Proof Sys2Proof.Machine

theorem opt_all {α : Type} {o : Option α} {P : α → Prop} [DecidablePred P] (h : o.all (fun x => decide (P x)) = true) :
    ∀ x, o = some x → P x := by
  intro x e
  subst e
  exact of_decide_eq_true h

set_option maxRecDepth 20000

/-- The machine after reset with context 0 open on SPI-A in a role. -/
def up (r : Role) : State := State.reset.modCtx 0 (fun c => { c with isOpen := true, role := r })

/-- A command of context 0 on SPI-A. -/
def h0 : Hdr := { port := .spiA, ctx := 0, seq := 1, retry := false, src := 0, cmac := 0 }

/-- Parameters that name a register and a value. -/
def wr (a v : Nat) : Octets := leOf 2 a ++ leOf 5 v

/-- Parameters that name a register and a count. -/
def rd (a n : Nat) : Octets := leOf 2 a ++ [BitVec.ofNat 8 n]

def snap32 : Octets := [32] ++ (List.replicate 32 (leOf 2 0x0B06)).flatten

theorem test_meets_SystemReadsAnswer :
    (∃ (s : State) (h : Hdr) (p : Octets), s.Ready .sysNop h p .none) ∧
    (∃ (s : State) (h : Hdr) (p : Octets), s.Ready .sysIdentify h p .none) ∧
    (∃ (s : State) (h : Hdr) (p : Octets), s.Ready .sysStatus h p .none) ∧
    (∃ (s : State) (h : Hdr) (p : Octets), s.Ready .sysSnapshot h p .none ∧ 1 ≤ p8 p 0 ∧ p8 p 0 ≤ 32 ∧ (∀ i < p8 p 0, (s.regValue true (p16 p (1 + 2 * i))).isSome = true)) ∧
    (∃ (s : State) (h : Hdr) (p : Octets), s.Ready .sysSnapshot h p .none ∧ 1 ≤ p8 p 0 ∧ p8 p 0 ≤ 32 ∧ (∀ i < p8 p 0, (s.regValue true (p16 p (1 + 2 * i))).isSome = true)) :=
  ⟨⟨up .observer, h0, [], by decide⟩,
   ⟨up .observer, h0, [], by decide⟩,
   ⟨up .observer, h0, [], by decide⟩,
   ⟨up .service, h0, [1] ++ leOf 2 0x0040, by decide, by decide, by decide, by decide⟩,
   ⟨up .service, h0, snap32, by decide, by decide, by decide, by decide⟩⟩

theorem test_meets_RegisterReadsAnswer :
    (∃ (s : State) (h : Hdr) (p : Octets), s.Ready .sysRegRead h p .none ∧ 1 ≤ p8 p 2 ∧ p8 p 2 ≤ 32 ∧ (∀ a ∈ span (p16 p 0) (p8 p 2), (s.regValue false a).isSome = true)) ∧
    (∃ (s : State) (h : Hdr) (p : Octets), s.Ready .sysRegRead h p .none ∧ 1 ≤ p8 p 2 ∧ p8 p 2 ≤ 32 ∧ (∀ a ∈ span (p16 p 0) (p8 p 2), (s.regValue false a).isSome = true)) ∧
    (∃ (s : State) (h : Hdr) (p : Octets), s.Ready .sysRegRead h p .none ∧ p8 p 2 = 1 ∧ (rcMask (p16 p 0)).isSome = true) ∧
    (∃ (s : State) (h : Hdr) (p : Octets), s.Ready .sysRegRead h p .none ∧ p16 p 0 = 0x0B06 ∧ p8 p 2 = 1) ∧
    (∃ (s : State) (h : Hdr) (p : Octets), s.Ready .sysRegRead h p .none ∧ (p8 p 2 = 0 ∨ 32 < p8 p 2 ∨ ∃ a ∈ span (p16 p 0) (p8 p 2), s.regValue false a = none)) ∧
    (∃ (s : State) (h : Hdr) (p : Octets), s.Ready .sysRegRead h p .none ∧ (p8 p 2 = 0 ∨ 32 < p8 p 2 ∨ ∃ a ∈ span (p16 p 0) (p8 p 2), s.regValue false a = none)) ∧
    (∃ (s : State) (h : Hdr) (p : Octets), s.Ready .sysRegRead h p .none ∧ (p8 p 2 = 0 ∨ 32 < p8 p 2 ∨ ∃ a ∈ span (p16 p 0) (p8 p 2), s.regValue false a = none)) :=
  ⟨⟨up .service, h0, rd 0x0040 1, by decide, by decide, by decide, by decide⟩,
   ⟨up .service, h0, rd 0x0580 32, by decide, by decide, by decide, by decide⟩,
   ⟨up .service, h0, rd 0x0218 1, by decide, by decide, by decide⟩,
   ⟨up .service, h0, rd 0x0B06 1, by decide, by decide, by decide⟩,
   ⟨up .service, h0, rd 0 0, by decide, by decide⟩,
   ⟨up .service, h0, rd 0 33, by decide, by decide⟩,
   ⟨up .service, h0, rd 0xFFFF 1, by decide, by decide⟩⟩

theorem test_meets_RegisterWritesFollowTheirAccess :
    (∃ (s : State) (h : Hdr) (p : Octets) (m : Word), s.Ready .sysRegWrite h p .none ∧ w1cMask (p16 p 0) = some m ∧ pW p 2 &&& ~~~m = 0) ∧
    (∃ (s : State) (h : Hdr) (p : Octets), s.Ready .sysRegWrite h p .none ∧ s.regValue true (p16 p 0) = none) ∧
    (∃ (s : State) (h : Hdr) (p : Octets), s.Ready .sysRegWrite h p .none ∧ (s.regValue true (p16 p 0)).isSome = true ∧ w1cMask (p16 p 0) = none ∧ rcMask (p16 p 0) = none ∧ rwMask (p16 p 0) = none) ∧
    (∃ (s : State) (h : Hdr) (p : Octets) (m : Word), s.Ready .sysRegWrite h p .none ∧ (s.regValue true (p16 p 0)).isSome = true ∧ (w1cMask (p16 p 0) = some m ∨ (w1cMask (p16 p 0) = none ∧ rcMask (p16 p 0) = some m) ∨ (w1cMask (p16 p 0) = none ∧ rcMask (p16 p 0) = none ∧ rwMask (p16 p 0) = some m)) ∧ pW p 2 &&& ~~~m ≠ 0) :=
  ⟨⟨up .service, h0, wr 0x0D01 0x3FF, 0x3FF, by decide, by decide, by decide⟩,
   ⟨up .service, h0, wr 0xFFFF 0, by decide, by decide⟩,
   ⟨up .service, h0, wr 0x0042 0, by decide, by decide, by decide, by decide, by decide⟩,
   ⟨up .service, h0, wr 0x0210 (2 ^ 39), 0xFFF, by decide, by decide, by decide, by decide⟩⟩

theorem test_meets_RegisterWritesTakeEffect :
    (∃ (s : State) (h : Hdr) (p : Octets), s.Ready .sysRegWrite h p .none ∧ p16 p 0 = 0x0210 ∧ 1 ≤ (pW p 2).toNat ∧ (pW p 2).toNat ≤ 3600) ∧
    (∃ (s : State) (h : Hdr) (p : Octets), s.Ready .sysRegWrite h p .none ∧ p16 p 0 = 0x0210 ∧ 1 ≤ (pW p 2).toNat ∧ (pW p 2).toNat ≤ 3600) ∧
    (∃ (s : State) (h : Hdr) (p : Octets), s.Ready .sysRegWrite h p .none ∧ p16 p 0 = 0x0211 ∧ 115200 ≤ (pW p 2).toNat ∧ (pW p 2).toNat ≤ 3000000) ∧
    (∃ (s : State) (h : Hdr) (p : Octets), s.Ready .sysRegWrite h p .none ∧ p16 p 0 = 0x0211 ∧ 115200 ≤ (pW p 2).toNat ∧ (pW p 2).toNat ≤ 3000000) ∧
    (∃ (s : State) (h : Hdr) (p : Octets), s.Ready .sysRegWrite h p .none ∧ p16 p 0 = 0x0044 ∧ pW p 2 = 1 ∧ (s.ctx h.ctx).role = .fleet ∧ s.sys.debugLock = false) ∧
    (∃ (s : State) (h : Hdr) (p : Octets), s.Ready .sysRegWrite h p .none ∧ p16 p 0 = 0x0702 ∧ pW p 2 &&& ~~~ones 0 25 = 0 ∧ bit (pW p 2) 24 = true ∧ s.crd.sealed = false) ∧
    (∃ (s : State) (h : Hdr) (p : Octets), s.Ready .sysRegWrite h p .none ∧ p16 p 0 = 0x0900 ∧ pW p 2 = 1 ∧ s.seq.signed = false) ∧
    (∃ (s : State) (h : Hdr) (p : Octets) (i : Fin 4), s.Ready .sysRegWrite h p .none ∧ p16 p 0 = 0x0610 + i.val ∧ pW p 2 &&& ~~~ones 0 (if i.val % 2 = 0 then 32 else 39) = 0 ∧ s.nvm.regLocked = false ∧ s.uwb.round = none) ∧
    (∃ (s : State) (h : Hdr) (p : Octets) (i : Fin 4), s.Ready .sysRegWrite h p .none ∧ p16 p 0 = 0x0610 + i.val ∧ pW p 2 &&& ~~~ones 0 (if i.val % 2 = 0 then 32 else 39) = 0 ∧ s.nvm.regLocked = false ∧ s.uwb.round = none) ∧
    (∃ (s : State) (h : Hdr) (p : Octets) (n : Fin 32), s.Ready .sysRegWrite h p .none ∧ p16 p 0 = 0x0C20 + n.val ∧ pW p 2 &&& ~~~ones 0 37 = 0 ∧ s.badTimer n (pW p 2) (BitVec.allOnes 40) = false ∧ (s.tim n).run = false) ∧
    (∃ (s : State) (h : Hdr) (p : Octets) (n : Fin 32), s.Ready .sysRegWrite h p .none ∧ p16 p 0 = 0x0C20 + n.val ∧ pW p 2 &&& ~~~ones 0 37 = 0 ∧ s.badTimer n (pW p 2) (BitVec.allOnes 40) = false ∧ (s.tim n).run = false) :=
  ⟨⟨up .service, h0, wr 0x0210 1, by decide, by decide, by decide, by decide⟩,
   ⟨up .service, h0, wr 0x0210 3600, by decide, by decide, by decide, by decide⟩,
   ⟨up .service, h0, wr 0x0211 115200, by decide, by decide, by decide, by decide⟩,
   ⟨up .service, h0, wr 0x0211 3000000, by decide, by decide, by decide, by decide⟩,
   ⟨up .fleet, h0, wr 0x0044 1, by decide, by decide, by decide, by decide, by decide⟩,
   ⟨up .service, h0, wr 0x0702 0x1000009, by decide, by decide, by decide, by decide, by decide⟩,
   ⟨up .service, h0, wr 0x0900 1, by decide, by decide, by decide, by decide⟩,
   ⟨up .service, h0, wr 0x0610 0xFFFFFFFF, 0, by decide, by decide, by decide, by decide, by decide⟩,
   ⟨up .service, h0, wr 0x0613 1, 3, by decide, by decide, by decide, by decide, by decide⟩,
   ⟨up .service, h0, wr 0x0C20 1, 0, by decide, by decide, by decide, by decide, by decide⟩,
   ⟨up .service, h0, wr 0x0C3F 1, 31, by decide, by decide, by decide, by decide, by decide⟩⟩

def fwIdle : State := { up .fleet with sys := { (up .fleet).sys with fwVersion := 7 } }
def xfer0 : FwXfer := { ctx := 0, size := 8, version := 4294967295, received := 0, image := [], last := 0 }
def fwOpen : State := { fwIdle with sys := { fwIdle.sys with fw := some xfer0 } }
def xfer8 : FwXfer := { xfer0 with received := 8, image := [1, 2, 3, 4, 5, 6, 7, 8] }
def fwWhole : State := { up .fleet with sys := { (up .fleet).sys with fw := some xfer8 } }
def restarting : State := { up .fleet with sys := { (up .fleet).sys with restart := some 2 } }

theorem test_meets_RestartsSelfTestAndFirmware :
    (∃ (s : State) (h : Hdr) (p : Octets), s.Ready .sysReset h p .none ∧ s.aboveDeny = false) ∧
    (∃ (s : State) (h : Hdr) (p : Octets) (bad : BitVec 5) (detail : List Word) (gap : Bool), s.Ready .sysSelfTest h p (.selfTest bad detail gap) ∧ p16 p 0 < 32 ∧ (p16 p 0 < 16 ∨ (s.uwb.round = none ∧ gap = true)) ∧ BitVec.ofNat 5 (p16 p 0) &&& bad = 0) ∧
    (∃ (s : State) (h : Hdr) (p : Octets) (bad : BitVec 5) (detail : List Word) (gap : Bool), s.Ready .sysSelfTest h p (.selfTest bad detail gap) ∧ p16 p 0 < 32 ∧ (p16 p 0 < 16 ∨ (s.uwb.round = none ∧ gap = true)) ∧ BitVec.ofNat 5 (p16 p 0) &&& bad = 0) ∧
    (∃ (s : State) (h : Hdr) (p : Octets) (bad : BitVec 5) (detail : List Word) (gap : Bool) (i : Nat), s.Ready .sysSelfTest h p (.selfTest bad detail gap) ∧ p16 p 0 < 16 ∧ i < 4 ∧ (p16 p 0).testBit i = true ∧ bad.getLsbD i = true ∧ (∀ j < i, (p16 p 0).testBit j && bad.getLsbD j = false)) ∧
    (∃ (s : State) (h : Hdr) (p : Octets) (bad : BitVec 5) (detail : List Word) (gap : Bool) (i : Nat), s.Ready .sysSelfTest h p (.selfTest bad detail gap) ∧ p16 p 0 < 16 ∧ i < 4 ∧ (p16 p 0).testBit i = true ∧ bad.getLsbD i = true ∧ (∀ j < i, (p16 p 0).testBit j && bad.getLsbD j = false)) ∧
    (∃ (s : State) (h : Hdr) (p : Octets), s.Ready .sysFwBegin h p .none ∧ (∀ f, s.sys.fw = some f → f.ctx = h.ctx) ∧ s.sys.fwVersion ≤ p32 p 4) ∧
    (∃ (s : State) (h : Hdr) (p : Octets), s.Ready .sysFwBegin h p .none ∧ (∀ f, s.sys.fw = some f → f.ctx = h.ctx) ∧ s.sys.fwVersion ≤ p32 p 4) ∧
    (∃ (s : State) (h : Hdr) (p : Octets) (f : FwXfer), s.Ready .sysFwChunk h p .none ∧ s.sys.fw = some f ∧ f.ctx = h.ctx ∧ p32 p 0 = f.received ∧ f.received + (p.length - 4) ≤ f.size) ∧
    (∃ (s : State) (h : Hdr) (p : Octets) (f : FwXfer), s.Ready .sysFwCommit h p (.verdict true) ∧ s.aboveDeny = false ∧ s.sys.fw = some f ∧ f.ctx = h.ctx ∧ f.received = f.size) ∧
    (∃ (s : State) (h : Hdr) (p : Octets) (f : FwXfer), s.Ready .sysFwCommit h p (.verdict false) ∧ s.aboveDeny = false ∧ s.sys.fw = some f ∧ f.ctx = h.ctx ∧ f.received = f.size) ∧
    (∃ (s : State) (f : FwXfer), s.Calm ∧ s.sys.fw = some f) ∧
    (∃ (s : State) (k : Nat), s.Calm ∧ s.sys.restart = some k ∧ s.pwr.start = none ∧ s.pwr.state = .run) ∧
    (∃ (s : State), s.Calm ∧ s.sys.restart = none) ∧
    (∃ (s : State), s.Calm ∧ s.pwr.start = none ∧ s.pwr.state = .run ∧ s.sys.faultBoot = false) :=
  ⟨⟨up .service, h0, [], by decide, by decide⟩,
   ⟨up .service, h0, [15, 0], 16, [], false, by decide, by decide, by decide, by decide⟩,
   ⟨up .service, h0, [31, 0], 0, [], true, by decide, by decide, by decide, by decide⟩,
   ⟨up .service, h0, [1, 0], 1, [7], true, 0, by decide, by decide, by decide, by decide, by decide, by decide⟩,
   ⟨up .service, h0, [15, 0], 8, [7], false, 3, by decide, by decide, by decide, by decide, by decide, by decide⟩,
   ⟨fwIdle, h0, [8, 0, 0, 0, 7, 0, 0, 0], by decide, opt_all (by decide), by decide⟩,
   ⟨fwOpen, h0, [8, 0, 0, 0, 255, 255, 255, 255], by decide, opt_all (by decide), by decide⟩,
   ⟨fwOpen, h0, [0, 0, 0, 0, 1, 2, 3, 4, 5, 6, 7, 8], xfer0, by decide, by first | rfl | decide, by decide, by decide, by decide⟩,
   ⟨fwWhole, h0, [], xfer8, by decide, by decide, by first | rfl | decide, by decide, by decide⟩,
   ⟨fwWhole, h0, [], xfer8, by decide, by decide, by first | rfl | decide, by decide, by decide⟩,
   ⟨fwWhole, xfer8, by decide, by first | rfl | decide⟩,
   ⟨restarting, 2, by decide, by first | rfl | decide, by decide, by decide⟩,
   ⟨up .fleet, by decide, by decide⟩,
   ⟨up .fleet, by decide, by decide, by decide, by decide⟩⟩

def tampered : State := { up .service with sys := { (up .service).sys with latch := 15, tamper := (up .service).sys.tamper.set 1 (({ enable := true, high := true, debounce := 255, input := { last := true, run := 0, level := some true } }) : Tamper) } }
def sampledAt : State := { up .service with sys := { (up .service).sys with sampled := some 0 }, aon := { (up .service).aon with tick := 32 } }

theorem test_meets_TamperInputsAreKeptAndSampled :
    (∃ (s : State) (h : Hdr) (p : Octets) (k : Fin 2), s.Ready .sysTamperConfig h p .none ∧ s.critSound [5] = true ∧ p8 p 0 = k.val ∧ p8 p 1 = 0 ∧ p8 p 2 ≤ 1 ∧ p8 p 3 ≤ 1 ∧ p8 p 4 ≠ 0) ∧
    (∃ (s : State) (h : Hdr) (p : Octets) (k : Fin 2), s.Ready .sysTamperConfig h p .none ∧ s.critSound [5] = true ∧ p8 p 0 = k.val ∧ p8 p 1 = 0 ∧ p8 p 2 ≤ 1 ∧ p8 p 3 ≤ 1 ∧ p8 p 4 ≠ 0) ∧
    (∃ (s : State) (h : Hdr) (p : Octets) (k : Fin 2), s.Ready .sysTamperConfig h p .none ∧ s.critSound [5] = true ∧ s.jrn.next + 4098 ≤ s.jrn.blockEnd ∧ p8 p 0 = k.val ∧ p8 p 1 = 1 ∧ ((s.sys.tamper[k]).enable && (s.sys.tamper[k]).active) = false) ∧
    (∃ (s : State) (h : Hdr) (p : Octets) (k : Fin 2), s.Ready .sysTamperConfig h p .none ∧ s.critSound [5] = true ∧ s.jrn.next + 4098 ≤ s.jrn.blockEnd ∧ p8 p 0 = k.val ∧ p8 p 1 = 1 ∧ ((s.sys.tamper[k]).enable && (s.sys.tamper[k]).active) = false) ∧
    (∃ (s : State) (h : Hdr) (p : Octets) (k : Fin 2), s.Ready .sysTamperConfig h p .none ∧ s.critSound [5] = true ∧ p8 p 0 = k.val ∧ p8 p 1 = 1 ∧ (s.sys.tamper[k]).enable = true ∧ (s.sys.tamper[k]).active = true) ∧
    (∃ (s : State), s.Calm ∧ s.working = true ∧ (∀ x, s.sys.sampled = some x → 32 ≤ s.age x)) ∧
    (∃ (s : State), s.Calm ∧ s.working = true ∧ (∀ x, s.sys.sampled = some x → 32 ≤ s.age x)) :=
  ⟨⟨up .service, h0, [0, 0, 1, 1, 255], 0, by decide, by decide, by decide, by decide, by decide, by decide, by decide⟩,
   ⟨up .service, h0, [1, 0, 0, 0, 1], 1, by decide, by decide, by decide, by decide, by decide, by decide, by decide⟩,
   ⟨up .service, h0, [0, 1, 0, 0, 0], 0, by decide, by decide, by decide, by decide, by decide, by decide⟩,
   ⟨up .service, h0, [1, 1, 0, 0, 0], 1, by decide, by decide, by decide, by decide, by decide, by decide⟩,
   ⟨tampered, h0, [1, 1, 0, 0, 0], 1, by decide, by decide, by decide, by decide, by decide, by decide⟩,
   ⟨up .service, by decide, by decide, opt_all (by decide)⟩,
   ⟨sampledAt, by decide, by decide, opt_all (by decide)⟩⟩

theorem test_meets_SessionsOpenAndClose :
    (∃ (s : State) (h : Hdr) (p : Octets), s.Calm ∧ s.working = true ∧ s.hears h.port = true ∧ h.port ≠ .net ∧ s.pwr.entry = none ∧ s.pwr.presentVisit = false ∧ (s.ctx h.ctx).isOpen = false ∧ (s.ctx h.ctx).role = .observer ∧ p.length = 9 ∧ s.jrn.exhausted = false ∧ s.jrn.next + 4097 ≤ s.jrn.blockEnd ∧ s.jrn.head < 2048 ∧ p8 p 0 = h.ctx.val ∧ p8 p 1 ≤ 1 ∧ p8 p 2 = 0 ∧ p48 p 3 = 0 ∧ s.drbgBlocked = none) ∧
    (∃ (s : State) (h : Hdr) (p : Octets), s.Calm ∧ s.working = true ∧ s.hears h.port = true ∧ h.port ≠ .net ∧ s.pwr.entry = none ∧ s.pwr.presentVisit = false ∧ (s.ctx h.ctx).isOpen = false ∧ (s.ctx h.ctx).role = .observer ∧ p.length = 9 ∧ s.jrn.exhausted = false ∧ s.jrn.next + 4097 ≤ s.jrn.blockEnd ∧ s.jrn.head < 2048 ∧ p8 p 0 = h.ctx.val ∧ p8 p 1 ≤ 1 ∧ p8 p 2 = 0 ∧ p48 p 3 = 0 ∧ s.drbgBlocked = none) ∧
    (∃ (s : State) (h : Hdr) (p : Octets), s.Ready .hstClose h p .none ∧ h.port ≠ .net) :=
  ⟨⟨State.reset, h0, [0, 0, 0, 0, 0, 0, 0, 0, 0], by decide, by decide, by decide, by decide, by decide, by decide, by decide, by decide, by decide, by decide, by decide, by decide, by decide, by decide, by decide, by decide, by decide⟩,
   ⟨State.reset, { h0 with ctx := 7, port := .uartC }, [7, 1, 0, 0, 0, 0, 0, 0, 0], by decide, by decide, by decide, by decide, by decide, by decide, by decide, by decide, by decide, by decide, by decide, by decide, by decide, by decide, by decide, by decide, by decide⟩,
   ⟨up .service, h0, [], by decide, by decide⟩⟩

def roleProof : Octets := (cmac (List.replicate 16 7) (leOf 8 9 ++ o8 0 ++ o8 4)).take 8
def keySlot : Slot := { Slot.blank with st := .written, usage := 1, key := List.replicate 16 7, kcv := kcvOf (List.replicate 16 7) }
def keyed : State :=
  (({ up .observer with cph := { (up .observer).cph with slots := (up .observer).cph.slots.set 4 keySlot } } : State)).modCtx 0
    (fun x => { x with nonce := 9, nonceLive := true })

theorem test_meets_RolesNeedTheirProof :
    (∃ (s : State) (h : Hdr) (p : Octets) (role : Role), s.Ready .hstSetRole h p .none ∧ Role.ofCode (p8 p 0) = some role ∧ (role = .battery → h.port = .net) ∧ (s.ctx h.ctx).roleTries.active s.aon.tick = false ∧ (role = .observer ∨ ((s.slot role.code).st = .empty ∧ (h.port = .spiA ∨ h.port = .spiB)) ∨ ((s.slot role.code).st = .written ∧ (s.ctx h.ctx).nonceLive = true ∧ s.cph.katModes.getLsbD 0 = false ∧ s.latch role.code = .key (s.slot role.code).key ∧ (cmac (s.slot role.code).key (leOf 8 (s.ctx h.ctx).nonce.toNat ++ o8 h.ctx.val ++ o8 role.code)).take 8 = pRun p 1 8)) ∧ s.drbgBlocked = none) ∧
    (∃ (s : State) (h : Hdr) (p : Octets) (role : Role), s.Ready .hstSetRole h p .none ∧ Role.ofCode (p8 p 0) = some role ∧ (role = .battery → h.port = .net) ∧ (s.ctx h.ctx).roleTries.active s.aon.tick = false ∧ (role = .observer ∨ ((s.slot role.code).st = .empty ∧ (h.port = .spiA ∨ h.port = .spiB)) ∨ ((s.slot role.code).st = .written ∧ (s.ctx h.ctx).nonceLive = true ∧ s.cph.katModes.getLsbD 0 = false ∧ s.latch role.code = .key (s.slot role.code).key ∧ (cmac (s.slot role.code).key (leOf 8 (s.ctx h.ctx).nonce.toNat ++ o8 h.ctx.val ++ o8 role.code)).take 8 = pRun p 1 8)) ∧ s.drbgBlocked = none) ∧
    (∃ (s : State) (h : Hdr) (p : Octets) (role : Role), s.Ready .hstSetRole h p .none ∧ Role.ofCode (p8 p 0) = some role ∧ (role = .battery → h.port = .net) ∧ (s.ctx h.ctx).roleTries.active s.aon.tick = false ∧ (role = .observer ∨ ((s.slot role.code).st = .empty ∧ (h.port = .spiA ∨ h.port = .spiB)) ∨ ((s.slot role.code).st = .written ∧ (s.ctx h.ctx).nonceLive = true ∧ s.cph.katModes.getLsbD 0 = false ∧ s.latch role.code = .key (s.slot role.code).key ∧ (cmac (s.slot role.code).key (leOf 8 (s.ctx h.ctx).nonce.toNat ++ o8 h.ctx.val ++ o8 role.code)).take 8 = pRun p 1 8)) ∧ s.drbgBlocked = none) ∧
    (∃ (s : State) (h : Hdr) (p : Octets) (role : Role), s.Ready .hstSetRole h p .none ∧ Role.ofCode (p8 p 0) = some role ∧ role ≠ .observer ∧ (role = .battery → h.port = .net) ∧ (s.ctx h.ctx).roleTries.active s.aon.tick = false ∧ (s.slot role.code).st = .written ∧ (s.ctx h.ctx).nonceLive = true ∧ s.cph.katModes.getLsbD 0 = false ∧ s.latch role.code = .key (s.slot role.code).key ∧ (cmac (s.slot role.code).key (leOf 8 (s.ctx h.ctx).nonce.toNat ++ o8 h.ctx.val ++ o8 role.code)).take 8 ≠ pRun p 1 8 ∧ s.drbgBlocked = none) ∧
    (∃ (s : State), s.Calm) ∧
    (∃ (s : State), s.Calm) :=
  ⟨⟨up .service, h0, [0, 0, 0, 0, 0, 0, 0, 0, 0], .observer, by decide, by decide, by decide, by decide, by decide, by decide⟩,
   ⟨up .observer, h0, [4, 0, 0, 0, 0, 0, 0, 0, 0], .service, by decide, by decide, by decide, by decide, by decide, by decide⟩,
   ⟨keyed, h0, [4] ++ roleProof, .service, by decide, by decide, by decide, by decide, by decide +kernel, by decide⟩,
   ⟨keyed, h0, [4, 0, 0, 0, 0, 0, 0, 0, 0], .service, by decide, by decide, by decide, by decide, by decide, by decide, by decide, by decide, by decide +kernel, by decide +kernel, by decide⟩,
   ⟨up .service, by decide⟩,
   ⟨up .service, by decide⟩⟩

theorem test_meets_EventsAndClaims :
    (∃ (s : State) (h : Hdr) (p : Octets), s.Ready .hstEventRead h p .none ∧ 1 ≤ p8 p 0 ∧ p8 p 0 ≤ 8 ∧ (s.ctx h.ctx).push = false) ∧
    (∃ (s : State) (h : Hdr) (p : Octets), s.Ready .hstEventRead h p .none ∧ 1 ≤ p8 p 0 ∧ p8 p 0 ≤ 8 ∧ (s.ctx h.ctx).push = false) ∧
    (∃ (s : State) (h : Hdr) (p : Octets), s.Ready .hstEventMask h p .none ∧ BitVec.ofNat 16 (p16 p 0) &&& 0xE001 = 0) ∧
    (∃ (s : State) (h : Hdr) (p : Octets), s.Ready .hstClaim h p .none ∧ 1 ≤ p8 p 0 ∧ p8 p 0 ≤ 3) ∧
    (∃ (s : State) (h : Hdr) (p : Octets), s.Ready .hstClaim h p .none ∧ 1 ≤ p8 p 0 ∧ p8 p 0 ≤ 3) ∧
    (∃ (s : State) (h : Hdr) (p : Octets), s.Ready .hstUnclaim h p .none) ∧
    (∃ (s : State) (n : Fin 8), s.Calm ∧ (s.ctx n).claim ≠ 0) :=
  ⟨⟨up .observer, h0, [1], by decide, by decide, by decide, by decide⟩,
   ⟨up .observer, h0, [8], by decide, by decide, by decide, by decide⟩,
   ⟨up .observer, h0, leOf 2 0x1FFE, by decide, by decide⟩,
   ⟨up .observer, h0, [1], by decide, by decide, by decide⟩,
   ⟨up .observer, h0, [3], by decide, by decide, by decide⟩,
   ⟨up .observer, h0, [], by decide⟩,
   ⟨(up .observer).modCtx 0 (fun x => { x with claim := 1 }), 0, by decide, by decide⟩⟩

/-- The store after reset holds one entry in the non-volatile ring, the START entry. -/
theorem seqs_up : ∀ x ∈ (up .observer).nvSeqs, x.1 = 1 := by
  intro x hx
  simp only [State.nvSeqs, List.mem_filterMap] at hx
  obtain ⟨k, -, e⟩ := hx
  rcases Nat.eq_zero_or_pos k with rfl | hk
  · have h : (up .observer).nvm.work.get (nvRingAddr 0) = some 1 := by decide
    rw [h] at e
    have e := Option.some.inj (show some ((1 : Word).toNat, 0) = some x from e)
    rw [← e]; rfl
  · have h : (up .observer).nvm.work.get (nvRingAddr k) = some erased := by
      have n0 : ¬ (65536 + 5 * k = 65536) := by omega
      have n1 : ¬ (65536 + 5 * k = 65537) := by omega
      have n2 : ¬ (65536 + 5 * k = 65538) := by omega
      have n3 : ¬ (65536 + 5 * k = 65539) := by omega
      have n4 : ¬ (65536 + 5 * k = 65540) := by omega
      show alGet (some erased) [(65536, some _), (65537, some _), (65538, some _), (65539, some _), (65540, some _)] (65536 + 5 * k) = some erased
      simp only [alGet, n0, n1, n2, n3, n4, if_false]
    rw [h] at e
    simp at e
/-- The words of the START entry of the working ring after reset. -/
def startEntry (_ j : Nat) : Word := startWords.getD j 0

/-- A second entry: of HOST_SEQ 5 of context 3. -/
def entry2 : Entry := { Entry.none with seq := 2, opcode := 0x0103, hostSeq := 5, ctx := 3 }
def entriesOf (i j : Nat) : Word := if i = 0 then startWords.getD j 0 else entry2.words.getD j 0
def twoEntries : State := let s := up .observer
  { s with mem := s.mem.writeRun (ringAddr 1) entry2.words, jrn := { s.jrn with head := 2, count := 2 } }

theorem one_entry : ∀ i < (up .service).jrn.count, ∃ w, decode47 ((up .service).mem.stored (ringAddr ((up .service).jrn.slotOf i))) = .good w ∧
    w ≤ pW [2, 0, 0, 0, 0] 0 := by
  intro i hi
  have e : (up .service).jrn.count = 1 := by decide
  obtain rfl : i = 0 := by omega
  exact ⟨1, by decide, by decide⟩

theorem test_meets_AlmanacIsReadAndMarked :
    (∃ (s : State) (h : Hdr) (p : Octets), s.Ready .jrnStatus h p .none) ∧
    (∃ (s : State) (h : Hdr) (p : Octets) (w : Nat → Nat → Word), s.Ready .jrnRead h p .none ∧ 1 ≤ p8 p 5 ∧ p8 p 5 ≤ 40 ∧ (∀ i < s.jrn.count, ∀ j < 5, decode47 (s.mem.stored (ringAddr (s.jrn.slotOf i) + j)) = .good (w i j)) ∧ (∀ x ∈ s.nvSeqs, x.1 < (pW p 0).toNat ∨ (s.jrn.count ≠ 0 ∧ s.oldestWm.toNat ≤ x.1))) ∧
    (∃ (s : State) (h : Hdr) (p : Octets) (w : Nat → Nat → Word) (i : Nat), s.Ready .jrnLookup h p .none ∧ p8 p 0 = 0 ∧ p8 p 6 ≤ 7 ∧ (∀ k < s.jrn.count, ∀ j < 5, decode47 (s.mem.stored (ringAddr (s.jrn.slotOf k) + j)) = .good (w k j)) ∧ i < s.jrn.count ∧ w i 0 = pW p 1 ∧ (∀ k < i, w k 0 ≠ pW p 1)) ∧
    (∃ (s : State) (h : Hdr) (p : Octets) (w : Nat → Nat → Word) (i : Nat), s.Ready .jrnLookup h p .none ∧ p8 p 0 = 1 ∧ p8 p 6 ≤ 7 ∧ (∀ k < s.jrn.count, ∀ j < 5, decode47 (s.mem.stored (ringAddr (s.jrn.slotOf k) + j)) = .good (w k j)) ∧ i < s.jrn.count ∧ fld (w i 2) 32 3 = p8 p 6 ∧ fld (w i 2) 16 16 = p16 p 7 ∧ bit (w i 3) 18 = false ∧ (∀ k < s.jrn.count, i < k → fld (w k 2) 32 3 ≠ p8 p 6 ∨ fld (w k 2) 16 16 ≠ p16 p 7 ∨ bit (w k 3) 18 = true)) ∧
    (∃ (s : State) (h : Hdr) (p : Octets) (w : Nat → Nat → Word), s.Ready .jrnLookup h p .none ∧ p8 p 0 = 1 ∧ p8 p 6 ≤ 7 ∧ (∀ k < s.jrn.count, ∀ j < 5, decode47 (s.mem.stored (ringAddr (s.jrn.slotOf k) + j)) = .good (w k j)) ∧ (∀ k < s.jrn.count, fld (w k 2) 32 3 ≠ p8 p 6 ∨ fld (w k 2) 16 16 ≠ p16 p 7 ∨ bit (w k 3) 18 = true)) ∧
    (∃ (s : State) (h : Hdr) (p : Octets), s.Ready .jrnMark h p .none ∧ pW p 0 = BitVec.ofNat 40 s.jrn.next ∧ s.jrn.next < 2 ^ 40 ∧ s.jrn.count < 1024 ∧ s.mem.wf = true ∧ (∀ i < s.jrn.count, ∃ w, decode47 (s.mem.stored (ringAddr (s.jrn.slotOf i))) = .good w ∧ w ≤ pW p 0)) ∧
    (∃ (s : State) (h : Hdr) (p : Octets), s.Ready .jrnMark h p .none ∧ pW p 0 = 0) ∧
    (∃ (s : State) (h : Hdr) (p : Octets), s.Ready .jrnMark h p .none ∧ s.jrn.next < (pW p 0).toNat) :=
  ⟨⟨up .observer, h0, [], by decide⟩,
   ⟨up .observer, h0, [1, 0, 0, 0, 0, 40], startEntry, by decide, by decide, by decide, by decide, fun x hx => .inr ⟨by decide, by rw [seqs_up x hx]; decide⟩⟩,
   ⟨up .observer, h0, [0, 1, 0, 0, 0, 0, 0, 0, 0], startEntry, 0, by decide, by decide, by decide, by decide, by decide, by decide, by decide⟩,
   ⟨twoEntries, h0, [1, 0, 0, 0, 0, 0, 3, 5, 0], entriesOf, 1, by decide, by decide, by decide, by decide, by decide, by decide, by decide, by decide, by decide⟩,
   ⟨up .observer, h0, [1, 0, 0, 0, 0, 0, 7, 255, 255], startEntry, by decide, by decide, by decide, by decide, by decide⟩,
   ⟨up .service, h0, [2, 0, 0, 0, 0], by decide, by decide, by decide, by decide, by decide, one_entry⟩,
   ⟨up .service, h0, [0, 0, 0, 0, 0], by decide, by decide⟩,
   ⟨up .service, h0, [3, 0, 0, 0, 0], by decide, by decide⟩⟩

def claimed : State := (up .service).modCtx 1 (fun x => { x with isOpen := true, claim := 3 })
def xoUp : State := { up .service with pwr := { (up .service).pwr with xo32 := true } }
def idling : State := { up .service with pwr := { (up .service).pwr with state := .idle } }

theorem test_meets_PowerCommands :
    (∃ (s : State) (h : Hdr) (p : Octets), s.Ready .pwrEnter h p .none ∧ p8 p 0 = 1 ∧ p8 p 1 = 0 ∧ p16 p 3 ≤ 60000 ∧ s.pwr.state = .run ∧ s.claimForbids .idle = false) ∧
    (∃ (s : State) (h : Hdr) (p : Octets), s.Ready .pwrEnter h p .none ∧ p8 p 0 = 1 ∧ p8 p 1 = 0 ∧ p16 p 3 ≤ 60000 ∧ s.pwr.state = .run ∧ s.claimForbids .idle = false) ∧
    (∃ (s : State) (h : Hdr) (p : Octets), s.Ready .pwrEnter h p .none ∧ p8 p 1 = 0 ∧ p16 p 3 ≤ 60000 ∧ s.pwr.state.code = p8 p 0 ∧ ((s.ctx h.ctx).role = .drive → p8 p 0 = 1)) ∧
    (∃ (s : State) (h : Hdr) (p : Octets), s.Ready .pwrEnter h p .none ∧ p8 p 1 = 0 ∧ p16 p 3 ≤ 60000 ∧ s.pwr.state.code = p8 p 0 ∧ ((s.ctx h.ctx).role = .drive → p8 p 0 = 1)) ∧
    (∃ (s : State) (h : Hdr) (p : Octets), s.Ready .pwrEnter h p .none ∧ p8 p 0 = 1 ∧ p8 p 1 = 0 ∧ p16 p 3 = 0 ∧ s.pwr.state = .run ∧ s.claimForbids .idle = true) ∧
    (∃ (s : State) (h : Hdr) (p : Octets), s.Ready .pwrEnter h p .none ∧ 2 ≤ p8 p 0 ∧ p8 p 0 ≤ 4 ∧ p8 p 1 = 0 ∧ p16 p 3 ≤ 60000 ∧ (s.ctx h.ctx).role ≠ .drive ∧ s.aboveDeny = false ∧ s.pwr.xo32 = true ∧ (p8 p 0 ≤ 3 → s.pwr.canWake = true) ∧ (p8 p 0 = 4 → bit s.pwr.wakeCfg 0 = true) ∧ s.claimForbids (PState.ofCode (p8 p 0)) = false) ∧
    (∃ (s : State) (h : Hdr) (p : Octets), s.Ready .pwrEnter h p .none ∧ 2 ≤ p8 p 0 ∧ p8 p 0 ≤ 4 ∧ p8 p 1 = 0 ∧ p16 p 3 ≤ 60000 ∧ (s.ctx h.ctx).role ≠ .drive ∧ s.aboveDeny = false ∧ s.pwr.xo32 = true ∧ (p8 p 0 ≤ 3 → s.pwr.canWake = true) ∧ (p8 p 0 = 4 → bit s.pwr.wakeCfg 0 = true) ∧ s.claimForbids (PState.ofCode (p8 p 0)) = false) ∧
    (∃ (s : State) (h : Hdr) (p : Octets), s.Ready .pwrWakeConfig h p .none ∧ p16 p 0 ≤ 2047 ∧ (p16 p 0).testBit 10 = true ∧ (p16 p 0).testBit 9 = false ∧ p8 p 6 ≤ 3 ∧ p8 p 7 ≤ 1) ∧
    (∃ (s : State) (h : Hdr) (p : Octets), s.Ready .pwrProfile h p .none ∧ p8 p 0 ≤ 2 ∧ s.pwr.profNext = none ∧ s.pwr.profile = p8 p 0) ∧
    (∃ (s : State) (h : Hdr) (p : Octets), s.Ready .pwrProfile h p .none ∧ p8 p 0 ≤ 2 ∧ s.pwr.profile ≠ p8 p 0 ∧ s.pwr.state = .idle ∧ s.pwr.boost = false) ∧
    (∃ (s : State) (h : Hdr) (p : Octets), s.Ready .pwrProfile h p .none ∧ p8 p 0 ≤ 2 ∧ s.pwr.profile ≠ p8 p 0 ∧ s.pwr.state = .idle ∧ s.pwr.boost = false) ∧
    (∃ (s : State) (h : Hdr) (p : Octets), s.Ready .pwrProfile h p .none ∧ p8 p 0 ≤ 2 ∧ s.pwr.profile ≠ p8 p 0 ∧ (s.pwr.state = .run ∨ s.pwr.boost = true)) ∧
    (∃ (s : State) (h : Hdr) (p : Octets), s.Ready .pwrResidencyRead h p .none) ∧
    (∃ (s : State) (h : Hdr) (p : Octets), s.Ready .pwrWakeRecordRead h p .none) :=
  ⟨⟨up .service, h0, [1, 0, 0, 0, 0], by decide, by decide, by decide, by decide, by decide, by decide⟩,
   ⟨up .service, h0, [1, 0, 0, 0x60, 0xEA], by decide, by decide, by decide, by decide, by decide, by decide⟩,
   ⟨up .service, h0, [0, 0, 0, 0, 0], by decide, by decide, by decide, by decide, by decide⟩,
   ⟨idling, h0, [1, 0, 0, 0x60, 0xEA], by decide, by decide, by decide, by decide, by decide⟩,
   ⟨claimed, h0, [1, 0, 0, 0, 0], by decide, by decide, by decide, by decide, by decide, by decide⟩,
   ⟨xoUp, h0, [2, 0, 255, 0, 0], by decide, by decide, by decide, by decide, by decide, by decide, by decide, by decide, by decide, by decide, by decide⟩,
   ⟨xoUp, h0, [4, 0, 255, 0x60, 0xEA], by decide, by decide, by decide, by decide, by decide, by decide, by decide, by decide, by decide, by decide, by decide⟩,
   ⟨up .service, h0, [0xFF, 5, 1, 0, 0, 0, 3, 1, 8], by decide, by decide, by decide, by decide, by decide, by decide⟩,
   ⟨up .service, h0, [1], by decide, by decide, by decide, by decide⟩,
   ⟨idling, h0, [0], by decide, by decide, by decide, by decide, by decide⟩,
   ⟨idling, h0, [2], by decide, by decide, by decide, by decide, by decide⟩,
   ⟨up .service, h0, [2], by decide, by decide, by decide, by decide⟩,
   ⟨up .service, h0, [], by decide⟩,
   ⟨up .service, h0, [], by decide⟩⟩

/-- Coils 0 and 1 enabled, with every field at its limit. -/
def coilsAt (current : Nat) : Octets := [3, 0, 15, 1, BitVec.ofNat 8 current, 127, 1]
def lfRound : State := (up .service).modLf (fun l => { l with round := some ((up .service).newRound false 0 0) })
def lfLimited : State := { up .service with nvm := { (up .service).nvm with regLf := setFld (up .service).nvm.regLf 0 6 20 } }

theorem test_meets_LfChannelsAreConfigured :
    (∃ (s : State) (h : Hdr) (p : Octets), s.Ready .lfChannelConfig h p .none ∧ p16 p 0 ≤ 0xFFF ∧ p8 p 2 ≤ 15 ∧ p8 p 3 ≤ 1 ∧ p8 p 4 ≤ 63 ∧ p8 p 5 ≤ 127 ∧ p8 p 6 ≤ 1 ∧ s.lf.round = none ∧ s.lf.changes = [] ∧ (let l := s.lf.apply (.channels (p16 p 0) (p8 p 2) (p8 p 3) (p8 p 4) (p8 p 5) (p8 p 6)); l.frameOk = true ∧ l.planOk = true ∧ s.lfLegal l = true)) ∧
    (∃ (s : State) (h : Hdr) (p : Octets), s.Ready .lfChannelConfig h p .none ∧ p16 p 0 ≤ 0xFFF ∧ p8 p 2 ≤ 15 ∧ p8 p 3 ≤ 1 ∧ p8 p 4 ≤ 63 ∧ p8 p 5 ≤ 127 ∧ p8 p 6 ≤ 1 ∧ s.lf.round = none ∧ s.lf.changes = [] ∧ (let l := s.lf.apply (.channels (p16 p 0) (p8 p 2) (p8 p 3) (p8 p 4) (p8 p 5) (p8 p 6)); l.frameOk = true ∧ l.planOk = true ∧ s.lfLegal l = true)) ∧
    (∃ (s : State) (h : Hdr) (p : Octets), s.Ready .lfChannelConfig h p .none ∧ p16 p 0 ≤ 0xFFF ∧ p8 p 2 ≤ 15 ∧ p8 p 3 ≤ 1 ∧ p8 p 4 ≤ 63 ∧ p8 p 5 ≤ 127 ∧ p8 p 6 ≤ 1 ∧ s.lf.round.isSome = true ∧ (let l := s.lf.ahead.apply (.channels (p16 p 0) (p8 p 2) (p8 p 3) (p8 p 4) (p8 p 5) (p8 p 6)); l.frameOk = true ∧ l.planOk = true ∧ s.lfLegal l = true)) ∧
    (∃ (s : State) (h : Hdr) (p : Octets), s.Ready .lfChannelConfig h p .none ∧ p16 p 0 ≤ 0xFFF ∧ p8 p 2 ≤ 15 ∧ p8 p 3 ≤ 1 ∧ p8 p 4 ≤ 63 ∧ p8 p 5 ≤ 127 ∧ p8 p 6 ≤ 1 ∧ (let l := s.lf.ahead.apply (.channels (p16 p 0) (p8 p 2) (p8 p 3) (p8 p 4) (p8 p 5) (p8 p 6)); l.frameOk = true ∧ l.planOk = true ∧ s.lfLegal l = false)) :=
  ⟨⟨up .service, h0, coilsAt 63, by decide, by decide, by decide, by decide, by decide, by decide, by decide, by decide, by decide, by decide⟩,
   ⟨up .service, h0, [255, 15, 0, 0, 0, 0, 0], by decide, by decide, by decide, by decide, by decide, by decide, by decide, by decide, by decide, by decide⟩,
   ⟨lfRound, h0, coilsAt 63, by decide, by decide, by decide, by decide, by decide, by decide, by decide, by decide, by decide⟩,
   ⟨lfLimited, h0, coilsAt 21, by decide, by decide, by decide, by decide, by decide, by decide, by decide, by decide⟩⟩

def meas0 : CoilMeas := { coil := 0, ampl := 100, phase := 20, q := 40, trip := false }
/-- Coil 0 enabled at a small current. -/
def coil0 : State := (up .service).modLf (fun l => { l with coils := l.coils.set 0 { l.coils[0] with cfg := put 0 1 1 ||| put 1 6 10 ||| put 7 7 64 } })
/-- Coil 0 enabled and measured, a plan that names it, and the other coils as after reset. -/
def planned : State := coil0.modLf (fun l => { l with plan1 := put 8 4 1 ||| put 12 12 1, wakeId := put 0 16 3 ||| put 16 16 4, coils := l.coils.set 0 { l.coils[0] with cls := 0 } })
def lfOffU : State := planned.modLf (fun l => { l with unit := .off })
def lfOnU : State := planned.modLf (fun l => { l with unit := .on })

theorem test_meets_LfServiceAndUnit :
    (∃ (s : State) (h : Hdr) (p : Octets) (n : Fin 12) (m : CoilMeas), s.Ready .lfTune h p (.coils true [m]) ∧ p16 p 0 = 2 ^ n.val ∧ s.lfGap = true ∧ (s.lf.coil n).enabled = true ∧ s.lf.isHot n = false ∧ m.coil = n ∧ s.dutyOk (s.lf.us 64) = true) ∧
    (∃ (s : State) (h : Hdr) (p : Octets) (n : Fin 12) (m : CoilMeas), s.Ready .lfTune h p (.coils false [m]) ∧ p16 p 0 = 2 ^ n.val ∧ s.lfGap = true ∧ (s.lf.coil n).enabled = true ∧ s.lf.isHot n = false ∧ m.coil = n) ∧
    (∃ (s : State) (h : Hdr) (p : Octets) (n : Fin 12) (m : CoilMeas), s.Ready .lfDiagnose h p (.coils true [m]) ∧ p16 p 0 = 2 ^ n.val ∧ p8 p 2 = 1 ∧ s.lfGap = true ∧ (s.lf.coil n).enabled = true ∧ s.lf.isHot n = false ∧ m.coil = n ∧ s.dutyOk (s.lf.us 64) = true) ∧
    (∃ (s : State) (h : Hdr) (p : Octets), s.Ready .lfDiagnose h p .none ∧ p16 p 0 ≤ 0xFFF ∧ p8 p 2 = 0) ∧
    (∃ (s : State) (h : Hdr) (p : Octets) (l : List CoilMeas), s.Ready .lfSend h p (.coils true l) ∧ p16 p 0 ≤ 0xFFF ∧ 1 ≤ p8 p 2 ∧ p8 p 2 ≤ 32 ∧ s.lfGap = true ∧ s.lf.known = true ∧ s.lf.sendMask (p16 p 0) &&& coilMask (fun n => !s.lf.isHot n) ≠ 0 ∧ s.dutyOk (s.lf.us ((36 + 8 * p8 p 2) * 16)) = true) ∧
    (∃ (s : State) (h : Hdr) (p : Octets) (l : List CoilMeas), s.Ready .lfSend h p (.coils true l) ∧ p16 p 0 ≤ 0xFFF ∧ 1 ≤ p8 p 2 ∧ p8 p 2 ≤ 32 ∧ s.lfGap = true ∧ s.lf.known = true ∧ s.lf.sendMask (p16 p 0) &&& coilMask (fun n => !s.lf.isHot n) ≠ 0 ∧ s.dutyOk (s.lf.us ((36 + 8 * p8 p 2) * 16)) = true) ∧
    (∃ (s : State) (h : Hdr) (p : Octets), s.Ready .lfPollStart h p .none ∧ p8 p 0 ≤ 1 ∧ p8 p 1 = 0 ∧ s.lf.pollRefused = false ∧ s.lf.unit = .off) ∧
    (∃ (s : State) (h : Hdr) (p : Octets), s.Ready .lfPollStart h p .none ∧ p8 p 0 ≤ 1 ∧ p8 p 1 = 0 ∧ s.lf.pollRefused = false ∧ s.lf.unit = .off) ∧
    (∃ (s : State) (h : Hdr) (p : Octets), s.Ready .lfPollStart h p .none ∧ p8 p 0 ≤ 1 ∧ p8 p 1 = 1 ∧ s.lf.pollRefused = false ∧ s.lf.unit = .on) ∧
    (∃ (s : State) (h : Hdr) (p : Octets), s.Ready .lfPollStop h p .none ∧ s.lf.unit = .on) ∧
    (∃ (s : State) (h : Hdr) (p : Octets), s.Ready .lfPollStop h p .none ∧ s.lf.unit = .off) ∧
    (∃ (s : State) (h : Hdr) (p : Octets), s.Ready .lfFieldMapLoad h p .none ∧ 1 ≤ p8 p 0 ∧ p8 p 0 ≤ 8 ∧ (∀ z ∈ zonesOf (p.drop 1) (p8 p 0), ∀ i < 12, p8 z.lo i ≤ p8 z.hi i)) ∧
    (∃ (s : State) (h : Hdr) (p : Octets), s.Ready .lfFieldMapLoad h p .none ∧ 1 ≤ p8 p 0 ∧ p8 p 0 ≤ 8 ∧ (∀ z ∈ zonesOf (p.drop 1) (p8 p 0), ∀ i < 12, p8 z.lo i ≤ p8 z.hi i)) :=
  ⟨⟨coil0, h0, [1, 0], 0, meas0, by decide, by decide, by decide, by decide, by decide, by decide, by decide⟩,
   ⟨coil0, h0, [1, 0], 0, meas0, by decide, by decide, by decide, by decide, by decide, by decide⟩,
   ⟨coil0, h0, [1, 0, 1], 0, meas0, by decide, by decide, by decide, by decide, by decide, by decide, by decide, by decide⟩,
   ⟨coil0, h0, [255, 15, 0], by decide, by decide, by decide⟩,
   ⟨planned, h0, [1, 0, 1, 7], [meas0], by decide, by decide, by decide, by decide, by decide, by decide +kernel, by decide, by decide⟩,
   ⟨planned, h0, [1, 0, 32] ++ List.replicate 32 7, [meas0], by decide, by decide, by decide, by decide, by decide, by decide +kernel, by decide, by decide⟩,
   ⟨lfOffU, h0, [0, 0], by decide, by decide, by decide, by decide, by decide⟩,
   ⟨lfOffU, h0, [1, 0], by decide, by decide, by decide, by decide, by decide⟩,
   ⟨lfOnU, h0, [1, 1], by decide, by decide, by decide, by decide, by decide⟩,
   ⟨lfOnU, h0, [], by decide, by decide⟩,
   ⟨lfOffU, h0, [], by decide, by decide⟩,
   ⟨up .service, h0, 1 :: (List.replicate 8 1 ++ List.replicate 24 3), by decide, by decide, by decide, by decide⟩,
   ⟨up .service, h0, 8 :: (List.replicate 8 (List.replicate 8 1 ++ List.replicate 12 0 ++ List.replicate 12 255)).flatten, by decide, by decide, by decide, by decide⟩⟩

def planOctets (n dev : Nat) : Octets := [0, 3] ++ leOf 2 dev ++ o8 3 ++ o8 n ++ [0, 0] ++ leOf 4 433920000 ++ List.replicate 28 0
def uhfLimited : State := { up .service with nvm := { (up .service).nvm with regUhf := (put 0 17 32000 ||| put 17 17 33000 ||| flag 34 true) :: List.replicate 7 0 } }
def uhfPlanned : State := (up .service).modUhf (fun u => { u with plan := some (planOf (planOctets 2 200)), unit := .off })
def uhfOn : State := uhfPlanned.modUhf (fun u => { u with unit := .on })
def captArm (len : Nat) : Octets := [0, 0, 1, 2] ++ leOf 2 len ++ [0, 0, 0, 0, 0, 0]
def captured : State := uhfOn.modUhf (fun u => { u with capt := { u.capt with state := 3, samples := 2, data := [1, 2, 3, 4] } })
def captGet (len : Nat) : Octets := [1, 0, 0, 0, 0, 0] ++ leOf 4 3 ++ leOf 2 len

theorem test_meets_UhfCommands :
    (∃ (s : State) (h : Hdr) (p : Octets), s.Ready .uhfChannelPlan h p .none ∧ planReserved p = false ∧ (planOf p).bad = false ∧ s.planAllowed (planOf p) = true) ∧
    (∃ (s : State) (h : Hdr) (p : Octets), s.Ready .uhfChannelPlan h p .none ∧ (planReserved p = true ∨ (planOf p).bad = true)) ∧
    (∃ (s : State) (h : Hdr) (p : Octets), s.Ready .uhfChannelPlan h p .none ∧ planReserved p = false ∧ (planOf p).bad = false ∧ s.planAllowed (planOf p) = false) ∧
    (∃ (s : State) (h : Hdr) (p : Octets), s.Ready .uhfEnable h p .none ∧ s.uhf.plan.isSome = true ∧ s.uhf.unit = .off) ∧
    (∃ (s : State) (h : Hdr) (p : Octets), s.Ready .uhfEnable h p .none ∧ s.uhf.plan = none) ∧
    (∃ (s : State) (h : Hdr) (p : Octets), s.Ready .uhfDisable h p .none ∧ s.uhf.unit = .on) ∧
    (∃ (s : State) (h : Hdr) (p : Octets) (temp : Int), s.Ready .uhfCalibrate h p (.cal true temp) ∧ s.uhf.unit = .on ∧ s.fullRound = false) ∧
    (∃ (s : State) (h : Hdr) (p : Octets) (temp : Int), s.Ready .uhfVigilConfig h p (.cal true temp) ∧ s.vigilRefusal p = none ∧ (s.lf.round = none ∨ s.fullRound = true)) ∧
    (∃ (s : State) (h : Hdr) (p : Octets), s.Ready .uhfCapture h p .none ∧ s.uhf.unit = .on ∧ p8 p 0 = 0 ∧ p8 p 1 = 0 ∧ p8 p 3 ≤ 2 ∧ p16 p 4 ≠ 0 ∧ p16 p 4 % 16 = 0 ∧ p16 p 4 ≤ 16384) ∧
    (∃ (s : State) (h : Hdr) (p : Octets), s.Ready .uhfCapture h p .none ∧ s.uhf.unit = .on ∧ p8 p 0 = 0 ∧ p8 p 1 = 0 ∧ p8 p 3 ≤ 2 ∧ p16 p 4 ≠ 0 ∧ p16 p 4 % 16 = 0 ∧ p16 p 4 ≤ 16384) ∧
    (∃ (s : State) (h : Hdr) (p : Octets), s.Ready .uhfCapture h p .none ∧ s.uhf.unit = .on ∧ p8 p 0 = 1 ∧ s.uhf.capt.state = 3 ∧ 1 ≤ p16 p 10 ∧ p16 p 10 ≤ 1000) ∧
    (∃ (s : State) (h : Hdr) (p : Octets), s.Ready .uhfCapture h p .none ∧ s.uhf.unit = .on ∧ p8 p 0 = 1 ∧ s.uhf.capt.state = 3 ∧ 1 ≤ p16 p 10 ∧ p16 p 10 ≤ 1000) :=
  ⟨⟨up .service, h0, planOctets 2 200, by decide, by decide, by decide, by decide⟩,
   ⟨up .service, h0, planOctets 0 200, by decide, by decide⟩,
   ⟨uhfLimited, h0, planOctets 2 200, by decide, by decide, by decide, by decide⟩,
   ⟨uhfPlanned, h0, [], by decide, by decide, by decide⟩,
   ⟨up .service, h0, [], by decide, by decide⟩,
   ⟨uhfOn, h0, [], by decide, by decide⟩,
   ⟨uhfOn, h0, [], 25, by decide, by decide, by decide⟩,
   ⟨up .service, h0, leOf 4 433920000 ++ [30, 1], 9, by decide, by decide, by decide⟩,
   ⟨uhfOn, h0, captArm 16, by decide, by decide, by decide, by decide, by decide, by decide, by decide, by decide⟩,
   ⟨uhfOn, h0, captArm 16384, by decide, by decide, by decide, by decide, by decide, by decide, by decide, by decide⟩,
   ⟨captured, h0, captGet 1, by decide, by decide, by decide, by decide, by decide, by decide⟩,
   ⟨captured, h0, captGet 1000, by decide, by decide, by decide, by decide, by decide, by decide⟩⟩

def uhfPl : Plan := planOf (planOctets 32 200)
def uhfReady : State := (up .service).modUhf (fun u => { u with plan := some uhfPl, unit := .on })
/-- The UHF tract ON, 4,000 s after reset. -/
def uhfLater : State := { uhfReady with aon := { uhfReady.aon with tick := 4000 * 32768 } }
def fullR : PloughRound := { uhfLater.newRound true 0 0 with listening := true }
def uhfInRound : State := uhfLater.modLf (fun l => { l with round := some fullR })
def planNextS : State := (up .service).modUhf (fun u => { u with planNext := some uhfPl })
def captWaits : State := uhfReady.modUhf (fun u => { u with capt := { u.capt with state := 2, kind := 0, length := 16 } })
def lateS : State := uhfReady.modUhf (fun u => { u with collected := some 5 })
def coexWord : Word := put 0 2 1 ||| put 2 1 1 ||| put 3 3 7 ||| put 6 10 1000
def coexNextS : State := uhfReady.modUhf (fun u => { u with coex := u.coex.set 1 { u.coex[(1 : Fin 2)] with next := some coexWord } })
def coexS : State := uhfReady.modUhf (fun u => { u with coex := u.coex.set 1 { u.coex[(1 : Fin 2)] with cfg := coexWord } })
def coexInRound : State := coexS.modLf (fun l => { l with round := some { coexS.newRound true 0 0 with listening := true } })
def loopGood : LoopCheck := { sampler := true, est := [] }
def calGood : UwbCal := { ok := true, temp := 30, loop := loopGood }

theorem test_meets_UhfAndCoexistenceEvents :
    (∃ (s : State) (pl : Plan), s.Calm ∧ s.uhf.planNext = some pl ∧ s.fullRound = false) ∧
    (∃ (s : State), s.Calm ∧ s.uhf.unit = .on ∧ fld s.uhf.calCfg 0 12 * 32768 ≤ s.age s.uhf.calAt ∧ s.fullRound = false) ∧
    (∃ (s : State), s.Calm ∧ s.uhf.unit = .on ∧ fld s.uhf.calCfg 0 12 * 32768 ≤ s.age s.uhf.calAt ∧ s.fullRound = true) ∧
    (∃ (s : State), s.Calm ∧ s.uhf.unit = .on ∧ fld s.uhf.calCfg 0 12 * 32768 ≤ s.age s.uhf.calAt ∧ s.fullRound = false) ∧
    (∃ (s : State) (temp : Int), s.Calm ∧ s.uhf.unit = .on ∧ s.fullRound = false ∧ s.uhf.calDt ≤ (temp - s.uhf.calTemp).natAbs ∧ bit s.uhf.vigil 35 = false ∧ s.uwb.radio = 0) ∧
    (∃ (s : State), s.Calm ∧ s.uhf.capt.state = 2 ∧ s.uhf.capt.kind = 0) ∧
    (∃ (s : State) (lane : Fin 64) (n : BitVec 16), s.Calm ∧ s.uhf.collected = some n ∧ s.uhf.unit ≠ .off ∧ s.lf.round = none ∧ lane.val < s.uhf.lanesUp ∧ s.uhf.late.length < 16) ∧
    (∃ (s : State) (lane : Fin 64) (n : BitVec 16), s.Calm ∧ s.uhf.collected = some n ∧ s.uhf.unit ≠ .off ∧ s.lf.round = none ∧ lane.val < s.uhf.lanesUp ∧ s.uhf.late.length < 16) ∧
    (∃ (s : State), s.Calm ∧ s.uhf.unit = .on ∧ s.lf.round = none) ∧
    (∃ (s : State) (strip : Fin 8) (r : PloughRound) (lane : Fin 64), s.Calm ∧ s.uhf.unit = .on ∧ s.lf.round = some r ∧ r.full = true ∧ r.listening = true ∧ lane.val / 8 = strip.val ∧ lane.val < s.uhf.lanesUp ∧ r.lost.getLsbD lane.val = false) ∧
    (∃ (s : State) (strip : Fin 8) (r : PloughRound) (lane : Fin 64), s.Calm ∧ s.uhf.unit = .on ∧ s.lf.round = some r ∧ r.full = true ∧ r.listening = true ∧ lane.val / 8 = strip.val ∧ lane.val < s.uhf.lanesUp ∧ r.lost.getLsbD lane.val = false) ∧
    (∃ (s : State) (h : Hdr) (p : Octets) (k : Fin 2), s.Ready .radioCoexConfig h p .none ∧ p8 p 0 = k.val ∧ p8 p 1 ≤ 2 ∧ p8 p 2 ≤ 1 ∧ p8 p 3 ≤ 7 ∧ p16 p 4 ≤ 1000 ∧ s.lf.round = none ∧ s.uwb.round = none) ∧
    (∃ (s : State) (h : Hdr) (p : Octets) (k : Fin 2), s.Ready .radioCoexConfig h p .none ∧ p8 p 0 = k.val ∧ p8 p 1 ≤ 2 ∧ p8 p 2 ≤ 1 ∧ p8 p 3 ≤ 7 ∧ p16 p 4 ≤ 1000 ∧ s.lf.round = none ∧ s.uwb.round = none) ∧
    (∃ (s : State) (k : Fin 2) (w : Word), s.Calm ∧ (s.uhf.coex[k]).next = some w ∧ s.lf.round = none ∧ s.uwb.round = none) ∧
    (∃ (s : State) (k : Fin 2), s.Calm ∧ (s.uhf.coex[k]).grants (s.uhf.coex[k]).tract = true ∧ (s.uhf.coex[k]).tract ≠ 0 ∧ s.coexInside (s.uhf.coex[k]).tract = false) ∧
    (∃ (s : State) (k : Fin 2), s.Calm ∧ (s.uhf.coex[k]).grants 1 = true ∧ s.coexInside 1 = true) ∧
    (∃ (s : State) (k : Fin 2), s.Calm ∧ (s.uhf.coex[k]).grants 1 = true) ∧
    (∃ (s : State), s.Calm) :=
  ⟨⟨planNextS, uhfPl, by decide, by first | rfl | decide, by decide⟩,
   ⟨uhfLater, by decide, by decide, by decide, by decide⟩,
   ⟨uhfInRound, by decide, by decide, by decide, by decide⟩,
   ⟨uhfLater, by decide, by decide, by decide, by decide⟩,
   ⟨uhfLater, 127, by decide, by decide, by decide, by decide, by decide, by decide⟩,
   ⟨captWaits, by decide, by decide, by decide⟩,
   ⟨lateS, 0, 5, by decide, by first | rfl | decide, by decide, by decide, by decide, by decide⟩,
   ⟨lateS, 31, 5, by decide, by first | rfl | decide, by decide, by decide, by decide, by decide⟩,
   ⟨uhfReady, by decide, by decide, by decide⟩,
   ⟨uhfInRound, 0, fullR, 7, by decide, by decide, by first | rfl | decide, by decide, by decide, by decide, by decide, by decide⟩,
   ⟨uhfInRound, 3, fullR, 31, by decide, by decide, by first | rfl | decide, by decide, by decide, by decide, by decide, by decide⟩,
   ⟨up .service, h0, [0, 0, 0, 0, 0, 0], 0, by decide, by decide, by decide, by decide, by decide, by decide, by decide, by decide⟩,
   ⟨up .service, h0, [1, 2, 1, 7, 0xE8, 3], 1, by decide, by decide, by decide, by decide, by decide, by decide, by decide, by decide⟩,
   ⟨coexNextS, 1, coexWord, by decide, by decide, by decide, by decide⟩,
   ⟨coexS, 1, by decide, by decide, by decide, by decide⟩,
   ⟨coexInRound, 1, by decide, by decide, by decide⟩,
   ⟨coexInRound, 1, by decide, by decide⟩,
   ⟨coexInRound, by decide⟩⟩

def phoneId : Word := 0x11
def phone : Member := { id := phoneId, cls := 4, status := 1, epoch := 0, zpol := 0, ctr := 0, standing := 0, until_ := 0 }
def sessKey : Octets := List.replicate 16 3
def sessSlot (u : Nat) : Slot := { Slot.blank with usage := u, st := .written, gen := 1, key := sessKey, kcv := kcvOf sessKey }
/-- A phone in the roster, its two session keys, and the radio calibrated and running. -/
def uwbUp : State := let s := (up .service).putMember 7 phone
  { s with cph := { s.cph with slots := (s.cph.slots.set 20 (sessSlot 1)).set 21 (sessSlot 3) }, uwb := { s.uwb with radio := 4, calValid := true }, pwr := { s.pwr with xoOk := true } }
def openOctets (role : Nat) : Octets := [0] ++ leOf 5 0x11 ++ o8 role ++ [1, 9, 9] ++ leOf 2 64 ++ [1, 1] ++ leOf 2 64 ++ [20, 21] ++ leOf 16 5 ++ leOf 2 1 ++ leOf 2 2 ++ leOf 2 3 ++ [8] ++ leOf 2 100 ++ leOf 4 5000 ++ leOf 2 0 ++ leOf 2 200 ++ [0, 0, 0] ++ [0, 0]
def sess (role : Nat) : Session := { sessionOf (openOctets role) with anchor := 5000 }
def uwbOpened (role : Nat) : State := uwbUp.modSess 0 (fun _ => sess role)
/-- A ranging round of session 0 that has begun to range, with RANGE under way. -/
def rr0 (role : Nat) : RangeRound := { (sess role).newRound 0 false 0 sessKey with ran := true }
def ranging (role : Nat) (r : RangeRound) : State := ((uwbOpened role).modUwb (fun u => { u with round := some r })).modSeq 1
  (fun q => { q with inRound := true, pc := 0, stall := .element 0 })
def uwbWord : Word := put 2 8 10 ||| put 10 12 5 ||| put 22 6 2
def timed0 : Timed := { a := 0, b := 4, ta := 5000000, tb := 5000003, q := 90, inside := true, angle := 0, angleOk := true, cirs := [[1, 2], [3, 4]] }
def cirS : State := (up .service).modUwb (fun u => { u with cir := some [timed0] })
def waitsCfg : State := let s := uwbUp.modUwb (fun u => { u with cfgNext := some uwbWord })
  { s with aon := { s.aon with tick := 4000 * 32768 } }

theorem test_meets_UwbCommands :
    (∃ (s : State) (h : Hdr) (p : Octets), s.Ready .uwbConfig h p .none ∧ uwbCfgBad (pW p 0) = false ∧ s.uwb.round = none) ∧
    (∃ (s : State) (h : Hdr) (p : Octets), s.Ready .uwbConfig h p .none ∧ uwbCfgBad (pW p 0) = false ∧ s.uwb.round.isSome = true) ∧
    (∃ (s : State) (h : Hdr) (p : Octets) (n : Fin 8) (o : Obs) (pos : Nat) (ws : List Word), s.Ready .uwbSessionOpen h p o ∧ badSession p = false ∧ p8 p 0 = n.val ∧ (s.sess n).isOpen = false ∧ s.RosterAt (pW p 1) pos ws ∧ fld (ws.getD 1 0) 0 3 = 4 ∧ s.openRefusal (sessionOf p) = none ∧ s.uwb.radio ≠ 0) ∧
    (∃ (s : State) (h : Hdr) (p : Octets) (n : Fin 8), s.Ready .uwbSessionClose h p .none ∧ p8 p 0 = n.val ∧ (s.sess n).isOpen = true ∧ s.rangingOn n = false) ∧
    (∃ (s : State) (h : Hdr) (p : Octets) (n : Fin 8), s.Ready .uwbSessionClose h p .none ∧ p8 p 0 = n.val ∧ (s.sess n).isOpen = true ∧ s.rangingOn n = true) ∧
    (∃ (s : State) (h : Hdr) (p : Octets) (n : Fin 8), s.Ready .uwbRangeNow h p .none ∧ p8 p 0 = n.val ∧ (s.sess n).isOpen = true ∧ (s.sess n).role = 0) ∧
    (∃ (s : State) (h : Hdr) (p : Octets) (l : List Timed) (a : Timed), s.Ready .uwbCirRead h p .none ∧ p8 p 0 ≤ 1 ∧ p8 p 1 ≤ 1 ∧ p8 p 2 ≤ 1 ∧ 1 ≤ p16 p 5 ∧ p16 p 5 ≤ 1000 ∧ s.uwb.cir = some l ∧ l[p8 p 0]? = some a) ∧
    (∃ (s : State) (h : Hdr) (p : Octets) (l : List Timed) (a : Timed), s.Ready .uwbCirRead h p .none ∧ p8 p 0 ≤ 1 ∧ p8 p 1 ≤ 1 ∧ p8 p 2 ≤ 1 ∧ 1 ≤ p16 p 5 ∧ p16 p 5 ≤ 1000 ∧ s.uwb.cir = some l ∧ l[p8 p 0]? = some a) ∧
    (∃ (s : State) (h : Hdr) (p : Octets) (c : UwbCal), s.Ready .uwbCalibrate h p (.uwbCal true c) ∧ s.uwb.round = none ∧ c.ok = true ∧ c.loop.sampler = true ∧ loopBad c.loop = 0) ∧
    (∃ (s : State) (h : Hdr) (p : Octets), s.Ready .uwbRadioState h p .none ∧ p8 p 0 ≤ 2 ∧ p8 p 1 = 0 ∧ s.uwb.cfgNext = none) ∧
    (∃ (s : State) (h : Hdr) (p : Octets), s.Ready .uwbRadioState h p .none ∧ p8 p 0 ≤ 2 ∧ p8 p 1 = 0 ∧ s.uwb.cfgNext = none) ∧
    (∃ (s : State) (h : Hdr) (p : Octets), s.Ready .uwbRadioState h p .none ∧ p8 p 0 = 255 ∧ p8 p 1 = 1 ∧ s.uwb.openMask = 0 ∧ s.uwb.round = none) :=
  ⟨⟨up .service, h0, wordOctets uwbWord, by decide, by decide, by decide⟩,
   ⟨ranging 0 (rr0 0), h0, wordOctets uwbWord, by decide, by decide, by decide⟩,
   ⟨uwbUp, h0, openOctets 0, 0, .none, 7, phone.words, by decide, by decide, by decide, by decide, by decide, by decide, by decide, by decide⟩,
   ⟨uwbOpened 0, h0, [0], 0, by decide, by decide, by decide, by decide⟩,
   ⟨ranging 0 (rr0 0), h0, [0], 0, by decide, by decide, by decide, by decide⟩,
   ⟨uwbOpened 0, h0, [0], 0, by decide, by decide, by decide, by decide⟩,
   ⟨cirS, h0, [0, 0, 1] ++ leOf 2 3 ++ leOf 2 1, [timed0], timed0, by decide, by decide, by decide, by decide, by decide, by decide, by first | rfl | decide, by decide⟩,
   ⟨cirS, h0, [0, 1, 1] ++ leOf 2 0 ++ leOf 2 1000, [timed0], timed0, by decide, by decide, by decide, by decide, by decide, by decide, by first | rfl | decide, by decide⟩,
   ⟨up .service, h0, [], calGood, by decide, by decide, by decide, by decide, by decide⟩,
   ⟨uwbUp, h0, [0, 0], by decide, by decide, by decide, by decide⟩,
   ⟨uwbUp, h0, [2, 0], by decide, by decide, by decide, by decide⟩,
   ⟨uwbUp, h0, [255, 1], by decide, by decide, by decide, by decide, by decide⟩⟩

theorem test_meets_UwbEvents :
    (∃ (s : State) (v : Word), s.Calm ∧ s.uwb.round = none ∧ s.uwb.cfgNext = some v ∧ s.uwb.calNext = []) ∧
    (∃ (s : State) (c : UwbCal), s.Calm ∧ s.uwb.radio ≠ 0 ∧ fld s.uwb.cfg 10 12 * 32768 ≤ s.age s.uwb.calAt ∧ s.uwb.round = none ∧ c.ok = true ∧ c.loop.sampler = true ∧ loopBad c.loop = 0) ∧
    (∃ (s : State), s.Calm ∧ s.uwb.radio ≠ 0 ∧ fld s.uwb.cfg 10 12 * 32768 ≤ s.age s.uwb.calAt ∧ s.uwb.round.isSome = true) ∧
    (∃ (s : State), s.Calm ∧ s.uwb.openMask = 0 ∧ s.uwb.round = none) ∧
    (∃ (s : State), s.Calm ∧ s.uwb.radio = 2 ∧ s.uwb.round = none) :=
  ⟨⟨waitsCfg, uwbWord, by decide, by decide, by first | rfl | decide, by decide⟩,
   ⟨waitsCfg, calGood, by decide, by decide, by decide, by decide, by decide, by decide, by decide⟩,
   ⟨{ ranging 0 (rr0 0) with aon := { (ranging 0 (rr0 0)).aon with tick := 4000 * 32768 } }, by decide, by decide, by decide, by decide⟩,
   ⟨uwbUp, by decide, by decide, by decide⟩,
   ⟨uwbUp.modUwb (fun u => { u with radio := 2 }), by decide, by decide, by decide⟩⟩

def arrival (msg : Nat) : Arrival := { ta := 5000000, tb := 5000003, q0 := 90, q1 := 90, inside := true, eps := 100, dphi := 3, clean := true, fault := false, msg := msg, ours := true, cirs := [[(1, 2)], [(1, 2)]], loop := loopGood }
/-- Rounds that wait for RESPONSE, for FINAL, for POLL and for REPORT. -/
def rrResponse : RangeRound := { rr0 0 with pollTx := some 5000 }
def rrFinal : RangeRound := { rr0 1 with pollRx := some timed0, respTx := some 6000 }
def rrReport : RangeRound := { rr0 0 with pollTx := some 5000, respRx := some timed0, finalTx := some 9000 }
def reportHead : Octets := [4] ++ leOf 4 0 ++ leOf 5 100 ++ leOf 5 100 ++ [3]
def reportOctets : Octets := reportHead ++ leOf 8 (cmac64 sessKey reportHead).toNat

theorem test_meets_RangingRoundGoesThroughItsSlots :
    (∃ (s : State) (n : Fin 8) (c : LoopCheck) (key : Octets), s.Calm ∧ s.working = true ∧ (s.sess n).isOpen = true ∧ s.uwb.round = none ∧ s.seqReady 1 = true ∧ s.pwr.xoOk = true ∧ s.uwb.calValid = true ∧ s.uwb.disabled = false ∧ s.latchSession (s.sess n) = .ok key ∧ (s.sess n).v.toNat % 2 ^ 32 + (s.sess n).stsBlocks < 2 ^ 32 ∧ c.sampler = true ∧ loopBad c = 0 ∧ noPair s.uwb.failed = false ∧ (s.sq 1).image.entry0 < (s.sq 1).image.code.length) ∧
    (∃ (s : State) (r : RangeRound) (g : Nat), s.Calm ∧ s.uwb.round = some r ∧ r.ran = true ∧ r.isOver = false ∧ r.next (s.sess r.session) = .txPoll ∧ s.txRefusal r (s.sess r.session) false true = none ∧ r.grid = some g) ∧
    (∃ (s : State) (r : RangeRound) (a : Arrival) (k : Nat), s.Calm ∧ s.uwb.round = some r ∧ r.ran = true ∧ r.isOver = false ∧ r.next (s.sess r.session) = .rxPoll ∧ a.ours = true ∧ ((s.sess r.session).stsCfg = 3 ∨ a.msg = 1) ∧ a.clean = true ∧ a.fault = false ∧ s.quarantined = false ∧ r.blanked = false ∧ pairOf s.uwb.failed (r.index + r.timed.length) = some k) ∧
    (∃ (s : State) (r : RangeRound) (a : Arrival) (k : Nat), s.Calm ∧ s.uwb.round = some r ∧ r.ran = true ∧ r.isOver = false ∧ a.ours = true ∧ a.clean = true ∧ a.fault = false ∧ s.quarantined = false ∧ r.blanked = false ∧ s.uwb.disabled = false ∧ pairOf s.uwb.failed (r.index + r.timed.length) = some k ∧ a.loop.sampler = true ∧ loopBad a.loop &&& ~~~s.uwb.failed = 0) ∧
    (∃ (s : State) (r : RangeRound) (a : Arrival) (k : Nat), s.Calm ∧ s.uwb.round = some r ∧ r.ran = true ∧ r.isOver = false ∧ a.ours = true ∧ a.clean = true ∧ a.fault = false ∧ s.quarantined = false ∧ r.blanked = false ∧ s.uwb.disabled = false ∧ pairOf s.uwb.failed (r.index + r.timed.length) = some k ∧ a.loop.sampler = true ∧ loopBad a.loop &&& ~~~s.uwb.failed = 0) ∧
    (∃ (s : State) (r : RangeRound) (os : Octets) (ra : Fin 8), s.Calm ∧ s.uwb.round = some r ∧ r.ran = true ∧ r.isOver = false ∧ r.next (s.sess r.session) = .rxReport ∧ s.quarantined = false ∧ (s.sq 1).stall = .element ra ∧ (s.sq 1).pc + 1 < (s.sq 1).image.code.length ∧ os.length = 24 ∧ p8 os 0 = 4 ∧ (cmac64 r.macKey (os.take 16)).toNat = p64 os 16 ∧ p32 os 1 = r.index ∧ p8 os 15 = 3) ∧
    (∃ (s : State) (r : RangeRound) (ra : Fin 8), s.Calm ∧ s.uwb.round = some r ∧ r.ran = true ∧ r.isOver = false ∧ r.fail = none ∧ (s.sq 1).stall = .element ra ∧ (s.sq 1).pc + 1 < (s.sq 1).image.code.length ∧ (r.next (s.sess r.session) = .rxResponse ∨ r.next (s.sess r.session) = .rxFinal ∨ r.next (s.sess r.session) = .rxReport)) ∧
    (∃ (s : State) (r : RangeRound) (ra : Fin 8), s.Calm ∧ s.uwb.round = some r ∧ r.ran = true ∧ r.isOver = false ∧ r.fail = none ∧ (s.sq 1).stall = .element ra ∧ (s.sq 1).pc + 1 < (s.sq 1).image.code.length ∧ (r.next (s.sess r.session) = .rxResponse ∨ r.next (s.sess r.session) = .rxFinal ∨ r.next (s.sess r.session) = .rxReport)) ∧
    (∃ (s : State) (r : RangeRound) (ra : Fin 8), s.Calm ∧ s.uwb.round = some r ∧ r.ran = true ∧ r.isOver = false ∧ r.fail = none ∧ (s.sq 1).stall = .element ra ∧ (s.sq 1).pc + 1 < (s.sq 1).image.code.length ∧ (r.next (s.sess r.session) = .rxResponse ∨ r.next (s.sess r.session) = .rxFinal ∨ r.next (s.sess r.session) = .rxReport)) :=
  ⟨⟨uwbOpened 0, 0, loopGood, sessKey, by decide, by decide, by decide, by decide, by decide, by decide, by decide, by decide, by first | rfl | decide, by decide, by decide, by decide, by decide, by decide⟩,
   ⟨ranging 0 (rr0 0), rr0 0, 5000, by decide, by first | rfl | decide, by decide, by decide, by decide, by decide, by decide⟩,
   ⟨ranging 1 (rr0 1), rr0 1, arrival 1, 0, by decide, by first | rfl | decide, by decide, by decide, by decide, by decide, by decide, by decide, by decide, by decide, by decide, by decide⟩,
   ⟨ranging 0 rrResponse, rrResponse, arrival 2, 0, by decide, by first | rfl | decide, by decide, by decide, by decide, by decide, by decide, by decide, by decide, by decide, by decide, by decide, by decide⟩,
   ⟨ranging 1 rrFinal, rrFinal, arrival 3, 1, by decide, by first | rfl | decide, by decide, by decide, by decide, by decide, by decide, by decide, by decide, by decide, by decide, by decide, by decide⟩,
   ⟨ranging 0 rrReport, rrReport, reportOctets, 0, by decide, by first | rfl | decide, by decide, by decide, by decide, by decide, by decide, by decide, by decide, by decide, by decide +kernel, by decide, by decide⟩,
   ⟨ranging 0 rrResponse, rrResponse, 0, by decide, by first | rfl | decide, by decide, by decide, by decide, by decide, by decide, by decide⟩,
   ⟨ranging 1 rrFinal, rrFinal, 0, by decide, by first | rfl | decide, by decide, by decide, by decide, by decide, by decide, by decide⟩,
   ⟨ranging 0 rrReport, rrReport, 0, by decide, by first | rfl | decide, by decide, by decide, by decide, by decide, by decide, by decide⟩⟩

def fob : Member := { id := 0x11, cls := 4, status := 1, epoch := 0, zpol := 0, ctr := 5, standing := 0, until_ := 100 }
def fobOld : Member := { fob with ctr := 9 }
def rows (ws : List Word) : Octets := [1] ++ (ws.map wordOctets).flatten
/-- A roster with one member, at its last position. -/
def rostered : State := (up .service).putMember 16383 fobOld
def fobRow : List Word := fobOld.words
def rosterWords (k i : Nat) : Word := if k = 1 then fobRow.getD i 0 else 0
def foldDue : State := (up .service).modCrd (fun c => { c with foldDay := 5 })

theorem test_meets_RosterIsKept :
    (∃ (s : State) (h : Hdr) (p : Octets) (o : Obs), s.Ready .crdRosterWrite h p o ∧ s.mem.Sound ∧ p8 p 0 = 1 ∧ (let ws := wordsOf (p.drop 1) 4; badRow s.epoch ws = false ∧ fld (ws.getD 1 0) 3 2 = 1 ∧ s.crd.pos? (ws.getD 0 0) = none ∧ keysRise s.crd.index = true) ∧ (∃ k < 16384, k ∉ s.crd.index.map (·.2)) ∧ s.crd.index.length < 16384 ∧ o ≠ .indexFull) ∧
    (∃ (s : State) (h : Hdr) (p : Octets) (pos : Nat) (old : List Word), s.Ready .crdRosterWrite h p .none ∧ s.mem.Sound ∧ p8 p 0 = 1 ∧ (let ws := wordsOf (p.drop 1) 4; badRow s.epoch ws = false ∧ fld (ws.getD 1 0) 3 2 = 1 ∧ fld (old.getD 1 0) 8 24 = fld (ws.getD 1 0) 8 24) ∧ pos < 16384 ∧ s.RosterAt (pW p 1) pos old ∧ keysRise s.crd.index = true ∧ s.lf.round = none ∧ s.crd.index.length ≤ 16320) ∧
    (∃ (s : State) (h : Hdr) (p : Octets) (pos : Nat), s.Ready .crdRosterWrite h p .none ∧ p8 p 0 = 1 ∧ reservedId (pW p 1) = false ∧ fld (pW p 6) 3 2 = 0 ∧ keysRise s.crd.index = true ∧ s.crd.pos? (pW p 1) = some pos ∧ s.crd.index.length ≤ 16320) ∧
    (∃ (s : State) (h : Hdr) (p : Octets) (pos : Nat) (ws : List Word), s.Ready .crdRosterRead h p .none ∧ p8 p 0 = 0 ∧ s.RosterAt (pW p 1) pos ws) ∧
    (∃ (s : State) (h : Hdr) (p : Octets), s.Ready .crdRosterRead h p .none ∧ p8 p 0 = 0 ∧ s.crd.pos? (pW p 1) = none) ∧
    (∃ (s : State) (h : Hdr) (p : Octets) (w : Nat → Nat → Word), s.Ready .crdRosterRead h p .none ∧ p8 p 0 = 1 ∧ 1 ≤ p8 p 8 ∧ p8 p 8 ≤ 48 ∧ p16 p 6 + p8 p 8 ≤ 16384 ∧ (∀ k < p8 p 8, ∀ i < 4, decode47 (s.mem.stored (rosterAddr (p16 p 6 + k) i)) = .good (w k i))) ∧
    (∃ (s : State) (h : Hdr) (p : Octets) (w : Nat → Nat → Word), s.Ready .crdRosterRead h p .none ∧ p8 p 0 = 1 ∧ 1 ≤ p8 p 8 ∧ p8 p 8 ≤ 48 ∧ p16 p 6 + p8 p 8 ≤ 16384 ∧ (∀ k < p8 p 8, ∀ i < 4, decode47 (s.mem.stored (rosterAddr (p16 p 6 + k) i)) = .good (w k i))) ∧
    (∃ (s : State) (h : Hdr) (p : Octets) (pos : Nat) (ws : List Word), s.Ready .crdRevoke h p .none ∧ s.mem.Sound ∧ p8 p 0 = 1 ∧ pos < 16384 ∧ s.RosterAt (pW p 1) pos ws ∧ s.crd.batAuth = none ∧ (s.crd.revoked + 1) % 256 ≠ 0) ∧
    (∃ (s : State) (h : Hdr) (p : Octets), s.Ready .crdRevoke h p .none ∧ p8 p 0 = 1 ∧ s.crd.pos? (pW p 1) = none) ∧
    (∃ (s : State) (h : Hdr) (p : Octets), s.Ready .crdEpochAdvance h p .none ∧ p24 p 0 = s.epoch ∧ s.nvm.epochPending = false ∧ s.epoch < 0xFFFE00 ∧ s.nvm.tallyFull 1 = false) ∧
    (∃ (s : State), s.Calm ∧ s.crd.compacting = true ∧ s.crd.index = []) ∧
    (∃ (s : State), s.Calm ∧ s.crd.ctrLog = [] ∧ s.calDay ≠ s.crd.foldDay) :=
  ⟨⟨up .service, h0, rows fob.words, .none, by decide, by decide, by decide, by decide, ⟨0, by decide, by decide⟩, by decide, by decide⟩,
   ⟨rostered, h0, rows fob.words, 16383, fobRow, by decide, by decide, by decide, by decide, by decide, by decide, by decide, by decide, by decide⟩,
   ⟨rostered, h0, rows ({ fob with status := 0 } : Member).words, 16383, by decide, by decide, by decide, by decide, by decide, by decide, by decide⟩,
   ⟨rostered, h0, [0] ++ leOf 5 0x11 ++ [0, 0, 0], 16383, fobRow, by decide, by decide, by decide⟩,
   ⟨up .service, h0, [0] ++ leOf 5 0x11 ++ [0, 0, 0], by decide, by decide, by decide⟩,
   ⟨rostered, h0, [1] ++ leOf 5 0 ++ leOf 2 16382 ++ [2], rosterWords, by decide, by decide, by decide, by decide, by decide, by decide⟩,
   ⟨up .service, h0, [1] ++ leOf 5 0 ++ leOf 2 0 ++ [48], fun _ _ => 0, by decide, by decide, by decide, by decide, by decide, by decide⟩,
   ⟨rostered, h0, [1] ++ leOf 5 0x11, 16383, fobRow, by decide, by decide, by decide, by decide, by decide, by decide, by decide⟩,
   ⟨up .service, h0, [1] ++ leOf 5 0x11, by decide, by decide, by decide⟩,
   ⟨up .service, h0, [0, 0, 0], by decide, by decide, by decide, by decide, by decide⟩,
   ⟨(up .service).modCrd (fun c => { c with compacting := true }), by decide, by decide, by decide⟩,
   ⟨foldDue, by decide, by decide, by decide⟩⟩

def key7 : Octets := List.replicate 16 7
def slot7 (u : Nat) : Slot := { Slot.blank with usage := u, st := .written, gen := 1, key := key7, kcv := kcvOf key7 }
/-- `s` with key 7 in slot `n`. -/
def withKey (n : Fin 256) (u : Nat) (s : State) : State := { s with cph := { s.cph with slots := s.cph.slots.set n (slot7 u) } }
def ticketS : State := (withKey 9 4 (up .service)).modCrd (fun c => { c with self := 0x11 })
def ticketHead : Octets := leOf 5 0x22 ++ leOf 4 7 ++ leOf 4 10 ++ leOf 4 11 ++ [2] ++ leOf 2 300 ++ leOf 3 0 ++ leOf 3 0 ++ leOf 5 0x11 ++ [0]
def ticket : Octets := ticketHead ++ (cmac key7 ticketHead).take 8
def lockS : State := (withKey 4 2 (up .service)).modCrd (fun c => { c with nonceLive := true, nonce := 77, fails := 3, level := 1, active := true, lockEnd := 99 })
def lockProof : Octets := (cmac key7 (leOf 8 77 ++ o8 0)).take 8
def zero8 : Octets := List.replicate 8 0
def resultS : State := (up .service).modCrd (fun c => { c with latest := [1, 2, 3, 4, 5] })

theorem test_meets_TicketsLockOutAndResults :
    (∃ (s : State) (h : Hdr) (p : Octets) (k : Octets), s.Ready .crdTicketLoad h p .none ∧ s.crd.self ≠ 0 ∧ s.latch 9 = .key k ∧ (cmac k (pRun p 0 32)).take 8 = pRun p 32 8 ∧ p24 p 20 = s.crd.domain ∧ p24 p 23 = s.epoch ∧ pW p 26 = s.crd.self ∧ p8 p 31 = 0 ∧ (p8 p 17 = 2 ∨ p8 p 17 = 3) ∧ p32 p 9 < p32 p 13 ∧ s.crd.serialHigh < p32 p 5 ∧ s.calSec < p32 p 13 ∧ (s.crd.tickets.filter (fun x => x.id ≠ pW p 0)).length < 32) ∧
    (∃ (s : State) (h : Hdr) (p : Octets) (k : Octets), s.Ready .crdTicketLoad h p .none ∧ s.crd.self ≠ 0 ∧ s.latch 9 = .key k ∧ (cmac k (pRun p 0 32)).take 8 ≠ pRun p 32 8) ∧
    (∃ (s : State) (h : Hdr) (p : Octets), s.Ready .crdLockoutStatus h p .none ∧ s.critSound [0, 1, 2, 3] = true ∧ s.crd.nonceLive = true) ∧
    (∃ (s : State) (h : Hdr) (p : Octets), s.Ready .crdLockoutStatus h p .none ∧ s.critSound [0, 1, 2, 3] = true ∧ s.crd.nonceLive = false ∧ s.drbgBlocked = none) ∧
    (∃ (s : State) (h : Hdr) (p : Octets) (k : Octets), s.Ready .crdLockoutClear h p .none ∧ s.critSound [0, 1, 2, 3] = true ∧ s.jrn.next + 4098 ≤ s.jrn.blockEnd ∧ (s.ctx h.ctx).roleTries.active s.aon.tick = false ∧ s.crd.nonceLive = true ∧ s.cph.katModes.getLsbD 0 = false ∧ s.latch (if (s.ctx h.ctx).role = .fleet then 1 else 4) = .key k ∧ (cmac k (leOf 8 s.crd.nonce.toNat ++ o8 h.ctx.val)).take 8 = pRun p 0 8) ∧
    (∃ (s : State) (h : Hdr) (p : Octets) (k : Octets), s.Ready .crdLockoutClear h p .none ∧ s.critSound [0, 1, 2, 3] = true ∧ (s.ctx h.ctx).roleTries.active s.aon.tick = false ∧ s.crd.nonceLive = true ∧ s.cph.katModes.getLsbD 0 = false ∧ s.latch (if (s.ctx h.ctx).role = .fleet then 1 else 4) = .key k ∧ (cmac k (leOf 8 s.crd.nonce.toNat ++ o8 h.ctx.val)).take 8 ≠ pRun p 0 8) ∧
    (∃ (s : State) (h : Hdr) (p : Octets), s.Ready .crdRoundResultRead h p .none ∧ p8 p 0 = 0 ∧ 1 ≤ p16 p 4 ∧ p16 p 4 ≤ 1000 ∧ s.crd.latest ≠ []) ∧
    (∃ (s : State) (h : Hdr) (p : Octets), s.Ready .crdRoundResultRead h p .none ∧ p8 p 0 = 0 ∧ 1 ≤ p16 p 4 ∧ p16 p 4 ≤ 1000 ∧ s.crd.latest ≠ []) ∧
    (∃ (s : State) (h : Hdr) (p : Octets), s.Ready .crdRoundResultRead h p .none ∧ p8 p 0 = 0 ∧ 1 ≤ p16 p 4 ∧ p16 p 4 ≤ 1000 ∧ s.crd.latest = []) :=
  ⟨⟨ticketS, h0, ticket, key7, by decide, by decide, by first | rfl | decide, by decide +kernel, by decide, by decide, by decide, by decide, by decide, by decide, by decide, by decide, by decide⟩,
   ⟨ticketS, h0, ticketHead ++ zero8, key7, by decide, by decide, by first | rfl | decide, by decide +kernel⟩,
   ⟨lockS, h0, [], by decide, by decide, by decide⟩,
   ⟨(up .service).modCrd (fun c => { c with nonceLive := false }), h0, [], by decide, by decide, by decide, by decide⟩,
   ⟨lockS, h0, lockProof, key7, by decide, by decide, by decide, by decide, by decide, by decide, by first | rfl | decide, by decide +kernel⟩,
   ⟨lockS, h0, zero8, key7, by decide, by decide, by decide, by decide, by decide, by first | rfl | decide, by decide +kernel⟩,
   ⟨resultS, h0, [0, 0, 1, 0, 1, 0], by decide, by decide, by decide, by decide, by decide⟩,
   ⟨resultS, h0, [0, 0, 1, 0, 0xE8, 3], by decide, by decide, by decide, by decide, by decide⟩,
   ⟨up .service, h0, [0, 0, 1, 0, 3, 0], by decide, by decide, by decide, by decide, by decide⟩⟩

def batIdle : State := let s := withKey 8 4 (up .service)
  { s with crd := { s.crd with self := 0x11 }, ntc := { s.ntc with link := true } }
def battery (n : Nat) (ph : BatPhase) : Battery := { number := 3, tries := n, phase := ph, began := 0 }
def inBattery (n : Nat) (ph : BatPhase) : State := batIdle.modCrd (fun c => { c with battery := some (battery n ph), batCfg := setFld c.batCfg 1 2 2, batAuth := some (0x22, 5) })
def linkLate : State := let s := inBattery 0 .link
  { s with aon := { s.aon with tick := 32768 } }
def recheckDue : State := let s := batIdle.modCrd (fun c => { c with battery := none, batAuth := some (0x22, 5), batCfg := setFld c.batCfg 3 8 1 })
  { s with aon := { s.aon with tick := 60 * 32768 }, ntc := { s.ntc with link := false }, pwr := { s.pwr with xoOk := false } }
def pack : Member := { id := 0x33, cls := 3, status := 1, epoch := 0, zpol := 0, ctr := 5, standing := 0, until_ := 0xFFFFFFFF }
def packAnswers : State := (inBattery 1 (.waiting 9)).putMember 8 pack
def packKey : Octets := kCred key7 pack.id pack.cls pack.epoch
def packResponse : Octets := batteryPacket 3 2 (leOf 8 9 ++ leOf 8 4 ++ wordOctets 0x33 ++ leOf 5 6) (fun b => leOf 8 (cmac64 packKey b).toNat)
def packFrame : Frame := { dst := Config.mac, src := 5, ether := 0x88B5, tagged := false, payload := packResponse, length := 64, fcsOk := true, queueFull := false, time := 0 }

theorem test_meets_BatteryExchangeRuns :
    (∃ (s : State) (h : Hdr) (p : Octets), s.Ready .crdBatteryChallenge h p .none ∧ s.crd.self ≠ 0 ∧ s.crd.battery = none ∧ s.cph.drbg = .ready ∧ s.quarantined = false ∧ s.ntc.link = true) ∧
    (∃ (s : State) (b : Battery) (rv : BitVec 64), s.Calm ∧ s.crd.battery = some b ∧ b.phase = .waiting rv ∧ b.tries ≤ fld s.crd.batCfg 1 2) ∧
    (∃ (s : State) (b : Battery) (rv : BitVec 64), s.Calm ∧ s.crd.battery = some b ∧ b.phase = .waiting rv ∧ fld s.crd.batCfg 1 2 < b.tries) ∧
    (∃ (s : State) (b : Battery), s.Calm ∧ s.crd.battery = some b ∧ b.phase = .pause ∧ s.cph.drbg = .ready ∧ s.quarantined = false ∧ s.ntc.link = true) ∧
    (∃ (s : State) (b : Battery), s.Calm ∧ s.crd.battery = some b ∧ b.phase = .link ∧ 32768 ≤ s.age b.began ∧ 1 ≤ fld s.crd.batCfg 1 2) ∧
    (∃ (s : State), s.Calm ∧ s.crd.battery = none ∧ s.crd.batAuth.isSome = true ∧ s.crd.self ≠ 0 ∧ s.cph.drbg ≠ .error ∧ fld s.crd.batCfg 3 8 ≠ 0 ∧ 60 * fld s.crd.batCfg 3 8 * 32768 ≤ s.age s.crd.batAt ∧ s.phyOn false = false) ∧
    (∃ (s : State) (b : Battery) (rv : BitVec 64) (f : Frame) (g : Frame) (others : List Frame) (kd : Octets), s.Calm ∧ s.hears .net = true ∧ s.crd.battery = some b ∧ b.phase = .waiting rv ∧ b.tries ≤ fld s.crd.batCfg 1 2 ∧ s.isResponse b rv f = true ∧ s.rivals b rv f others = [g] ∧ s.latch 8 = .key kd ∧ s.find (pW f.payload 28) = (s, none) ∧ s.find (pW g.payload 28) = (s, none)) ∧
    (∃ (s : State) (b : Battery) (rv : BitVec 64) (f : Frame) (others : List Frame) (kd : Octets) (pos : Nat) (ws : List Word), s.Calm ∧ s.hears .net = true ∧ (s.acceptFrame f).2 = true ∧ f.ether = 0x88B5 ∧ f.dst = Config.mac ∧ p8 f.payload 0 = 0x14 ∧ s.crd.battery = some b ∧ b.phase = .waiting rv ∧ belongs f.payload b.number rv = true ∧ s.latch 8 = .key kd ∧ s.RosterAt (pW f.payload 28) pos ws ∧ (Member.ofWords ws).id = pW f.payload 28 ∧ (cmac (kCred kd (Member.ofWords ws).id (Member.ofWords ws).cls (Member.ofWords ws).epoch) (f.payload.take 38)).take 8 = pRun f.payload 38 8 ∧ (Member.ofWords ws).cls = 3 ∧ (Member.ofWords ws).revoked s.epoch = false ∧ (Member.ofWords ws).ctr < pW f.payload 33 ∧ s.validUntil (Member.ofWords ws) = true ∧ s.rivals b rv f others = []) :=
  ⟨⟨batIdle, h0, [], by decide, by decide, by decide, by decide, by decide, by decide⟩,
   ⟨inBattery 2 (.waiting 5), battery 2 (.waiting 5), 5, by decide, by first | rfl | decide, by decide, by decide⟩,
   ⟨inBattery 3 (.waiting 5), battery 3 (.waiting 5), 5, by decide, by first | rfl | decide, by decide, by decide⟩,
   ⟨inBattery 1 .pause, battery 1 .pause, by decide, by first | rfl | decide, by decide, by decide, by decide, by decide⟩,
   ⟨linkLate, battery 0 .link, by decide, by first | rfl | decide, by decide, by decide, by decide⟩,
   ⟨recheckDue, by decide, by decide, by decide, by decide, by decide, by decide, by decide, by decide⟩,
   ⟨inBattery 1 (.waiting 9), battery 1 (.waiting 9), 9, packFrame, { packFrame with src := 6 }, [{ packFrame with src := 6 }], key7, by decide, by decide, by first | rfl | decide, by decide, by decide, by simp [State.isResponse, State.acceptFrame, packFrame, heard]; decide +kernel, by simp [State.rivals, State.isResponse, State.acceptFrame, packFrame, heard]; decide +kernel, by first | rfl | decide, rfl, rfl⟩,
   ⟨packAnswers, battery 1 (.waiting 9), 9, packFrame, [], key7, 8, pack.words, by decide, by decide, by simp [State.acceptFrame, packFrame, heard]; decide, by decide, rfl, by decide +kernel, by first | rfl | decide, by decide, by decide +kernel, by first | rfl | decide, by decide +kernel, by decide +kernel, by decide +kernel, by decide, by decide, by decide +kernel, by decide, by decide⟩⟩

def rxKeyed : State := withKey 11 6 (up .service)
def rxConfigured : State := rxKeyed.modRx 1 (fun r => { r with configured := true })
def rxOn : State := (rxConfigured.modRx 1 (fun r => { r with unit := .on, next := 65536, blockEnd := 131072 })).modSeq 2 (fun q => { q with unit := .on })
def rxNoSeq : State := rxOn.modSeq 2 (fun q => { q with unit := .off })
def rxHigh : State := rxOn.modRx 1 (fun r => { r with level := 2 })
def policyOctets : Octets := wordOctets (put 0 10 20 ||| put 11 2 2 ||| put 13 6 2 ||| put 19 10 10) ++ wordOctets (put 16 16 10)
def period1 : Period := { began := 0, late := false, sheaf := #v[.none, .held [1, 2], .none, .none], nextRx := 0, plan := Vector.replicate 4 none, number := 1 }
def inPeriod : State := rxOn.modHrv (fun v => { v with period := some period1 })

theorem test_meets_ReceiversAreKept :
    (∃ (s : State) (h : Hdr) (p : Octets) (n : Fin 4), s.Ready .hrvReceiverConfig h p .none ∧ p8 p 0 = n.val ∧ pBit p 1 0 = false ∧ p8 p 7 ≤ 1 ∧ (s.rx n).unit = .off ∧ (p8 p 7 = 1 → ∀ m, m ≠ n → (s.rx m).source = false)) ∧
    (∃ (s : State) (h : Hdr) (p : Octets) (n : Fin 4), s.Ready .hrvReceiverConfig h p .none ∧ p8 p 0 = n.val ∧ pBit p 1 0 = false ∧ p8 p 7 ≤ 1 ∧ (s.rx n).unit = .off ∧ (p8 p 7 = 1 → ∀ m, m ≠ n → (s.rx m).source = false)) ∧
    (∃ (s : State) (h : Hdr) (p : Octets) (n : Fin 4), s.Ready .hrvArm h p .none ∧ p8 p 0 = n.val ∧ p8 p 1 = 1 ∧ (s.rx n).unit = .off ∧ (s.rx n).configured = true ∧ (s.slot (10 + n.val)).st = .written ∧ (s.slot (10 + n.val)).usage = 6 ∧ s.nvm.tally (rxTally n) + 1 < 2 ^ 24 ∧ (s.rx n).reserving = false) ∧
    (∃ (s : State) (h : Hdr) (p : Octets) (n : Fin 4), s.Ready .hrvArm h p .none ∧ p8 p 0 = n.val ∧ p8 p 1 = 0 ∧ (s.rx n).unit = .on ∧ (s.rx n).level = 0 ∧ (s.sq 2).unit = .on) ∧
    (∃ (s : State) (h : Hdr) (p : Octets) (n : Fin 4), s.Ready .hrvArm h p .none ∧ p8 p 0 = n.val ∧ p8 p 1 = 0 ∧ (s.rx n).unit = .on ∧ (s.rx n).level = 0 ∧ (s.sq 2).unit ≠ .on) ∧
    (∃ (s : State) (h : Hdr) (p : Octets) (n : Fin 4), s.Ready .hrvArm h p .none ∧ p8 p 0 = n.val ∧ p8 p 1 = 0 ∧ (s.rx n).unit = .on ∧ (s.rx n).level ≠ 0) ∧
    (∃ (s : State) (h : Hdr) (p : Octets), s.Ready .hrvPolicy h p .none ∧ policy0Bad (pW p 0) = false ∧ policy1Bad (pW p 5) = false) ∧
    (∃ (s : State) (h : Hdr) (p : Octets), s.Ready .hrvStatus h p .none ∧ s.hrv.period = none) ∧
    (∃ (s : State) (h : Hdr) (p : Octets), s.Ready .hrvStatus h p .none ∧ s.hrv.period.isSome = true) :=
  ⟨⟨rxKeyed, h0, [0, 2, 3, 4, 5, 6, 7, 0], 0, by decide, by decide, by decide, by decide, by decide, by decide⟩,
   ⟨rxKeyed, h0, [3, 2, 3, 4, 5, 6, 7, 1], 3, by decide, by decide, by decide, by decide, by decide, by decide⟩,
   ⟨rxConfigured, h0, [1, 1], 1, by decide, by decide, by decide, by decide, by decide, by decide, by decide, by decide, by decide⟩,
   ⟨rxOn, h0, [1, 0], 1, by decide, by decide, by decide, by decide, by decide, by decide⟩,
   ⟨rxNoSeq, h0, [1, 0], 1, by decide, by decide, by decide, by decide, by decide, by decide⟩,
   ⟨rxHigh, h0, [1, 0], 1, by decide, by decide, by decide, by decide, by decide⟩,
   ⟨up .service, h0, policyOctets, by decide, by decide, by decide⟩,
   ⟨up .service, h0, [], by decide, by decide⟩,
   ⟨inPeriod, h0, [], by decide, by decide⟩⟩

def actuate (n ms ilim : Nat) : Octets := [BitVec.ofNat 8 n, 1] ++ leOf 2 ms ++ [BitVec.ofNat 8 ilim]
def driveWaits : State := (up .service).modDriver 1 (fun d => { d with waiting := true, dir := 1, maxMs := 10, ilim := 4 })
def drives : State := let s := driveWaits.modDriver 1 (fun d => { d with running := true, waiting := false, began := 0 })
  { s with aon := { s.aon with tick := 40000 } }

theorem test_meets_LocksAndDrivers :
    (∃ (s : State) (h : Hdr) (p : Octets), s.Ready .hrvLock h p .none ∧ p8 p 0 = 1 ∧ p8 p 1 ≤ 1 ∧ s.hrv.anyArmed = false) ∧
    (∃ (s : State) (h : Hdr) (p : Octets), s.Ready .hrvLock h p .none ∧ p8 p 0 = 1 ∧ p8 p 1 ≤ 1 ∧ s.hrv.anyArmed = true ∧ (s.sq 2).unit = .on) ∧
    (∃ (s : State) (h : Hdr) (p : Octets), s.Ready .hrvLock h p .none ∧ p8 p 0 = 0 ∧ p8 p 1 ≤ 1) ∧
    (∃ (s : State) (h : Hdr) (p : Octets) (n : Fin 2) (o : Obs), s.Ready .hrvActuate h p o ∧ (coilObs o).1 = true ∧ p8 p 0 = n.val ∧ p8 p 1 ≤ 1 ∧ 10 ≤ p16 p 2 ∧ p16 p 2 ≤ 2000 ∧ 4 ≤ p8 p 4 ∧ p8 p 4 ≤ 20 ∧ (∀ k, (s.driver k).running = false ∧ (s.driver k).waiting = false) ∧ s.lf.round = none ∧ s.driveAllowed n (p8 p 1) = true) ∧
    (∃ (s : State) (h : Hdr) (p : Octets) (n : Fin 2) (o : Obs), s.Ready .hrvActuate h p o ∧ (coilObs o).1 = true ∧ p8 p 0 = n.val ∧ p8 p 1 ≤ 1 ∧ 10 ≤ p16 p 2 ∧ p16 p 2 ≤ 2000 ∧ 4 ≤ p8 p 4 ∧ p8 p 4 ≤ 20 ∧ (∀ k, (s.driver k).running = false ∧ (s.driver k).waiting = false) ∧ s.lf.round = none ∧ s.driveAllowed n (p8 p 1) = true) ∧
    (∃ (s : State) (h : Hdr) (p : Octets) (n : Fin 2) (o : Obs), s.Ready .hrvActuate h p o ∧ p8 p 0 = n.val ∧ p8 p 1 ≤ 1 ∧ 10 ≤ p16 p 2 ∧ p16 p 2 ≤ 2000 ∧ 4 ≤ p8 p 4 ∧ p8 p 4 ≤ 20 ∧ (s.driver n).running = false ∧ (s.driver n).waiting = false ∧ s.driveAllowed n (p8 p 1) = false) ∧
    (∃ (s : State) (n : Fin 2), s.Calm ∧ (s.driver n).waiting = true ∧ s.driveFree = true ∧ s.working = true ∧ s.driveAllowed n (s.driver n).dir = true) ∧
    (∃ (s : State) (n : Fin 2), s.Calm ∧ (s.driver n).running = true ∧ (s.driver n).maxMs * 32768 ≤ (s.age (s.driver n).began + 1) * 1000) ∧
    (∃ (s : State) (n : Fin 2) (i : Nat), s.Calm ∧ (s.driver n).running = true ∧ 20 * 32768 ≤ (s.age (s.driver n).began + 1) * 1000 ∧ (s.driver n).ilim * 50 ≤ i) ∧
    (∃ (s : State) (n : Fin 2) (i : Nat), s.Calm ∧ (s.driver n).running = true ∧ 20 * 32768 ≤ (s.age (s.driver n).began + 1) * 1000 ∧ (s.driver n).ilim * 50 ≤ i) :=
  ⟨⟨up .service, h0, [1, 1], by decide, by decide, by decide, by decide⟩,
   ⟨rxOn, h0, [1, 1], by decide, by decide, by decide, by decide, by decide⟩,
   ⟨(up .service).modHrv (fun v => { v with lock := true }), h0, [0, 0], by decide, by decide, by decide⟩,
   ⟨up .service, h0, actuate 1 10 4, 1, .coils true [], by decide, by decide, by decide, by decide, by decide, by decide, by decide, by decide, by decide, by decide, by decide⟩,
   ⟨up .service, h0, actuate 1 2000 20, 1, .coils true [], by decide, by decide, by decide, by decide, by decide, by decide, by decide, by decide, by decide, by decide, by decide⟩,
   ⟨rxHigh, h0, actuate 0 2000 20, 0, .none, by decide, by decide, by decide, by decide, by decide, by decide, by decide, by decide, by decide, by decide⟩,
   ⟨driveWaits, 1, by decide, by decide, by decide, by decide, by decide⟩,
   ⟨drives, 1, by decide, by decide, by decide⟩,
   ⟨drives, 1, 200, by decide, by decide, by decide, by decide⟩,
   ⟨drives, 1, 300, by decide, by decide, by decide, by decide⟩⟩

def quietObs : PeriodObs := { badIds := [], badSess := [], fault := 0, composer := 0 }
def cadenceDue : State := rxOn.modTrig 15 (fun x => { x with nextNs := 0 })
def lateS2 : State := ((up .service).modSeq 2 (fun q => { q with unit := .on })).modHrv (fun v => { v with lateDue := true })
def cadenceBusy : State := inPeriod.modTrig 15 (fun x => { x with nextNs := 0 })
def cadenceNoSeq : State := cadenceDue.modSeq 2 (fun q => { q with unit := .off })
theorem cadence_keys : ∀ n, (cadenceDue.rx n).armed = true → (cadenceDue.slot (10 + n.val)).st = .written ∧
    (∃ k, cadenceDue.latch (10 + n.val) = .key k) ∧ (cadenceDue.rx n).next < (cadenceDue.rx n).blockEnd := by
  intro n h
  by_cases e : n = 1
  · subst e; exact ⟨by decide, ⟨key7, by decide⟩, by decide⟩
  · exact absurd h (by revert n; decide)

theorem test_meets_ReleasePeriodsStartAtTheirCadence :
    (∃ (s : State) (o : PeriodObs), s.Calm ∧ s.trigDue 15 = true ∧ s.periodsRun = true ∧ s.hrv.period = none ∧ (s.sq 2).unit = .on ∧ (s.sq 2).image.entry0 < (s.sq 2).image.code.length ∧ s.critSound [0, 1, 2, 3, 4, 5, 6, 7, 8, 9] = true ∧ o.fault = 0 ∧ o.composer = 0 ∧ s.quarantined = false ∧ (∀ n, (s.rx n).armed = true → (s.slot (10 + n.val)).st = .written ∧ (∃ k, s.latch (10 + n.val) = .key k) ∧ (s.rx n).next < (s.rx n).blockEnd)) ∧
    (∃ (s : State), s.Calm ∧ s.hrv.lateDue = true ∧ s.periodsRun = true ∧ s.hrv.period = none ∧ (s.sq 2).unit = .on ∧ (s.sq 2).image.entry0 < (s.sq 2).image.code.length ∧ s.critSound [0, 1, 2, 3, 4, 5, 6, 7, 8, 9] = true ∧ (∀ n, (s.rx n).armed = false)) ∧
    (∃ (s : State), s.Calm ∧ s.trigDue 15 = true ∧ s.periodsRun = true ∧ s.hrv.period.isSome = true ∧ (s.sq 2).unit = .on) ∧
    (∃ (s : State), s.Calm ∧ s.trigDue 15 = true ∧ s.periodsRun = true ∧ s.hrv.period = none ∧ (s.sq 2).unit ≠ .on) :=
  ⟨⟨cadenceDue, quietObs, by decide, by decide, by decide, by decide, by decide, by decide, by decide, by decide, by decide, by decide, cadence_keys⟩,
   ⟨lateS2, by decide, by decide, by decide, by decide, by decide, by decide, by decide, by decide⟩,
   ⟨cadenceBusy, by decide, by decide, by decide, by decide, by decide⟩,
   ⟨cadenceNoSeq, by decide, by decide, by decide, by decide, by decide⟩⟩

def code1 : List Word := (defaultImage 1).code
/-- The words of an image of a program for sequencer `n`. -/
def imageWords (n : Nat) (code : List Word) : List Word :=
  [headWord0 n code.length 0, headWord1 0 0, BitVec.ofNat 40 (crc32c (imageOctets (headWord0 n code.length 0) (headWord1 0 0) code)).toNat] ++ code
def loadOctets (n fl : Nat) (ws : List Word) : Octets := [BitVec.ofNat 8 n, BitVec.ofNat 8 fl, 0, 0] ++ (ws.map wordOctets).flatten
def loadWhole : Octets := loadOctets 1 3 (imageWords 1 code1)
def image1 : Image := match (up .service).checkImage 1 (wordsOf (loadWhole.drop 4) ((loadWhole.length - 4) / 5)) false with | .image i => i | _ => defaultImage 0
def faultOf : Nat × Nat := match (up .service).checkImage 1 (wordsOf ((loadOctets 1 3 (imageWords 2 code1)).drop 4) (((loadOctets 1 3 (imageWords 2 code1)).length - 4) / 5)) false with | .fault c w => (c, w) | _ => (0, 0)
def seqOff : State := (up .service).modSeq 1 (fun q => { q with unit := .off })
def aboveDeny0 : State := (up .service).modRx 0 (fun r => { r with unit := .on, level := 2 })
def installs : State := (up .service).modSeq 1 (fun q => { q with next := some (defaultImage 1), ticket := some 4 })
def stage0 : Staging := { ctx := 0, seq := 1, words := 3, gap := false, last := 0 }
def staged : State := { up .service with seq := { (up .service).seq with stage := some stage0 }, aon := { (up .service).aon with tick := 327680 } }

theorem test_meets_SequencersAreLoadedAndRun :
    (∃ (s : State) (h : Hdr) (p : Octets), s.Ready .seqLoad h p .none ∧ p8 p 0 ≤ 2 ∧ p8 p 1 = 1 ∧ p16 p 2 = 0 ∧ (p.length - 4) / 5 ≤ 517 ∧ s.seq.stage = none) ∧
    (∃ (s : State) (h : Hdr) (p : Octets) (n : Fin 3) (i : Image), s.Ready .seqLoad h p .none ∧ p8 p 0 = n.val ∧ p8 p 1 = 3 ∧ p16 p 2 = 0 ∧ s.seq.stage = none ∧ s.mem.Sound ∧ (s.mem.phys stageBase) / 16384 ≠ s.mem.ringBank ∧ (s.sq n).inRound = false ∧ s.checkImage n (wordsOf (p.drop 4) ((p.length - 4) / 5)) false = .image i) ∧
    (∃ (s : State) (h : Hdr) (p : Octets) (n : Fin 3) (c : Nat) (w : Nat), s.Ready .seqLoad h p .none ∧ p8 p 0 = n.val ∧ p8 p 1 = 3 ∧ p16 p 2 = 0 ∧ s.seq.stage = none ∧ s.mem.Sound ∧ (s.mem.phys stageBase) / 16384 ≠ s.mem.ringBank ∧ s.checkImage n (wordsOf (p.drop 4) ((p.length - 4) / 5)) false = .fault c w) ∧
    (∃ (s : State) (h : Hdr) (p : Octets) (n : Fin 3), s.Ready .seqStart h p .none ∧ p8 p 0 = n.val ∧ (s.sq n).unit = .off) ∧
    (∃ (s : State) (h : Hdr) (p : Octets) (n : Fin 3), s.Ready .seqStop h p .none ∧ p8 p 0 = n.val ∧ (s.sq n).unit = .on ∧ (n = 2 → s.aboveDeny = false)) ∧
    (∃ (s : State) (h : Hdr) (p : Octets), s.Ready .seqStop h p .none ∧ p8 p 0 = 2 ∧ s.aboveDeny = true) ∧
    (∃ (s : State) (h : Hdr) (p : Octets), s.Ready .seqStatus h p .none) ∧
    (∃ (s : State) (n : Fin 3) (i : Image), s.Calm ∧ (s.sq n).next = some i ∧ (s.sq n).inRound = false) ∧
    (∃ (s : State) (g : Staging), s.Calm ∧ s.seq.stage = some g ∧ 327680 ≤ s.age g.last) :=
  ⟨⟨up .service, h0, loadOctets 1 1 (imageWords 1 code1), by decide, by decide, by decide, by decide, by decide, by decide⟩,
   ⟨up .service, h0, loadWhole, 1, image1, by decide, by decide, by decide, by decide, by decide, by decide, by decide, by decide, by decide +kernel⟩,
   ⟨up .service, h0, loadOctets 1 3 (imageWords 2 code1), 1, faultOf.1, faultOf.2, by decide, by decide, by decide, by decide, by decide, by decide, by decide, by decide +kernel⟩,
   ⟨seqOff, h0, [1], 1, by decide, by decide, by decide⟩,
   ⟨up .service, h0, [2], 2, by decide, by decide, by decide, by decide⟩,
   ⟨aboveDeny0, h0, [2], by decide, by decide, by decide⟩,
   ⟨up .service, h0, [], by decide⟩,
   ⟨installs, 1, defaultImage 1, by decide, by decide, by decide⟩,
   ⟨staged, stage0, by decide, by first | rfl | decide, by decide⟩⟩

/-- R281: an instruction word from its fields. -/
def tw (op ra rb i imm : Nat) : Word := put 34 6 op ||| put 31 3 ra ||| put 28 3 rb ||| put 27 1 i ||| put 0 27 imm
/-- Sequencer `n` about to run `w`, the second of four instructions. -/
def tilth (n : Fin 3) (w : Word) : State :=
  let s := (up .service).modSeq n (fun q => { q with image := { q.image with code := [0, w, 0, 0] }, inRound := true, pc := 1, regs := #v[10, 11, 12, 13, 14, 15, 16, 17] })
  { s with aon := { s.aon with tick := 100 } }
def deepStack : State := (tilth 2 (tw 6 0 0 0 3)).modSeq 2 (fun q => { q with stack := [1, 2, 3, 0] })
def returns : State := (tilth 2 (tw 7 0 0 0 0)).modSeq 2 (fun q => { q with stack := [3, 0] })

theorem test_meets_TilthArithmeticAndFlow :
    (∃ (s : State) (n : Fin 3) (w : Word), s.Calm ∧ s.fetchOp n 0x00 = some w ∧ (s.sq n).pc + 1 < (s.sq n).image.code.length) ∧
    (∃ (s : State) (n : Fin 3) (w : Word), s.Calm ∧ s.fetchOp n 0x01 = some w ∧ (s.sq n).pc + 1 < (s.sq n).image.code.length) ∧
    (∃ (s : State) (n : Fin 3) (w : Word), s.Calm ∧ s.fetchOp n 0x01 = some w ∧ (s.sq n).pc + 1 < (s.sq n).image.code.length) ∧
    (∃ (s : State) (n : Fin 3) (w : Word), s.Calm ∧ s.fetchOp n 0x02 = some w ∧ (s.sq n).pc + 1 < (s.sq n).image.code.length) ∧
    (∃ (s : State) (n : Fin 3) (w : Word) (b : Word), s.Calm ∧ s.fetchOp n 0x03 = some w ∧ (s.sq n).pc + 1 < (s.sq n).image.code.length ∧ b = (if tI w then tImm w else (s.sq n).reg (tRb w))) ∧
    (∃ (s : State) (n : Fin 3) (w : Word), s.Calm ∧ s.fetchOp n 0x04 = some w ∧ (s.sq n).pc + 1 < (s.sq n).image.code.length ∧ fld w 0 9 < (s.sq n).image.code.length ∧ fld w 24 3 ≤ 6) ∧
    (∃ (s : State) (n : Fin 3) (w : Word), s.Calm ∧ s.fetchOp n 0x04 = some w ∧ (s.sq n).pc + 1 < (s.sq n).image.code.length ∧ fld w 0 9 < (s.sq n).image.code.length ∧ fld w 24 3 ≤ 6) ∧
    (∃ (s : State) (n : Fin 3) (w : Word), s.Calm ∧ s.fetchOp n 0x05 = some w ∧ (s.sq n).pc + 1 < (s.sq n).image.code.length ∧ fld w 0 9 < (s.sq n).image.code.length) ∧
    (∃ (s : State) (n : Fin 3) (w : Word), s.Calm ∧ s.fetchOp n 0x06 = some w ∧ fld w 0 9 < (s.sq n).image.code.length ∧ (s.sq n).stack.length < 4) ∧
    (∃ (s : State) (n : Fin 3) (w : Word), s.Calm ∧ s.fetchOp n 0x06 = some w ∧ 4 ≤ (s.sq n).stack.length ∧ (s.sq n).next = none) ∧
    (∃ (s : State) (n : Fin 3) (w : Word) (i : Nat) (l : List Nat), s.Calm ∧ s.fetchOp n 0x07 = some w ∧ (s.sq n).stack = i :: l ∧ i < (s.sq n).image.code.length) ∧
    (∃ (s : State) (n : Fin 3) (w : Word), s.Calm ∧ s.fetchOp n 0x07 = some w ∧ (s.sq n).stack = [] ∧ (s.sq n).next = none) ∧
    (∃ (s : State) (n : Fin 3) (w : Word), s.Calm ∧ s.fetchOp n 0x08 = some w ∧ (s.sq n).pc + 1 < (s.sq n).image.code.length) :=
  ⟨⟨tilth 1 0, 1, 0, by decide, by decide, by decide⟩,
   ⟨tilth 2 (tw 1 7 3 0 0), 2, tw 1 7 3 0 0, by decide, by decide, by decide⟩,
   ⟨tilth 0 (tw 1 7 0 1 0x7FFFFFF), 0, tw 1 7 0 1 0x7FFFFFF, by decide, by decide, by decide⟩,
   ⟨tilth 0 (tw 2 7 0 1 0x3FFFFFF), 0, tw 2 7 0 1 0x3FFFFFF, by decide, by decide, by decide⟩,
   ⟨tilth 0 (tw 3 7 0 1 17), 0, tw 3 7 0 1 17, 17, by decide, by decide, by decide, by decide⟩,
   ⟨tilth 0 (tw 4 0 0 0 3), 0, tw 4 0 0 0 3, by decide, by decide, by decide, by decide, by decide⟩,
   ⟨tilth 0 (tw 4 0 0 0 0x6000003), 0, tw 4 0 0 0 0x6000003, by decide, by decide, by decide, by decide, by decide⟩,
   ⟨tilth 0 (tw 5 2 0 0 3), 0, tw 5 2 0 0 3, by decide, by decide, by decide, by decide⟩,
   ⟨tilth 0 (tw 6 0 0 0 3), 0, tw 6 0 0 0 3, by decide, by decide, by decide, by decide⟩,
   ⟨deepStack, 2, tw 6 0 0 0 3, by decide, by decide, by decide, by decide⟩,
   ⟨returns, 2, tw 7 0 0 0 0, 3, [0], by decide, by decide, by decide, by decide⟩,
   ⟨tilth 1 (tw 7 0 0 0 0), 1, tw 7 0 0 0 0, by decide, by decide, by decide, by decide⟩,
   ⟨tilth 0 (tw 8 4 0 0 0), 0, tw 8 4 0 0 0, by decide, by decide, by decide⟩⟩

def relWait : Word := tw 0x10 4 0 1 0x4000032
def absWait (c : Nat) : Word := tw 0x10 4 0 1 (0x5000000 + c)
def evWait : Word := tw 0x11 4 0 0 0xFFF8
def waitsTime : State := (tilth 1 relWait).modSeq 1 (fun q => { q with stall := .time 2 40 60 })
def linesUp : State := (tilth 1 evWait).modSeq 1 (fun q => { q with lines := 0x8011 })
def sigWord : Word := tw 0x12 0 0 0 14
def sigWaits : State := (tilth 1 sigWord).modSeq 2 (fun q => { q with stall := .event 8 3 })
def sigOff : State := (tilth 1 sigWord).modSeq 2 (fun q => { q with unit := .off })

theorem test_meets_TilthWaitsAndSignals :
    (∃ (s : State) (n : Fin 3) (w : Word), s.Calm ∧ s.fetchOp n 0x10 = some w ∧ bit w 24 = false) ∧
    (∃ (s : State) (n : Fin 3) (w : Word) (c : Nat), s.Calm ∧ s.fetchOp n 0x10 = some w ∧ bit w 24 = true ∧ c = (if tI w then fld w 0 24 else fld ((s.sq n).reg (tRb w)) 0 24) ∧ s.maybePast (fld w 25 2) c (s.age (s.sq n).began) = false ∧ s.surelyPast (fld w 25 2) c (s.age (s.sq n).began) = false) ∧
    (∃ (s : State) (n : Fin 3) (w : Word) (c : Nat), s.Calm ∧ s.fetchOp n 0x10 = some w ∧ bit w 24 = true ∧ c = (if tI w then fld w 0 24 else fld ((s.sq n).reg (tRb w)) 0 24) ∧ (s.sq n).pc + 1 < (s.sq n).image.code.length ∧ s.surelyPast (fld w 25 2) c (s.age (s.sq n).began) = true) ∧
    (∃ (s : State) (n : Fin 3) (w : Word) (since : Word) (u : Nat) (c : Nat), s.Calm ∧ (s.sq n).stall = .time u c since ∧ (s.sq n).inRound = true ∧ (s.sq n).ending = false ∧ (s.sq n).image.code[(s.sq n).pc]? = some w ∧ (s.sq n).pc + 1 < (s.sq n).image.code.length ∧ s.maybePast u c (s.age since) = true) ∧
    (∃ (s : State) (n : Fin 3) (w : Word) (k : Nat), s.Calm ∧ s.fetchOp n 0x11 = some w ∧ (s.sq n).pc + 1 < (s.sq n).image.code.length ∧ k < 16 ∧ (s.sq n).lines.getLsbD k = true ∧ (fld w 0 16).testBit k = true ∧ (∀ j < k, ((s.sq n).lines.getLsbD j && (fld w 0 16).testBit j) = false)) ∧
    (∃ (s : State) (n : Fin 3) (w : Word), s.Calm ∧ s.fetchOp n 0x11 = some w ∧ (s.sq n).lines &&& BitVec.ofNat 16 (fld w 0 16) = 0) ∧
    (∃ (s : State) (n : Fin 3) (t : Fin 3) (w : Word), s.Calm ∧ s.fetchOp n 0x12 = some w ∧ (s.sq n).pc + 1 < (s.sq n).image.code.length ∧ fld w 0 2 = t.val ∧ (s.sq t).unit ≠ .off ∧ (s.sq t).stall = .none) ∧
    (∃ (s : State) (n : Fin 3) (t : Fin 3) (w : Word), s.Calm ∧ s.fetchOp n 0x12 = some w ∧ (s.sq n).pc + 1 < (s.sq n).image.code.length ∧ fld w 0 2 = t.val ∧ (s.sq t).unit ≠ .off ∧ (s.sq t).stall = .none) ∧
    (∃ (s : State) (n : Fin 3) (t : Fin 3) (w : Word) (ra : Fin 8), s.Calm ∧ s.fetchOp n 0x12 = some w ∧ (s.sq n).pc + 1 < (s.sq n).image.code.length ∧ fld w 0 2 = t.val ∧ t ≠ n ∧ (s.sq t).unit ≠ .off ∧ (s.sq t).stall = .event (BitVec.ofNat 16 (2 ^ fld w 2 2)) ra ∧ (s.sq t).pc + 1 < (s.sq t).image.code.length ∧ (s.sq t).lines = 0) ∧
    (∃ (s : State) (n : Fin 3) (t : Fin 3) (w : Word), s.Calm ∧ s.fetchOp n 0x12 = some w ∧ (s.sq n).pc + 1 < (s.sq n).image.code.length ∧ fld w 0 2 = t.val ∧ (s.sq t).unit = .off) :=
  ⟨⟨tilth 0 relWait, 0, relWait, by decide, by decide, by decide⟩,
   ⟨tilth 0 (absWait 5000), 0, absWait 5000, 5000, by decide, by decide, by decide, by decide, by decide, by decide⟩,
   ⟨tilth 0 (absWait 50), 0, absWait 50, 50, by decide, by decide, by decide, by decide, by decide, by decide⟩,
   ⟨waitsTime, 1, relWait, 60, 2, 40, by decide, by decide, by decide, by decide, by decide, by decide, by decide⟩,
   ⟨linesUp, 1, evWait, 4, by decide, by decide, by decide, by decide, by decide, by decide, by decide⟩,
   ⟨tilth 1 evWait, 1, evWait, by decide, by decide, by decide⟩,
   ⟨tilth 1 sigWord, 1, 2, sigWord, by decide, by decide, by decide, by decide, by decide, by decide⟩,
   ⟨tilth 2 sigWord, 2, 2, sigWord, by decide, by decide, by decide, by decide, by decide, by decide⟩,
   ⟨sigWaits, 1, 2, sigWord, 3, by decide, by decide, by decide, by decide, by decide, by decide, by decide, by decide, by decide⟩,
   ⟨sigOff, 1, 2, sigWord, by decide, by decide, by decide, by decide, by decide⟩⟩

/-- The plough set up: every coil enabled, a burst plan of two slots. -/
def lfSet : State := (up .service).modLf (fun l => { l with
  plan0 := put 0 4 2 ||| put 4 4 5, plan1 := put 8 4 2 ||| put 12 12 0xFFF, wakeId := 0x1234, unit := .on,
  coils := l.coils.map (fun c => { c with cfg := setFld (setFld c.cfg 0 1 1) 1 6 20, cls := 0 }) })
def ploughR (full : Bool) (next : Nat) : PloughRound := { lfSet.newRound full 0 5 with next := next, key := some (List.replicate 16 1) }
/-- Sequencer 0 about to run `w` in round `r`. -/
def plough (w : Word) (r : PloughRound) : State :=
  let s := lfSet.modSeq 0 (fun q => { q with image := { q.image with code := [0, w, 0, 0] }, inRound := true, pc := 1, regs := #v[10, 11, 12, 13, 14, 15, 16, 17] })
  { s with lf := { s.lf with round := some r }, aon := { s.aon with tick := 100 } }
def sendWake : Word := tw 0x18 4 0 1 0xFFF
def sendChal : Word := tw 0x18 4 0 1 0x2000FFF
def sendConf : Word := tw 0x18 4 0 1 0x4000FFF
def burstW : Word := tw 0x19 4 0 1 0xFFF
def listenW : Word := tw 0x1A 4 0 0 0x1000000
def acc0 : Acceptance := { lane := 0, slot := 0, zone := 0, id := 5, cls := 1, epoch := 0, allowed := true, conflict := false, captured := false, confirmed := false, jump := false, stale := false, rssi := 5, offset := 0, ctr := 6, body := List.replicate 41 3, pos := 7, stamp := 0 }
def rConf : PloughRound := { ploughR true 4 with accs := [acc0] }
def rRefused : PloughRound := { ploughR true 4 with refused := true }

theorem test_meets_PloughElementsGoOnAir :
    (∃ (s : State) (w : Word) (r : PloughRound) (set : BitVec 12), s.Calm ∧ s.fetchOp 0 0x18 = some w ∧ s.lf.round = some r ∧ r.refused = false ∧ fld w 25 2 = 0 ∧ r.next = 0 ∧ s.fits r 1146 = true ∧ s.dutyOk (s.lf.us 698) = true ∧ set = s.lf.frameSet ((s.sq 0).coilOperand w) &&& s.lf.coolMask ∧ set ≠ 0) ∧
    (∃ (s : State) (w : Word) (r : PloughRound) (set : BitVec 12), s.Calm ∧ s.fetchOp 0 0x18 = some w ∧ s.lf.round = some r ∧ r.refused = false ∧ fld w 25 2 = 0 ∧ r.next = 0 ∧ s.fits r 1146 = true ∧ s.dutyOk (s.lf.us 698) = true ∧ set = s.lf.frameSet ((s.sq 0).coilOperand w) &&& s.lf.coolMask ∧ set ≠ 0) ∧
    (∃ (s : State) (w : Word) (r : PloughRound) (set : BitVec 12), s.Calm ∧ s.fetchOp 0 0x18 = some w ∧ s.lf.round = some r ∧ r.refused = false ∧ r.full = true ∧ fld w 25 2 = 1 ∧ r.next = 1 ∧ s.fits r 3456 = true ∧ s.dutyOk (s.lf.us 1728) = true ∧ set = s.lf.frameSet ((s.sq 0).coilOperand w) &&& s.lf.coolMask ∧ set ≠ 0) ∧
    (∃ (s : State) (w : Word) (r : PloughRound) (set : BitVec 12) (a : Acceptance) (key : Octets), s.Calm ∧ s.fetchOp 0 0x18 = some w ∧ s.lf.round = some r ∧ r.refused = false ∧ r.full = true ∧ fld w 25 2 = 2 ∧ r.next = 4 ∧ r.listening = false ∧ r.key = some key ∧ r.accs[r.confirms]? = some a ∧ r.confirms < 8 ∧ s.fits r 3200 = true ∧ s.dutyOk (s.lf.us 1600) = true ∧ set = s.lf.frameSet ((s.sq 0).coilOperand w) &&& s.lf.coolMask ∧ set ≠ 0) ∧
    (∃ (s : State) (w : Word) (r : PloughRound), s.Calm ∧ s.fetchOp 0 0x18 = some w ∧ (s.sq 0).pc + 1 < (s.sq 0).image.code.length ∧ s.lf.round = some r ∧ r.refused = false ∧ r.full = true ∧ fld w 25 2 = 2 ∧ r.next = 4 ∧ r.listening = false ∧ r.accs.length ≤ r.confirms) ∧
    (∃ (s : State) (r : PloughRound), s.Calm ∧ (s.sq 0).pc + 1 < (s.sq 0).image.code.length ∧ s.lf.round = some r ∧ r.refused = true) ∧
    (∃ (s : State) (w : Word) (r : PloughRound) (mask : BitVec 12), s.Calm ∧ s.fetchOp 0 0x19 = some w ∧ s.lf.round = some r ∧ r.refused = false ∧ r.full = true ∧ r.next = 2 ∧ mask = (s.sq 0).coilOperand w ∧ 1 ≤ s.lf.slots ∧ s.fits r (burstPeriods s.lf.slots) = true ∧ (let n := s.lf.slotCoil 0; mask.getLsbD n.val = true ∧ (s.lf.coil n).enabled = true ∧ (s.lf.coil n).excluded = false ∧ s.lf.isHot n = false) ∧ (let cool := s.lf.slotList.filter (fun k => let n := s.lf.slotCoil k; mask.getLsbD n.val && (s.lf.coil n).enabled && !(s.lf.coil n).excluded && !s.lf.isHot n); s.dutyOk (cool.length * s.lf.us 64) = true)) ∧
    (∃ (s : State) (w : Word) (r : PloughRound), s.Calm ∧ s.fetchOp 0 0x1A = some w ∧ s.lf.round = some r ∧ r.next = 3 ∧ (r.full = true → r.refused = false) ∧ s.coexRefused 1 = false) ∧
    (∃ (s : State) (w : Word) (r : PloughRound), s.Calm ∧ s.fetchOp 0 0x1A = some w ∧ s.lf.round = some r ∧ r.next = 3 ∧ (r.full = true → r.refused = false) ∧ s.coexRefused 1 = false) :=
  ⟨⟨plough sendWake (ploughR false 0), sendWake, ploughR false 0, 0xFFF, by decide, by decide, by first | rfl | decide, by decide, by decide, by decide, by decide, by decide, by decide +kernel, by decide⟩,
   ⟨plough sendWake (ploughR true 0), sendWake, ploughR true 0, 0xFFF, by decide, by decide, by first | rfl | decide, by decide, by decide, by decide, by decide, by decide, by decide +kernel, by decide⟩,
   ⟨plough sendChal (ploughR true 1), sendChal, ploughR true 1, 0xFFF, by decide, by decide, by first | rfl | decide, by decide, by decide, by decide, by decide, by decide, by decide, by decide +kernel, by decide⟩,
   ⟨plough sendConf rConf, sendConf, rConf, 0xFFF, acc0, List.replicate 16 1, by decide, by decide, by first | rfl | decide, by decide, by decide, by decide, by decide, by decide, by decide, by decide, by decide, by decide, by decide, by decide +kernel, by decide⟩,
   ⟨plough sendConf (ploughR true 4), sendConf, ploughR true 4, by decide, by decide, by decide, by first | rfl | decide, by decide, by decide, by decide, by decide, by decide, by decide⟩,
   ⟨plough sendConf rRefused, rRefused, by decide, by decide, by first | rfl | decide, by decide⟩,
   ⟨plough burstW (ploughR true 2), burstW, ploughR true 2, 0xFFF, by decide, by decide, by first | rfl | decide, by decide, by decide, by decide, by decide, by decide, by decide, by decide +kernel, by decide +kernel⟩,
   ⟨plough listenW (ploughR true 3), listenW, ploughR true 3, by decide, by decide, by first | rfl | decide, by decide, by decide, by decide⟩,
   ⟨plough listenW (ploughR false 3), listenW, ploughR false 3, by decide, by decide, by first | rfl | decide, by decide, by decide, by decide⟩⟩

/-- An element of round `r` on the air, which SEND_LF, BURST or LISTEN waits for. -/
def onAir (r : PloughRound) : State := (plough sendWake r).modSeq 0 (fun q => { q with stall := .element 4 })
def rWake : PloughRound := { ploughR false 0 with onAir := some .wake, driven := 5 }
def rChal : PloughRound := { ploughR true 1 with onAir := some .challenge, driven := 5 }
def rSlot : PloughRound := { ploughR true 2 with onAir := some (.slot 1), driven := 32 }
def rConfAir : PloughRound := { rConf with onAir := some (.confirm 0), driven := 5 }
def rPoll : PloughRound := { ploughR false 4 with listening := true }
def rFull : PloughRound := { ploughR true 4 with listening := true }
def presS : State := let s := onAir rPoll
  { s with uhf := { s.uhf with vigil := 0x800000000 } }
theorem on_air (r : PloughRound) (e : Element) (s : State) (h : r.onAir = some e)
    (k : e = .wake ∨ e = .challenge ∨ (e = .slot (s.lf.slots - 1) ∧ 1 ≤ s.lf.slots ∧ r.driven ≠ 0)) :
    ∀ x, r.onAir = some x → x = .wake ∨ x = .challenge ∨ (x = .slot (s.lf.slots - 1) ∧ 1 ≤ s.lf.slots ∧ r.driven ≠ 0) := by
  intro x e'
  rw [h] at e'
  cases e'
  exact k

theorem test_meets_PloughElementsEnd :
    (∃ (s : State) (r : PloughRound) (ra : Fin 8), s.Calm ∧ s.lf.round = some r ∧ (s.sq 0).inRound = true ∧ (s.sq 0).stall = .element ra ∧ (s.sq 0).ending = false ∧ (s.sq 0).pc + 1 < (s.sq 0).image.code.length ∧ (∀ x, r.onAir = some x → x = .wake ∨ x = .challenge ∨ (x = .slot (s.lf.slots - 1) ∧ 1 ≤ s.lf.slots ∧ r.driven ≠ 0)) ∧ r.onAir.isSome = true) ∧
    (∃ (s : State) (r : PloughRound) (ra : Fin 8), s.Calm ∧ s.lf.round = some r ∧ (s.sq 0).inRound = true ∧ (s.sq 0).stall = .element ra ∧ (s.sq 0).ending = false ∧ (s.sq 0).pc + 1 < (s.sq 0).image.code.length ∧ (∀ x, r.onAir = some x → x = .wake ∨ x = .challenge ∨ (x = .slot (s.lf.slots - 1) ∧ 1 ≤ s.lf.slots ∧ r.driven ≠ 0)) ∧ r.onAir.isSome = true) ∧
    (∃ (s : State) (r : PloughRound) (ra : Fin 8), s.Calm ∧ s.lf.round = some r ∧ (s.sq 0).inRound = true ∧ (s.sq 0).stall = .element ra ∧ (s.sq 0).ending = false ∧ (s.sq 0).pc + 1 < (s.sq 0).image.code.length ∧ (∀ x, r.onAir = some x → x = .wake ∨ x = .challenge ∨ (x = .slot (s.lf.slots - 1) ∧ 1 ≤ s.lf.slots ∧ r.driven ≠ 0)) ∧ r.onAir.isSome = true) ∧
    (∃ (s : State) (r : PloughRound) (ra : Fin 8) (j : Nat) (a : Acceptance), s.Calm ∧ s.lf.round = some r ∧ (s.sq 0).inRound = true ∧ (s.sq 0).stall = .element ra ∧ (s.sq 0).ending = false ∧ (s.sq 0).pc + 1 < (s.sq 0).image.code.length ∧ r.onAir = some (.confirm j) ∧ r.accs[j]? = some a) ∧
    (∃ (s : State) (r : PloughRound) (ra : Fin 8), s.Calm ∧ s.lf.round = some r ∧ (s.sq 0).inRound = true ∧ (s.sq 0).stall = .element ra ∧ (s.sq 0).ending = false ∧ (s.sq 0).pc + 1 < (s.sq 0).image.code.length ∧ (r.onAir = some .wake ∨ r.onAir = some .challenge) ∧ r.driven ≠ 0) ∧
    (∃ (s : State) (r : PloughRound) (ra : Fin 8), s.Calm ∧ s.lf.round = some r ∧ (s.sq 0).inRound = true ∧ (s.sq 0).stall = .element ra ∧ (s.sq 0).ending = false ∧ (s.sq 0).pc + 1 < (s.sq 0).image.code.length ∧ (r.onAir = some .wake ∨ r.onAir = some .challenge) ∧ r.driven ≠ 0) ∧
    (∃ (s : State), s.Calm) ∧
    (∃ (s : State), s.Calm ∧ s.lf.round = none) ∧
    (∃ (s : State) (r : PloughRound) (w : BitVec 16) (o : Int), s.Calm ∧ s.lf.round = some r ∧ r.full = false ∧ r.listening = true ∧ r.onAir = none ∧ bit s.uhf.vigil 35 = true ∧ w.toNat = fld s.lf.wakeId 0 16 ∧ o.natAbs ≤ 64 ∧ s.inHoldoff = false ∧ s.pwr.state = .run ∧ s.pwr.entry = none ∧ (s.sq 0).inRound = true) ∧
    (∃ (s : State) (r : PloughRound) (w : BitVec 16) (o : Int), s.Calm ∧ s.lf.round = some r ∧ (r.full = true ∨ r.listening = false ∨ w.toNat ≠ fld s.lf.wakeId 0 16 ∨ 64 < o.natAbs)) ∧
    (∃ (s : State) (r : PloughRound) (w : BitVec 16) (o : Int), s.Calm ∧ s.lf.round = some r ∧ (r.full = true ∨ r.listening = false ∨ w.toNat ≠ fld s.lf.wakeId 0 16 ∨ 64 < o.natAbs)) ∧
    (∃ (s : State) (r : PloughRound) (ra : Fin 8), s.Calm ∧ s.lf.round = some r ∧ r.listening = true ∧ (s.sq 0).stall = .element ra ∧ (s.sq 0).pc + 1 < (s.sq 0).image.code.length) ∧
    (∃ (s : State) (r : PloughRound) (ra : Fin 8), s.Calm ∧ s.lf.round = some r ∧ r.listening = true ∧ (s.sq 0).stall = .element ra ∧ (s.sq 0).pc + 1 < (s.sq 0).image.code.length) :=
  ⟨⟨onAir rWake, rWake, 4, by decide, by first | rfl | decide, by decide, by decide, by decide, by decide, on_air _ .wake _ rfl (by decide), by decide⟩,
   ⟨onAir rChal, rChal, 4, by decide, by first | rfl | decide, by decide, by decide, by decide, by decide, on_air _ .challenge _ rfl (by decide), by decide⟩,
   ⟨onAir rSlot, rSlot, 4, by decide, by first | rfl | decide, by decide, by decide, by decide, by decide, on_air _ (.slot 1) _ rfl (by decide), by decide⟩,
   ⟨onAir rConfAir, rConfAir, 4, 0, acc0, by decide, by first | rfl | decide, by decide, by decide, by decide, by decide, by decide, by decide⟩,
   ⟨onAir rWake, rWake, 4, by decide, by first | rfl | decide, by decide, by decide, by decide, by decide, by decide, by decide⟩,
   ⟨onAir rChal, rChal, 4, by decide, by first | rfl | decide, by decide, by decide, by decide, by decide, by decide, by decide⟩,
   ⟨lfSet, by decide⟩,
   ⟨lfSet, by decide, by decide⟩,
   ⟨presS, rPoll, 0x1234, -64, by decide, by first | rfl | decide, by decide, by decide, by decide, by decide, by decide, by decide, by decide, by decide, by decide, by decide⟩,
   ⟨presS, rPoll, 0x1234, 65, by decide, by first | rfl | decide, by decide⟩,
   ⟨presS, rPoll, 0x1235, 0, by decide, by first | rfl | decide, by decide⟩,
   ⟨onAir rFull, rFull, 4, by decide, by first | rfl | decide, by decide, by decide, by decide⟩,
   ⟨onAir rPoll, rPoll, 4, by decide, by first | rfl | decide, by decide, by decide, by decide⟩⟩

def plan1 : Plan := { word := put 2 3 3 ||| put 17 7 1 ||| put 24 3 1, segs := [0] }
def key1 : Octets := List.replicate 16 1
def rider : Member := { id := 0x11, cls := 1, status := 1, epoch := 0, zpol := 0, ctr := 5, standing := 0, until_ := 0 }
/-- A full round listening, with one member in the roster. -/
def hears : State := let s := lfSet.putMember 7 rider
  { s with lf := { s.lf with round := some rFull }, uhf := { s.uhf with plan := some plan1 } }
/-- R142: the body of a response of member `id`; its MAC under `rider`'s key when `good`. -/
def body (id : Nat) (good : Bool) : Octets :=
  let b1 : Octets := [16] ++ octs (beOf 5 id) ++ List.replicate 8 9 ++ octs (beOf 5 6) ++ List.replicate 12 3
  let mac : Octets := if good then (cmac (kCred key1 0x11 1 0) (octs (beOf 8 5) ++ pRun b1 6 8 ++ pRun b1 1 5 ++ pRun b1 19 12 ++ pRun b1 14 5)).take 8 else List.replicate 8 0
  (b1 ++ mac) ++ octs (beOf 2 (crcMsb 16 0x1021 0xFFFF (b1 ++ mac)))
def frameOf (b : Octets) : RxFrame := { lane := 0, slot := 0, offset := 0, rssi := 50, captured := false, clean := true, synced := true, fault := false, body := b }
theorem body_length : (body 0x11 true).length = 41 := by decide +kernel

theorem test_meets_ResponseFramesAreJudged :
    (∃ (s : State) (r : PloughRound) (p : Plan) (f : RxFrame), s.Calm ∧ s.lf.round = some r ∧ s.uhf.plan = some p ∧ r.full = true ∧ r.listening = true ∧ f.lane.val < p.count ∧ r.lost.getLsbD f.lane.val = false ∧ f.synced = true ∧ f.clean = true ∧ f.slot.val = r.k) ∧
    (∃ (s : State) (r : PloughRound) (p : Plan) (f : RxFrame) (key : Octets), s.Calm ∧ s.lf.round = some r ∧ s.uhf.plan = some p ∧ r.full = true ∧ r.listening = true ∧ f.lane.val < p.count ∧ r.lost.getLsbD f.lane.val = false ∧ f.synced = true ∧ f.clean = true ∧ f.slot.val = r.k ∧ p.hear r.rb f = .passed ∧ r.key = some key ∧ r.erased = false ∧ s.quarantined = false ∧ f.fault = false ∧ s.crd.pos? (bodyId f.body) = none) ∧
    (∃ (s : State) (r : PloughRound) (p : Plan) (f : RxFrame) (key : Octets) (pos : Nat) (ws : List Word) (m : Member), s.Calm ∧ s.lf.round = some r ∧ s.uhf.plan = some p ∧ r.full = true ∧ r.listening = true ∧ f.lane.val < p.count ∧ r.lost.getLsbD f.lane.val = false ∧ f.synced = true ∧ f.clean = true ∧ f.slot.val = r.k ∧ p.hear r.rb f = .passed ∧ r.key = some key ∧ r.erased = false ∧ r.stale = false ∧ s.quarantined = false ∧ f.fault = false ∧ s.RosterAt (bodyId f.body) pos ws ∧ m = Member.ofWords ws ∧ m.id = bodyId f.body) ∧
    (∃ (s : State) (r : PloughRound) (p : Plan) (x : Nat), s.Calm ∧ s.lf.round = some r ∧ s.uhf.plan = some p ∧ r.full = true ∧ r.listening = true ∧ r.k = 0 ∧ r.m = 0 ∧ r.hint = false ∧ x < fld s.uhf.roundCfg 0 5 ∧ bit s.uhf.roundCfg 5 = false ∧ r.sc ≠ 1) ∧
    (∃ (s : State) (r : PloughRound) (p : Plan), s.Calm ∧ s.lf.round = some r ∧ s.uhf.plan = some p ∧ r.full = true ∧ r.listening = true ∧ r.k = 0 ∧ r.m = 0 ∧ r.sc ≠ 2 ∧ 0 < p.sc ∧ 0 < s.chances r p ∧ s.coexBlanked 1 = false) :=
  ⟨⟨hears, rFull, plan1, frameOf (List.replicate 41 0), by decide, by first | rfl | decide, by first | rfl | decide, by decide, by decide, by decide, by decide, by decide, by decide, by decide⟩,
   ⟨hears, rFull, plan1, frameOf (body 0x22 false), key1, by decide, by first | rfl | decide, by first | rfl | decide, by decide, by decide, by decide, by decide, by decide, by decide, by decide, by decide +kernel, by decide, by decide, by decide, by decide, by decide⟩,
   ⟨hears, rFull, plan1, frameOf (body 0x11 true), key1, 7, rider.words, rider, by decide, by first | rfl | decide, by first | rfl | decide, by decide, by decide, by decide, by decide, by decide, by decide, by decide, by decide +kernel, by decide, by decide, by decide, by decide, by decide, by decide +kernel, by decide, by decide +kernel⟩,
   ⟨hears, rFull, plan1, 0, by decide, by first | rfl | decide, by first | rfl | decide, by decide, by decide, by decide, by decide, by decide, by decide, by decide, by decide⟩,
   ⟨hears, rFull, plan1, by decide, by first | rfl | decide, by first | rfl | decide, by decide, by decide, by decide, by decide, by decide, by decide, by decide, by decide⟩⟩

def pollDue : State := let s := lfSet.modLf (fun l => { l with base := 0, pollCfg := put 0 16 100, origin := 0 })
  { s with aon := { s.aon with tick := BitVec.ofNat 40 (3 * s.lf.interval) } }
def pollBusy : State := pollDue.modLf (fun l => { l with round := some (pollDue.newRound false 0 0) })
def rideDue : State := let s := pollDue
  { s with lf := { s.lf with ride := true, pollCfg := s.lf.pollCfg ||| put 32 8 2, origin := 0 }, uhf := { s.uhf with unit := .on, plan := some plan1 } }
def fullDue : State := rideDue.modLf (fun l => { l with want := some 2 })
def holds : State := pollDue.modLf (fun l => { l with holdoff := some 0, cfg := setFld l.cfg 33 7 0 })
def coil3 : CoilMeas := { coil := 3, phase := 5, ampl := 700, q := 20, trip := false }
def pulseDueS : State := { pollDue with aon := { pollDue.aon with tick := 99999999 } }

theorem test_meets_PloughRoundsStart :
    (∃ (s : State), s.Calm ∧ s.lf.unit = .on ∧ s.lf.ride = false ∧ s.atPoint = true ∧ s.pwr.state = .run ∧ s.sys.faultBoot = false ∧ s.lf.idleSince ≤ s.aon.calendar ∧ s.aon.calendar.toNat - s.lf.idleSince.toNat < fld s.lf.cfg 7 8 * dayUnits ∧ s.ploughFree = true ∧ s.lf.known = true ∧ (s.sq 0).image.entry0 < (s.sq 0).image.code.length) ∧
    (∃ (s : State), s.Calm ∧ s.lf.unit = .on ∧ s.lf.ride = false ∧ s.atPoint = true ∧ s.pwr.state = .run ∧ s.sys.faultBoot = false ∧ s.lf.idleSince ≤ s.aon.calendar ∧ s.aon.calendar.toNat - s.lf.idleSince.toNat < fld s.lf.cfg 7 8 * dayUnits ∧ s.ploughFree = false) ∧
    (∃ (s : State), s.Calm ∧ (s.atPoint = false ∨ s.lf.unit ≠ .on)) ∧
    (∃ (s : State), s.Calm ∧ s.lf.unit = .on ∧ s.lf.ride = true ∧ s.atPoint = true ∧ s.pwr.state = .run ∧ s.sys.faultBoot = false ∧ s.ploughFree = true ∧ s.uhf.unit = .on ∧ s.uhf.planNext = none ∧ s.drbgBlocked = none ∧ s.lf.known = true ∧ s.lf.anyFrameCoil = true ∧ s.dutyOk s.fullOnUs = true ∧ (s.sq 0).image.entry1 < (s.sq 0).image.code.length) ∧
    (∃ (s : State) (c : Nat), s.Calm ∧ s.lf.want = some c ∧ s.lf.unit = .on ∧ s.pwr.state = .run ∧ s.pwr.start = none ∧ s.pwr.admits = true ∧ s.ploughFree = true ∧ s.uhf.unit = .on ∧ s.uhf.planNext = none ∧ s.drbgBlocked = none ∧ s.lf.known = true ∧ s.lf.anyFrameCoil = true ∧ s.dutyOk s.fullOnUs = true ∧ (s.sq 0).image.entry1 < (s.sq 0).image.code.length) ∧
    (∃ (s : State) (x : Word), s.Calm ∧ s.lf.holdoff = some x ∧ fld s.lf.cfg 33 7 * 16384 ≤ s.age x) ∧
    (∃ (s : State) (m : CoilMeas), s.Calm ∧ s.lfGap = true ∧ s.pulseDue m.coil = true ∧ s.sys.faultBoot = false ∧ s.pwr.state = .run ∧ s.lf.due = none ∧ s.dutyOk (s.lf.us 64) = true) :=
  ⟨⟨pollDue, by decide, by decide, by decide, by decide, by decide, by decide, by decide, by decide, by decide, by decide +kernel, by decide⟩,
   ⟨pollBusy, by decide, by decide, by decide, by decide, by decide, by decide, by decide, by decide, by decide⟩,
   ⟨lfOffU, by decide, by decide⟩,
   ⟨rideDue, by decide, by decide, by decide, by decide, by decide, by decide, by decide, by decide, by decide, by decide, by decide +kernel, by decide +kernel, by decide +kernel, by decide⟩,
   ⟨fullDue, 2, by decide, by first | rfl | decide, by decide, by decide, by decide, by decide, by decide, by decide, by decide, by decide, by decide +kernel, by decide +kernel, by decide +kernel, by decide⟩,
   ⟨holds, 0, by decide, by first | rfl | decide, by decide⟩,
   ⟨pulseDueS, coil3, by decide, by decide, by decide +kernel, by decide, by decide, by decide, by decide⟩⟩

/-- Sequencer `n` of `s` about to run `w`, long into its round. -/
def lateIn (n : Fin 3) (w : Word) (s : State) : State :=
  let s := s.modSeq n (fun q => { q with image := { q.image with code := [0, w, 0, 0] }, inRound := true, pc := 1, regs := #v[0, 1, 2, 3, 14, 15, 16, 17], entered := 0, lines := 5, stack := [1] })
  { s with aon := { s.aon with tick := 5000 } }
def headW : Word := tw 0x1E 0 0 0 0
def haltW : Word := tw 0x1F 0 0 0 0
def pollRun : PloughRound := pollDue.newRound false 0 0
def pollIn (r : PloughRound) : State := pollDue.modLf (fun l => { l with round := some r })
def pollAir : PloughRound := { pollRun with onAir := some .wake }
def rangeW : Word := tw 0x1B 4 0 0 0
def rr1 : RangeRound := (sess 0).newRound 0 false 0 sessKey
def rangeWaits : State := (uwbOpened 0).modUwb (fun u => { u with round := some rr1 })
def emitW (n : Nat) : Word := tw 0x1C 4 n 0 0
def emptyPeriod : Period := { period1 with sheaf := Vector.replicate 4 .none }

theorem test_meets_RoundsEndAtTheirHeadlands :
    (∃ (s : State) (w : Word) (r : PloughRound), s.Calm ∧ s.fetchOp 0 0x1E = some w ∧ s.lf.round = some r ∧ r.onAir = none ∧ r.full = false ∧ s.lf.changes = []) ∧
    (∃ (s : State) (w : Word), s.Calm ∧ s.fetchOp 1 0x1E = some w) ∧
    (∃ (s : State) (w : Word), s.Calm ∧ s.fetchOp 2 0x1E = some w ∧ s.sheafOnWire = false) ∧
    (∃ (s : State) (w : Word) (r : PloughRound), s.Calm ∧ s.fetchOp 0 0x1F = some w ∧ (s.sq 0).unit = .on ∧ s.lf.round = some r ∧ r.onAir = none ∧ r.full = false ∧ s.lf.changes = []) ∧
    (∃ (s : State) (w : Word), s.Calm ∧ s.fetchOp 1 0x1F = some w ∧ (s.sq 1).unit = .on) ∧
    (∃ (s : State) (n : Fin 3), s.Calm ∧ n ≠ 0 ∧ (s.sq n).inRound = true ∧ (s.sq n).ending = false ∧ (s.sq n).next = none ∧ s.seq.signed = false ∧ s.deadlineMs n * 32768 ≤ (s.age (s.sq n).entered + 1) * 1000 ∧ s.sheafOnWire = false ∧ (∀ q, s.hrv.period = some q → q.withheld = false)) ∧
    (∃ (s : State) (n : Fin 3), s.Calm ∧ n ≠ 0 ∧ (s.sq n).inRound = true ∧ (s.sq n).ending = false ∧ (s.sq n).next = none ∧ s.seq.signed = false ∧ s.deadlineMs n * 32768 ≤ (s.age (s.sq n).entered + 1) * 1000 ∧ s.sheafOnWire = false ∧ (∀ q, s.hrv.period = some q → q.withheld = false)) ∧
    (∃ (s : State) (r : PloughRound), s.Calm ∧ (s.sq 0).inRound = true ∧ (s.sq 0).ending = false ∧ s.lf.round = some r ∧ s.deadlineMs 0 * 32768 ≤ (s.age (s.sq 0).entered + 1) * 1000) ∧
    (∃ (s : State) (r : PloughRound), s.Calm ∧ (s.sq 0).inRound = true ∧ (s.sq 0).ending = false ∧ s.lf.round = some r ∧ s.deadlineMs 0 * 32768 ≤ (s.age (s.sq 0).entered + 1) * 1000) ∧
    (∃ (s : State) (n : Fin 3), s.Calm ∧ ((s.sq n).inRound = false ∨ (s.age (s.sq n).entered + 1) * 1000 < s.deadlineMs n * 32768)) ∧
    (∃ (s : State) (w : Word) (r : RangeRound), s.Calm ∧ s.fetchOp 1 0x1B = some w ∧ s.uwb.round = some r ∧ ((s.sq 1).reg (tRb w)).toNat = r.session.val ∧ (s.sess r.session).isOpen = true ∧ r.ran = false ∧ r.isOver = false ∧ (s.sess r.session).role ≠ 1) ∧
    (∃ (s : State) (w : Word), s.Calm ∧ s.fetchOp 1 0x1B = some w ∧ (s.sq 1).pc + 1 < (s.sq 1).image.code.length ∧ (∀ r, s.uwb.round = some r → ((s.sq 1).reg (tRb w)).toNat ≠ r.session.val ∨ r.ran = true)) ∧
    (∃ (s : State) (w : Word) (p : Period) (n : Fin 4) (pay : Octets), s.Calm ∧ s.fetchOp 2 0x1C = some w ∧ s.hrv.period = some p ∧ ((s.sq 2).reg (tRb w)).toNat = n.val ∧ p.nextRx ≤ n.val ∧ p.sheaf[n] = .held pay) ∧
    (∃ (s : State) (w : Word) (p : Period) (n : Fin 4), s.Calm ∧ s.fetchOp 2 0x1C = some w ∧ (s.sq 2).pc + 1 < (s.sq 2).image.code.length ∧ s.hrv.period = some p ∧ ((s.sq 2).reg (tRb w)).toNat = n.val ∧ p.sheaf[n] = .none) :=
  ⟨⟨lateIn 0 headW (pollIn pollRun), headW, pollRun, by decide, by decide, by first | rfl | decide, by decide, by decide, by decide⟩,
   ⟨lateIn 1 headW rangeWaits, headW, by decide, by decide⟩,
   ⟨lateIn 2 headW inPeriod, headW, by decide, by decide, by decide⟩,
   ⟨lateIn 0 haltW (pollIn pollRun), haltW, pollRun, by decide, by decide, by decide, by first | rfl | decide, by decide, by decide, by decide⟩,
   ⟨lateIn 1 haltW rangeWaits, haltW, by decide, by decide, by decide⟩,
   ⟨lateIn 1 headW rangeWaits, 1, by decide, by decide, by decide, by decide, by decide, by decide, by decide, by decide, opt_all (by decide)⟩,
   ⟨lateIn 2 headW (rxOn.modHrv (fun v => { v with period := some emptyPeriod })), 2, by decide, by decide, by decide, by decide, by decide, by decide, by decide, by decide, opt_all (by decide)⟩,
   ⟨lateIn 0 headW (pollIn pollRun), pollRun, by decide, by decide, by decide, by first | rfl | decide, by decide⟩,
   ⟨lateIn 0 headW (pollIn pollAir), pollAir, by decide, by decide, by decide, by first | rfl | decide, by decide⟩,
   ⟨{ lateIn 0 headW (pollIn pollRun) with aon := { (lateIn 0 headW (pollIn pollRun)).aon with tick := 5 } }, 0, by decide, by decide⟩,
   ⟨lateIn 1 rangeW rangeWaits, rangeW, rr1, by decide, by decide, by first | rfl | decide, by decide, by decide, by decide, by decide, by decide⟩,
   ⟨lateIn 1 rangeW lfSet, rangeW, by decide, by decide, by decide, fun r e => nomatch e⟩,
   ⟨lateIn 2 (emitW 1) inPeriod, emitW 1, period1, 1, [1, 2], by decide, by decide, by first | rfl | decide, by decide, by decide, by decide⟩,
   ⟨lateIn 2 (emitW 2) inPeriod, emitW 2, period1, 2, by decide, by decide, by decide, by first | rfl | decide, by decide, by decide⟩⟩

def lfUnit (u : UnitState) : State := (up .service).modLf (fun l => { l with unit := u })
def uhfUnit (u : UnitState) : State := (up .service).modUhf (fun l => { l with unit := u })
def seqUnit (u : UnitState) : State := (up .service).modSeq 1 (fun q => { q with unit := u })
def rxStarting : State := rxConfigured.modRx 1 (fun r => { r with unit := .starting, next := 5, blockEnd := 6 })
def waitingLf : State := lfSet.modLf (fun l => { l with changes := [.channels 3 15 1 5 6 1] })
def limits : State := { up .service with nvm := { (up .service).nvm with reg := (up .service).nvm.reg.map (fun w => w ||| 0x8000000000) } }

theorem test_meets_UnitsAndLimitsComeIntoForce :
    (∃ (s : State), s.Calm ∧ s.hst.deferred = [] ∧ s.lf.unit = .starting) ∧
    (∃ (s : State), s.Calm ∧ s.hst.deferred = [] ∧ s.lf.unit = .stopping ∧ s.lf.round = none) ∧
    (∃ (s : State), s.Calm ∧ s.hst.deferred = [] ∧ s.uhf.unit = .stopping ∧ s.fullRound = false) ∧
    (∃ (s : State), s.Calm ∧ s.hst.deferred = [] ∧ s.uhf.unit = .starting) ∧
    (∃ (s : State) (n : Fin 3), s.Calm ∧ s.hst.deferred = [] ∧ (s.sq n).unit = .starting) ∧
    (∃ (s : State) (n : Fin 3), s.Calm ∧ s.hst.deferred = [] ∧ (s.sq n).unit = .stopping ∧ (s.sq n).inRound = false) ∧
    (∃ (s : State) (n : Fin 4), s.Calm ∧ s.hst.deferred = [] ∧ (s.rx n).unit = .starting ∧ (s.rx n).next < (s.rx n).blockEnd) ∧
    (∃ (s : State), s.Calm ∧ s.lf.round = none) ∧
    (∃ (s : State), s.Calm ∧ s.lf.round.isSome = true) ∧
    (∃ (s : State), s.Calm ∧ s.lf.round = none ∧ s.nvm.reg.getD 1 0 ≠ s.nvm.regLf ∧ State.lfLegal { s with nvm := { s.nvm with regLf := s.nvm.reg.getD 1 0 } } s.lf = true) ∧
    (∃ (s : State), s.Calm ∧ s.fullRound = false ∧ (s.nvm.reg.drop 2).take 8 ≠ s.nvm.regUhf) ∧
    (∃ (s : State), s.Calm ∧ s.uwb.round = none ∧ s.nvm.reg.getD 10 0 ≠ s.nvm.regUwb ∧ (∀ n, (s.sess n).isOpen = false)) :=
  ⟨⟨lfUnit .starting, by decide, by decide, by decide⟩,
   ⟨lfUnit .stopping, by decide, by decide, by decide, by decide⟩,
   ⟨uhfUnit .stopping, by decide, by decide, by decide, by decide⟩,
   ⟨uhfUnit .starting, by decide, by decide, by decide⟩,
   ⟨seqUnit .starting, 1, by decide, by decide, by decide⟩,
   ⟨seqUnit .stopping, 1, by decide, by decide, by decide, by decide⟩,
   ⟨rxStarting, 1, by decide, by decide, by decide, by decide⟩,
   ⟨waitingLf, by decide, by decide⟩,
   ⟨pollBusy, by decide, by decide⟩,
   ⟨limits, by decide, by decide, by decide, by decide⟩,
   ⟨limits, by decide, by decide, by decide⟩,
   ⟨limits, by decide, by decide, by decide, by decide⟩⟩

def keyIn (slot form usage : Nat) : Octets := [BitVec.ofNat 8 slot, BitVec.ofNat 8 form, BitVec.ofNat 8 usage, 0, 1, 0, 0, 0, 0, 0] ++ List.replicate 16 5
def onUart : State := (up .service).modCtx 0 (fun c => { c with port := .uartC })
def hU : Hdr := { h0 with port := .uartC }
def cls1 : State := { up .service with cph := { (up .service).cph with slots := (up .service).cph.slots.set 20 { slot7 1 with cls := 1 } } }
def derive20 : Octets := [20, 30, 1, 1, 1, 0, 0, 0, 0, 0, 3, 2, 1, 2, 3, 4, 5]

theorem test_meets_KeySlotsAreKept :
    (∃ (s : State) (h : Hdr) (p : Octets), s.Ready .cphKeyWrite h p .none ∧ (h.port = .spiA ∨ h.port = .spiB) ∧ p8 p 1 = 0 ∧ p8 p 0 ≠ 0 ∧ (s.slotAhead (p8 p 0)).forbids (s.ctx h.ctx).role = false ∧ badAttributes (p8 p 0) (p8 p 2) (p8 p 3) (p8 p 4) (p8 p 5) (p8 p 6) (p8 p 7) = false ∧ (p8 p 7 = 1 → p16 p 8 = (s.slot (p8 p 0)).gen) ∧ s.quarantined = false) ∧
    (∃ (s : State) (h : Hdr) (p : Octets), s.Ready .cphKeyWrite h p .none ∧ (h.port = .uartC ∨ h.port = .net) ∧ p8 p 1 = 0) ∧
    (∃ (s : State) (h : Hdr) (p : Octets) (k : Octets), s.Ready .cphKeyDerive h p .none ∧ p8 p 1 ≠ 0 ∧ (s.slotAhead (p8 p 1)).forbids (s.ctx h.ctx).role = false ∧ badAttributes (p8 p 1) (p8 p 2) (p8 p 3) (p8 p 4) (p8 p 5) (p8 p 6) (p8 p 7) = false ∧ (p8 p 7 = 1 → p16 p 8 = (s.slot (p8 p 1)).gen) ∧ s.quarantined = false ∧ 1 ≤ p8 p 10 ∧ p8 p 10 ≤ 32 ∧ p8 p 11 ≤ 32 ∧ s.cph.katModes.getLsbD 0 = false ∧ s.latch (p8 p 0) = .key k ∧ (s.slot (p8 p 0)).usage = 4) ∧
    (∃ (s : State) (h : Hdr) (p : Octets), s.Ready .cphKeyErase h p .none ∧ p8 p 1 = 0 ∧ p8 p 0 ≠ 0 ∧ p8 p 0 ≠ 15 ∧ (s.slotAhead (p8 p 0)).forbids (s.ctx h.ctx).role = false) ∧
    (∃ (s : State) (h : Hdr) (p : Octets), s.Ready .cphKeyErase h p .none ∧ p8 p 1 = 1 ∧ (s.ctx h.ctx).role = .fleet) ∧
    (∃ (s : State) (h : Hdr) (p : Octets), s.Ready .cphKeyInfo h p .none ∧ 1 ≤ p8 p 1 ∧ p8 p 1 ≤ 32 ∧ p8 p 0 + p8 p 1 ≤ 256) :=
  ⟨⟨up .service, h0, keyIn 30 0 1, by decide, by decide, by decide, by decide, by decide, by decide, by decide, by decide⟩,
   ⟨onUart, hU, keyIn 30 0 1, by decide, by decide, by decide⟩,
   ⟨withKey 20 4 (up .service), h0, derive20, key7, by decide, by decide, by decide, by decide, by decide, by decide, by decide, by decide, by decide, by decide, by first | rfl | decide, by decide⟩,
   ⟨cls1, h0, [20, 0], by decide, by decide, by decide, by decide, by decide⟩,
   ⟨up .fleet, h0, [0, 1], by decide, by decide, by decide⟩,
   ⟨up .service, h0, [250, 6], by decide, by decide, by decide, by decide⟩⟩

def runOf (ctx mode op flags width tag iv aad : Nat) (ivo aado d : Octets) : Octets :=
  ([ctx, 20, mode, op, flags, width, tag, iv].map (BitVec.ofNat 8)) ++ leOf 2 aad ++ leOf 2 d.length ++ ivo ++ aado ++ d
def cbcRun : Octets := runOf 0xFF 0 0 0 0 0 16 0 (List.replicate 16 1) [] (List.replicate 32 2)
def ctrInit : Octets := runOf 3 3 0 1 1 0 16 0 (List.replicate 16 1) [] (List.replicate 32 2)
def macCheck : Octets := runOf 0xFF 4 3 0 0 8 0 0 [] [] (List.replicate 40 2)
def ciph (u : Nat) : State := withKey 20 u (up .service)
def outp (p iv : Octets) : Octets × Octets × Octets × Nat := match runChunk key7 (runArgs p) iv [] 0 with | .out o c g m => (o, c, g, m) | _ => ([], [], [], 0)
def macCtx : CphCtx := { (ciph 3).cctx 3 with inUse := true, owner := 0, mode := 4, op := 2, slot := 20, gen := 1, chain := List.replicate 16 5, part := [6, 7], count := 32 }
def withCtx : State := withKey 0 5 ((ciph 3).putCctx 3 macCtx)
def ctxGone : State := withKey 0 5 ((ciph 3).putCctx 3 { (ciph 3).cctx 3 with cgen := 1 })
def wrapHd : Octets := wrapHeader 3 1 ctxGone.ctxEpoch
def wrapped : Octets := wrapHd ++ kwWrap key7 (wrapHd ++ macCtx.wrapState)
def restored : CphCtx := CphCtx.unwrapState macCtx.wrapState 0 2
def quar (t : Word) : State := { up .service with cph := { (up .service).cph with quarantine := some 0, faults := [1, 2] }, aon := { (up .service).aon with tick := t } }
def drbgIn (d : DrbgState) (n : Nat) : State := { up .service with cph := { (up .service).cph with drbg := d, requests := n, restarts := 2 } }

theorem test_meets_CipherOperationsRun :
    (∃ (s : State) (h : Hdr) (p : Octets) (o : Octets) (c : Octets) (g : Octets) (k : Octets) (m : Nat) (a : RunArgs), s.Ready .cphRun h p .none ∧ a = runArgs p ∧ a.ctx = 0xFF ∧ a.bad = false ∧ a.badLength = false ∧ a.drbg = false ∧ (a.mode = 4 → s.cph.katModes.getLsbD 0 = false) ∧ (a.mode = 5 → s.cph.katModes.getLsbD 1 = false) ∧ s.latch a.slot = .key k ∧ (s.slot a.slot).usage = usageOf a.op ∧ runChunk k a (if a.mode = 4 then List.replicate 16 0 else a.iv) [] 0 = .out o c g m) ∧
    (∃ (s : State) (h : Hdr) (p : Octets) (k : Octets) (a : RunArgs), s.Ready .cphRun h p .none ∧ a = runArgs p ∧ a.ctx = 0xFF ∧ a.bad = false ∧ a.badLength = false ∧ a.drbg = false ∧ (a.mode = 4 → s.cph.katModes.getLsbD 0 = false) ∧ (a.mode = 5 → s.cph.katModes.getLsbD 1 = false) ∧ s.latch a.slot = .key k ∧ (s.slot a.slot).usage = usageOf a.op ∧ runChunk k a (if a.mode = 4 then List.replicate 16 0 else a.iv) [] 0 = .fail .authFail) ∧
    (∃ (s : State) (h : Hdr) (p : Octets) (o : Octets) (c : Octets) (g : Octets) (k : Octets) (m : Nat) (a : RunArgs), s.Ready .cphRun h p .none ∧ a = runArgs p ∧ a.ctx < 64 ∧ a.init = true ∧ a.final = false ∧ (s.cctx a.ctx).inUse = false ∧ a.bad = false ∧ a.badLength = false ∧ a.drbg = false ∧ a.mode ≤ 3 ∧ s.latch a.slot = .key k ∧ (s.slot a.slot).usage = usageOf a.op ∧ runChunk k a a.iv [] 0 = .out o c g m) ∧
    (∃ (s : State) (h : Hdr) (p : Octets) (x : CphCtx), s.Ready .cphCtxSave h p .none ∧ p8 p 0 = 0 ∧ p8 p 1 ≤ 63 ∧ p8 p 2 ≤ 63 ∧ x = s.cctx (p8 p 1) ∧ x.inUse = true ∧ x.owner = h.ctx ∧ (x.mode = 4 ∨ x.op = 1) ∧ (s.cctx (p8 p 2)).inUse = false) ∧
    (∃ (s : State) (h : Hdr) (p : Octets) (x : CphCtx) (k : Octets) (hd : Octets), s.Ready .cphCtxSave h p .none ∧ p8 p 0 = 1 ∧ p8 p 1 ≤ 63 ∧ x = s.cctx (p8 p 1) ∧ x.inUse = true ∧ x.owner = h.ctx ∧ x.cgen < 0xFFFF ∧ s.latch 0 = .key k ∧ hd = wrapHeader (p8 p 1) (x.cgen + 1) s.ctxEpoch) ∧
    (∃ (s : State) (h : Hdr) (p : Octets) (x : CphCtx) (y : CphCtx) (k : Octets) (st : Octets), s.Ready .cphCtxRestore h p .none ∧ p8 p 1 = 1 ∧ p8 p 0 ≤ 63 ∧ p8 p 7 = 0 ∧ p24 p 4 = s.ctxEpoch ∧ x = s.cctx (p8 p 0) ∧ p16 p 2 = x.cgen ∧ x.inUse = false ∧ s.latch 0 = .key k ∧ kwUnwrap k (p.drop 8) = some (p.take 8 ++ st) ∧ y = CphCtx.unwrapState st h.ctx ((x.cgen + 1) % 65536) ∧ (s.slot y.slot).st = .written ∧ (s.slot y.slot).gen = y.gen) ∧
    (∃ (s : State) (h : Hdr) (p : Octets), s.Ready .cphRandom h p .none ∧ 1 ≤ p16 p 0 ∧ p16 p 0 ≤ 1000 ∧ p8 p 2 = 0 ∧ s.drbgBlocked = none) ∧
    (∃ (s : State) (x : Word), s.Calm ∧ s.cph.quarantine = some x ∧ 32768 ≤ s.age x) ∧
    (∃ (s : State) (x : Word), s.Calm ∧ s.cph.quarantine = some x ∧ s.age x < 32768) ∧
    (∃ (s : State), s.Calm ∧ s.cph.drbg = .ready ∧ (32768 ≤ s.cph.requests ∨ 19660800 ≤ s.age s.cph.reseedAt)) ∧
    (∃ (s : State), s.Calm ∧ s.cph.drbg = .reseeding) ∧
    (∃ (s : State), s.Calm ∧ s.cph.drbg = .reseeding ∧ s.cph.restarts = 2) :=
  ⟨⟨ciph 1, h0, cbcRun, (outp cbcRun (List.replicate 16 1)).1, (outp cbcRun (List.replicate 16 1)).2.1, (outp cbcRun (List.replicate 16 1)).2.2.1, key7, (outp cbcRun (List.replicate 16 1)).2.2.2, runArgs cbcRun, by decide, by decide, by decide, by decide, by decide, by decide, by decide, by decide, by first | rfl | decide, by decide, by decide +kernel⟩,
   ⟨ciph 3, h0, macCheck, key7, runArgs macCheck, by decide, by decide, by decide, by decide, by decide, by decide, by decide, by decide, by first | rfl | decide, by decide, by decide +kernel⟩,
   ⟨ciph 1, h0, ctrInit, (outp ctrInit (List.replicate 16 1)).1, (outp ctrInit (List.replicate 16 1)).2.1, (outp ctrInit (List.replicate 16 1)).2.2.1, key7, (outp ctrInit (List.replicate 16 1)).2.2.2, runArgs ctrInit, by decide, by decide, by decide, by decide, by decide, by decide, by decide, by decide, by decide, by decide, by first | rfl | decide, by decide, by decide +kernel⟩,
   ⟨withCtx, h0, [0, 3, 63], macCtx, by decide, by decide, by decide, by decide, by decide, by decide, by decide, by decide, by decide⟩,
   ⟨withCtx, h0, [1, 3, 0], macCtx, key7, wrapHd, by decide, by decide, by decide, by decide, by decide, by decide, by decide, by first | rfl | decide, by decide⟩,
   ⟨ctxGone, h0, wrapped, ctxGone.cctx 3, restored, key7, macCtx.wrapState, by decide, by decide, by decide, by decide, by decide, by decide, by decide, by decide, by first | rfl | decide, by decide +kernel, by decide, by decide, by decide⟩,
   ⟨up .service, h0, [9, 0, 0], by decide, by decide, by decide, by decide, by decide⟩,
   ⟨quar 32768, 0, by decide, by first | rfl | decide, by decide⟩,
   ⟨quar 32767, 0, by decide, by first | rfl | decide, by decide⟩,
   ⟨drbgIn .ready 32768, by decide, by decide, by decide⟩,
   ⟨drbgIn .reseeding 5, by decide, by decide⟩,
   ⟨drbgIn .reseeding 5, by decide, by decide, by decide⟩⟩

def servoOff : State := (up .service).modNtc (fun n => { n with servoCfg := setFld n.servoCfg 0 1 0 })
def adj (f : Nat) : Octets := [3] ++ leOf 4 f ++ leOf 8 (2 ^ 39)
def stepTo : Octets := [0] ++ leOf 6 1000 ++ leOf 4 999999999 ++ leOf 8 0
def stepBy : Octets := [1] ++ leOf 6 0 ++ leOf 4 0 ++ leOf 8 12345
def noSlots : State := ((up .service).modTrig 15 (fun t => { t with armed := false })).modNtc (fun n => { n with ns := 55 })
def nonced (t : Word) : State := let s := withKey 14 3 (up .service)
  { s with crd := { s.crd with self := 0x11 }, aon := { s.aon with nonce := 99, nonceAt := some 0, calendar := 50, tick := t } }
def attHead (v : Nat) : Octets := leOf 5 v ++ leOf 5 0x11 ++ leOf 3 State.reset.crd.domain ++ leOf 3 0 ++ leOf 8 99
def att (v : Nat) : Octets := attHead v ++ leOf 8 (cmac64 key7 (attHead v)).toNat
def slewing : State := servoOff.modNtc (fun n => { n with slew := 5 })
def captEn : State := (up .service).modNtc (fun n => { n with capCfg := 0xD })
theorem noSlots_off : ∀ n, (noSlots.trig n).armed = false := by decide
theorem one_shot_none : ∀ n, ((up .service).trig n).armed = true → ((up .service).trig n).period ≠ 0 := by decide

theorem test_meets_ClocksAreKept :
    (∃ (s : State) (h : Hdr) (p : Octets), s.Ready .ntcConfig h p .none ∧ p8 p 0 ≤ 5 ∧ ntcBad (p8 p 0) (pW p 1) = false) ∧
    (∃ (s : State) (h : Hdr) (p : Octets), s.Ready .ntcRead h p .none) ∧
    (∃ (s : State) (h : Hdr) (p : Octets), s.Ready .ntcAdjust h p .none ∧ p8 p 0 ≤ 3 ∧ (pBit p 0 0 = true → -500000 ≤ pS p 1 4 ∧ pS p 1 4 ≤ 500000 ∧ bit s.ntc.servoCfg 0 = false) ∧ (pBit p 0 1 = true → (pS p 5 8).natAbs ≤ 2 ^ 39)) ∧
    (∃ (s : State) (h : Hdr) (p : Octets), s.Ready .ntcAdjust h p .none ∧ p8 p 0 ≤ 3 ∧ pBit p 0 0 = true ∧ (500000 : Int) < pS p 1 4) ∧
    (∃ (s : State) (h : Hdr) (p : Octets), s.Ready .ntcStep h p .none ∧ p8 p 0 = 0 ∧ p32 p 7 < 1000000000 ∧ (∀ n, (s.trig n).armed = true → (s.trig n).period ≠ 0)) ∧
    (∃ (s : State) (h : Hdr) (p : Octets), s.Ready .ntcStep h p .none ∧ p8 p 0 = 1 ∧ (pS p 11 8).natAbs ≤ 2 ^ 39 ∧ 0 ≤ (s.ntc.ns : Int) + pS p 11 8 ∧ (∀ n, (s.trig n).armed = false)) ∧
    (∃ (s : State) (h : Hdr) (p : Octets), s.Ready .ntcCaptureRead h p .none ∧ p8 p 0 = 3) ∧
    (∃ (s : State) (h : Hdr) (p : Octets) (k : Octets), s.Ready .ntcCalendarAttest h p .none ∧ s.cph.drbg ≠ .error ∧ s.cph.katModes.getLsbD 0 = false ∧ s.latch 14 = .key k ∧ (cmac64 k (p.take 24)).toNat = p64 p 24 ∧ pW p 5 = s.crd.self ∧ p24 p 10 = s.crd.domain ∧ p24 p 13 = 0 ∧ s.nonceLife.isSome = true ∧ p64 p 16 = s.aon.nonce.toNat ∧ s.aon.calendar ≤ pW p 0) ∧
    (∃ (s : State) (h : Hdr) (p : Octets) (k : Octets), s.Ready .ntcCalendarAttest h p .none ∧ s.cph.drbg ≠ .error ∧ s.cph.katModes.getLsbD 0 = false ∧ s.latch 14 = .key k ∧ (cmac64 k (p.take 24)).toNat = p64 p 24 ∧ pW p 5 = s.crd.self ∧ p24 p 10 = s.crd.domain ∧ p24 p 13 = 0 ∧ s.nonceLife.isSome = true ∧ p64 p 16 = s.aon.nonce.toNat ∧ pW p 0 < s.aon.calendar) ∧
    (∃ (s : State) (h : Hdr) (p : Octets) (l : Nat), s.Ready .ntcCalendarRead h p .none ∧ s.cph.drbg ≠ .error ∧ s.nonceLife = some l) ∧
    (∃ (s : State) (h : Hdr) (p : Octets), s.Ready .ntcCalendarRead h p .none ∧ s.nonceLife = none ∧ s.drbgBlocked = none) ∧
    (∃ (s : State) (x : Word), s.Calm ∧ s.aon.nonceAt = some x ∧ 9830400 ≤ s.age x) ∧
    (∃ (s : State), s.Calm ∧ s.ntc.slew ≠ 0 ∧ s.ntc.slew.natAbs ≤ s.ntc.slewStep.natAbs) ∧
    (∃ (s : State) (i : Fin 2) (b : Bool), s.Calm ∧ s.pwr.state = .run ∧ (fld s.ntc.capCfg (2 * i.val) 2 = 3 ∨ fld s.ntc.capCfg (2 * i.val) 2 = (if b then 1 else 2))) ∧
    (∃ (s : State) (i : Fin 2) (b : Bool), s.Calm ∧ s.pwr.state = .run ∧ (fld s.ntc.capCfg (2 * i.val) 2 = 3 ∨ fld s.ntc.capCfg (2 * i.val) 2 = (if b then 1 else 2))) :=
  ⟨⟨up .service, h0, [4] ++ leOf 5 77, by decide, by decide, by decide⟩,
   ⟨up .service, h0, [], by decide⟩,
   ⟨servoOff, h0, adj 500000, by decide, by decide, by decide, by decide⟩,
   ⟨servoOff, h0, adj 500001, by decide, by decide, by decide, by decide⟩,
   ⟨up .service, h0, stepTo, by decide, by decide, by decide, by decide⟩,
   ⟨noSlots, h0, stepBy, by decide, by decide, by decide, by decide, by decide⟩,
   ⟨up .service, h0, [3], by decide, by decide⟩,
   ⟨nonced 5, h0, att 50, key7, by decide, by decide, by decide, by first | rfl | decide, by decide +kernel, by decide, by decide, by decide, by decide, by decide, by decide⟩,
   ⟨nonced 5, h0, att 49, key7, by decide, by decide, by decide, by first | rfl | decide, by decide +kernel, by decide, by decide, by decide, by decide, by decide, by decide⟩,
   ⟨nonced 5, h0, [], 300, by decide, by decide, by first | rfl | decide⟩,
   ⟨up .service, h0, [], by decide, by decide, by decide⟩,
   ⟨nonced 9830400, 0, by decide, by first | rfl | decide, by decide⟩,
   ⟨slewing, by decide, by decide, by decide⟩,
   ⟨captEn, 1, true, by decide, by decide, by decide⟩,
   ⟨captEn, 0, true, by decide, by decide, by decide⟩⟩

def trigP (n op target : Nat) : Octets := [BitVec.ofNat 8 n, BitVec.ofNat 8 op, BitVec.ofNat 8 target, 1] ++ leOf 6 5 ++ leOf 4 7 ++ leOf 5 1000 ++ leOf 2 9
def pinHeld : State := (up .service).modTrig 4 (fun t => { t with armed := true, target := 2 })
def pinPulse : State := (up .service).modNtc (fun x => { x with pins := x.pins.set 3 { level := true, pulse := some false } })

theorem test_meets_TriggerSlotsFire :
    (∃ (s : State) (h : Hdr) (p : Octets) (n : Fin 16), s.Ready .ntcTriggerConfig h p .none ∧ p8 p 0 = n.val ∧ n ≠ 15 ∧ p8 p 1 = 1 ∧ badTrigger p = false ∧ s.pinTaken n (p8 p 2) = false ∧ (s.ntc.ns : Int) ≤ (p48 p 4 * 1000000000 + p32 p 10 : Nat)) ∧
    (∃ (s : State) (h : Hdr) (p : Octets) (n : Fin 16), s.Ready .ntcTriggerConfig h p .none ∧ p8 p 0 = n.val ∧ n ≠ 15 ∧ p8 p 1 = 1 ∧ badTrigger p = false ∧ s.pinTaken n (p8 p 2) = true) ∧
    (∃ (s : State) (h : Hdr) (p : Octets), s.Ready .ntcTriggerConfig h p .none ∧ p8 p 0 = 15 ∧ p8 p 1 ≤ 2) ∧
    (∃ (s : State) (h : Hdr) (p : Octets) (n : Fin 16), s.Ready .ntcTriggerConfig h p .none ∧ p8 p 0 = n.val ∧ n ≠ 15 ∧ p8 p 1 = 0) ∧
    (∃ (s : State) (h : Hdr) (p : Octets) (n : Fin 16), s.Ready .ntcTriggerConfig h p .none ∧ p8 p 0 = n.val ∧ n ≠ 15 ∧ p8 p 1 = 2) ∧
    (∃ (s : State) (n : Fin 16) (k : Fin 4), s.Calm ∧ n ≠ 15 ∧ s.trigDue n = true ∧ (s.trig n).target = k.val + 1) ∧
    (∃ (s : State) (n : Fin 16), s.Calm ∧ s.trigDue n = false) ∧
    (∃ (s : State) (k : Fin 4) (v : Bool), s.Calm ∧ s.ntc.pins[k].pulse = some v) :=
  ⟨⟨up .service, h0, trigP 3 1 2, 3, by decide, by decide, by decide, by decide, by decide, by decide, by decide⟩,
   ⟨pinHeld, h0, trigP 3 1 2, 3, by decide, by decide, by decide, by decide, by decide, by decide⟩,
   ⟨up .service, h0, trigP 15 2 2, by decide, by decide, by decide⟩,
   ⟨pinHeld, h0, trigP 4 0 2, 4, by decide, by decide, by decide, by decide⟩,
   ⟨pinHeld, h0, trigP 14 2 2, 14, by decide, by decide, by decide, by decide⟩,
   ⟨pinHeld, 4, 1, by decide, by decide, by decide, by decide⟩,
   ⟨up .service, 15, by decide, by decide⟩,
   ⟨pinPulse, 3, false, by decide, by decide⟩⟩

/-- The link up; clock role `r`. -/
def linked (r : Nat) : State := (up .service).modNtc (fun n => { n with link := true, ptpCfg := setFld n.ptpCfg 0 2 r })
def noExch : State := (linked 1).modCrd (fun c => { c with batDefer := false })
def txf (k : TxKind) : TxFrame := { kind := k, dst := 5, ether := 0x88B5, payload := [2] }
def queued : State := (linked 1).modNtc (fun n => { n with queue := [txf .battery, txf .sync] })
def onWire (k : TxKind) : State := (linked 1).modNtc (fun n => { n with onWire := some (txf k) })
def rel1 : Release := { level := 2, cap := 90, reason := 0, t0 := 4, c0 := 5, final := false, counter := 7, keygen := 1 }
def period2 : Period := { period1 with plan := #v[none, some rel1, none, none] }
def sheafOut : State := ((onWire (.sheaf 1)).modSeq 2 (fun q => { q with inRound := true, stall := .element 3 })).modHrv (fun v => { v with period := some period2 })
def ptpM : PtpMsg := { domain := fld (linked 1).ntc.ptpCfg 2 7, src := 9, seqId := 4, corr := 3, time := 1000, twoStep := true, req := ownPort }
def syncAt : SyncWait := { seqId := 4, t2 := 1500, corr := 3 }
def master : State := (linked 1).modNtc (fun n => { n with ptp := { n.ptp with master := some 9, delayAt := some 0, delayReq := some (4, 600), sync := some syncAt } })
def paired : State := master.modNtc (fun n => { n with servoCfg := setFld n.servoCfg 0 1 0, ptp := { n.ptp with pair := some (500, 3), goodRun := 3 } })
def masterOld : State := { master with aon := { master.aon with tick := 10000000 } }
def badFcs : Frame := { dst := 1, src := 3, tagged := false, length := 64, fcsOk := false, ether := 0x88B5, payload := [], time := 0, queueFull := false }
def longFrame : Frame := { badFcs with fcsOk := true, length := 1519 }
def reports : State := ((withKey 11 6 (linked 1)).modRx 1 (fun r => { r with mac := 3, source := true, configured := true, unit := .on, sent := [(70000, 1, 5)] })).modHrv (fun v => { v with periods := 5 })
def repHead : Octets := releaseHeader 70000 2 9 ++ [1, 1] ++ leOf 5 70000 ++ leOf 2 25
def speedF : Frame := { badFcs with dst := Config.mac, fcsOk := true, payload := repHead ++ ccmSeal key7 (releaseNonce reports.crd.self 1 70000 2 1) repHead [] 8 }
def speedAnon : State := reports.modRx 1 (fun r => { r with source := false })

theorem test_meets_NetworkAndPtpRun :
    (∃ (s : State), s.Calm) ∧
    (∃ (s : State), s.Calm ∧ s.crd.battery = none ∧ s.crd.batDefer = false) ∧
    (∃ (s : State) (f : TxFrame), s.Calm ∧ s.ntc.onWire = none ∧ s.ntc.link = true ∧ s.phyOn s.anyArmed = true ∧ s.pwr.start = none ∧ bestFrame s.ntc.queue = some f ∧ (∀ k, f.kind ≠ .event k)) ∧
    (∃ (s : State) (f : TxFrame), s.Calm ∧ s.ntc.onWire = some f ∧ s.ntc.restart = false ∧ (f.kind = .ptp ∨ f.kind = .battery ∨ ∃ k, f.kind = .event k)) ∧
    (∃ (s : State) (f : TxFrame), s.Calm ∧ s.ntc.onWire = some f ∧ s.ntc.restart = false ∧ (f.kind = .ptp ∨ f.kind = .battery ∨ ∃ k, f.kind = .event k)) ∧
    (∃ (s : State) (f : TxFrame) (n : Fin 4) (p : Period) (r : Release), s.Calm ∧ s.ntc.onWire = some f ∧ f.kind = .sheaf n ∧ s.hrv.period = some p ∧ p.plan[n] = some r ∧ (s.sq 2).stall ≠ .none) ∧
    (∃ (s : State) (f : TxFrame), s.Calm ∧ s.ntc.onWire = some f ∧ s.ntc.restart = false ∧ f.kind = .sync) ∧
    (∃ (s : State) (f : TxFrame), s.Calm ∧ s.ntc.onWire = some f ∧ s.ntc.restart = false ∧ f.kind = .delayReq) ∧
    (∃ (s : State) (m : PtpMsg), s.Calm ∧ s.hears .net = true ∧ s.ntc.hears m = true ∧ s.ntc.role = 1 ∧ s.ntc.ptp.master = none) ∧
    (∃ (s : State) (m : PtpMsg), s.Calm ∧ s.hears .net = true ∧ (s.ntc.hears m = false ∨ s.ntc.role ≠ 1)) ∧
    (∃ (s : State) (m : PtpMsg), s.Calm ∧ s.hears .net = true ∧ s.ntc.hears m = true ∧ s.ntc.role = 1 ∧ s.ntc.ptp.master = some m.src ∧ m.twoStep = true) ∧
    (∃ (s : State) (m : PtpMsg) (y : SyncWait) (u : Word), s.Calm ∧ s.hears .net = true ∧ s.ntc.ptp.sync = some y ∧ s.ntc.hears m = true ∧ s.ntc.role = 1 ∧ s.ntc.ptp.master = some m.src ∧ y.seqId = m.seqId ∧ s.ntc.ptp.pair = none ∧ s.ntc.ptp.delayAt = some u ∧ s.age u < ticksPow (signed 4 (fld s.ntc.ptpCfg 17 4))) ∧
    (∃ (s : State) (m : PtpMsg) (y : SyncWait) (u : Word) (q : Int × Int), s.Calm ∧ s.hears .net = true ∧ s.ntc.ptp.sync = some y ∧ s.ntc.hears m = true ∧ s.ntc.role = 1 ∧ s.ntc.ptp.master = some m.src ∧ y.seqId = m.seqId ∧ s.ntc.ptp.pair = some q ∧ s.ntc.ptp.newMaster = false ∧ s.ntc.ptp.delayAt = some u ∧ s.age u < ticksPow (signed 4 (fld s.ntc.ptpCfg 17 4)) ∧ (s.ntc.offsetOf y m q).natAbs ≤ s.ntc.threshold ∧ bit s.ntc.servoCfg 0 = false) ∧
    (∃ (s : State) (m : PtpMsg), s.Calm ∧ s.hears .net = true ∧ s.ntc.hears m = true ∧ s.ntc.role = 2) ∧
    (∃ (s : State) (m : PtpMsg) (x : Int), s.Calm ∧ s.hears .net = true ∧ s.ntc.ptp.delayReq = some (m.seqId, x) ∧ s.ntc.hears m = true ∧ s.ntc.role = 1 ∧ s.ntc.ptp.master = some m.src ∧ m.req = ownPort) ∧
    (∃ (s : State), s.Calm ∧ s.ntc.link = true ∧ s.ntc.role = 2) ∧
    (∃ (s : State), s.Calm ∧ s.ntc.ptp.master.isSome = true ∧ 3 * ticksPow (signed 4 (fld s.ntc.ptpCfg 13 4)) ≤ s.age s.ntc.ptp.announced) ∧
    (∃ (s : State) (f : Frame), s.Calm ∧ s.hears .net = true ∧ heard f.dst = true ∧ s.ntc.link = true ∧ f.fcsOk = false) ∧
    (∃ (s : State) (f : Frame), s.Calm ∧ s.hears .net = true ∧ heard f.dst = true ∧ s.ntc.link = true ∧ f.fcsOk = true ∧ (f.tagged = true ∨ 1518 < f.length ∨ f.queueFull = true ∨ (f.ether ≠ 0x88B5 ∧ f.ether ≠ 0x88F7))) ∧
    (∃ (s : State) (f : Frame) (n : Fin 4) (c : Nat), s.Calm ∧ s.hears .net = true ∧ (s.acceptFrame f).2 = true ∧ f.ether = 0x88B5 ∧ f.dst = Config.mac ∧ p8 f.payload 0 = 0x13 ∧ p16 f.payload 4 = 2 ∧ s.reportOk f = some (n, c)) ∧
    (∃ (s : State) (f : Frame), s.Calm ∧ s.hears .net = true ∧ (s.acceptFrame f).2 = true ∧ f.ether = 0x88B5 ∧ f.dst = Config.mac ∧ p8 f.payload 0 = 0x13 ∧ p16 f.payload 4 = 2 ∧ s.reportOk f = none) :=
  ⟨⟨linked 1, by decide⟩,
   ⟨noExch, by decide, by decide, by decide⟩,
   ⟨queued, txf .sync, by decide, by decide, by decide, by decide, by decide, by decide, by intro k e; cases e⟩,
   ⟨onWire .battery, txf .battery, by decide, by first | rfl | decide, by decide, Or.inr (Or.inl rfl)⟩,
   ⟨onWire (.event 1), txf (.event 1), by decide, by first | rfl | decide, by decide, Or.inr (Or.inr ⟨1, rfl⟩)⟩,
   ⟨sheafOut, txf (.sheaf 1), 1, period2, rel1, by decide, by first | rfl | decide, by decide, by first | rfl | decide, by decide, by decide⟩,
   ⟨onWire .sync, txf .sync, by decide, by first | rfl | decide, by decide, by decide⟩,
   ⟨onWire .delayReq, txf .delayReq, by decide, by first | rfl | decide, by decide, by decide⟩,
   ⟨linked 1, ptpM, by decide, by decide, by decide, by decide, by decide⟩,
   ⟨linked 0, ptpM, by decide, by decide, by decide⟩,
   ⟨master, ptpM, by decide, by decide, by decide, by decide, by decide, by decide⟩,
   ⟨master, ptpM, syncAt, 0, by decide, by decide, by first | rfl | decide, by decide, by decide, by decide, by decide, by decide, by first | rfl | decide, by decide⟩,
   ⟨paired, ptpM, syncAt, 0, (500, 3), by decide, by decide, by first | rfl | decide, by decide, by decide, by decide, by decide, by first | rfl | decide, by decide, by first | rfl | decide, by decide, by decide, by decide⟩,
   ⟨linked 2, ptpM, by decide, by decide, by decide, by decide⟩,
   ⟨master, ptpM, 600, by decide, by decide, by decide, by decide, by decide, by decide, rfl⟩,
   ⟨linked 2, by decide, by decide, by decide⟩,
   ⟨masterOld, by decide, by decide, by decide⟩,
   ⟨linked 1, badFcs, by decide, by decide, by simp [badFcs, heard], by decide, by decide⟩,
   ⟨linked 1, longFrame, by decide, by decide, by simp [longFrame, badFcs, heard], by decide, by decide, by decide⟩,
   ⟨reports, speedF, 1, 70000, by decide, by decide, by simp [State.acceptFrame, speedF, badFcs, heard]; decide, by decide, rfl, by decide, by decide, by decide +kernel⟩,
   ⟨speedAnon, speedF, by decide, by decide, by simp [State.acceptFrame, speedF, badFcs, heard]; decide, by decide, rfl, by decide, by decide, by decide +kernel⟩⟩

def tmrCfg (n : Nat) (cfg : Word) (f : Nat) (cmp : Word) : Octets := o8 n ++ wordOctets cfg ++ o8 f ++ wordOctets cmp
def tc1 : Word := put 0 2 1 ||| put 4 16 3
def tmrRuns : State := (up .service).setTim 31 { (up .service).tim 31 with run := true, cfg := tc1, count := 50, cmp := 60 }
def cmpTo (f : Nat) (v : Word) : Octets := [31] ++ o8 f ++ wordOctets v
def atMatch (mode : Nat) (c : Word) : State := (up .service).setTim 5 { (up .service).tim 5 with run := true, cfg := put 0 2 mode ||| put 4 16 3, phase := 3, count := c, cmp := 60 }
theorem test_compare_behind : 2 ^ 39 < ((40 : Word) - (tmrRuns.tim 31).count).toNat ∧ (∀ m, (tmrRuns.tim m).src ≠ 2 ∧ (tmrRuns.tim m).link < 2) := by decide

theorem test_meets_TimersCount :
    (∃ (s : State) (h : Hdr) (p : Octets) (n : Fin 32), s.Ready .tmrConfig h p .none ∧ p8 p 0 = n.val ∧ p8 p 6 ≤ 1 ∧ s.badTimer n (pW p 1) (if p8 p 6 = 1 then pW p 7 else BitVec.allOnes 40) = false ∧ (s.tim n).run = false) ∧
    (∃ (s : State) (h : Hdr) (p : Octets) (n : Fin 32), s.Ready .tmrConfig h p .none ∧ p8 p 0 = n.val ∧ p8 p 6 ≤ 1 ∧ s.badTimer n (pW p 1) (if p8 p 6 = 1 then pW p 7 else BitVec.allOnes 40) = false ∧ (s.tim n).run = true) ∧
    (∃ (s : State) (h : Hdr) (p : Octets) (n : Fin 32), s.Ready .tmrSetCompare h p .none ∧ p8 p 0 = n.val ∧ p8 p 1 ≤ 1 ∧ ((s.tim n).mode = 1 → pW p 2 ≠ 0)) ∧
    (∃ (s : State) (h : Hdr) (p : Octets) (n : Fin 32), s.Ready .tmrSetCompare h p .none ∧ p8 p 0 = n.val ∧ p8 p 1 ≤ 1 ∧ ((s.tim n).mode = 1 → pW p 2 ≠ 0)) ∧
    (∃ (s : State) (h : Hdr) (p : Octets) (n : Fin 32), s.Ready .tmrRead h p .none ∧ p8 p 0 = n.val) ∧
    (∃ (s : State) (h : Hdr) (p : Octets) (n : Fin 32) (m : Fin 32), s.Ready .tmrReadPair h p .none ∧ p8 p 0 = n.val ∧ p8 p 1 = m.val) ∧
    (∃ (s : State) (h : Hdr) (p : Octets), s.Ready .tmrSnapshotAll h p .none) ∧
    (∃ (s : State) (h : Hdr) (p : Octets), s.Ready .tmrControl h p .none ∧ p8 p 4 ≤ 2) ∧
    (∃ (s : State) (n : Fin 32), s.Calm ∧ (s.tim n).run = true ∧ s.gated n = false ∧ (s.tim n).phase = (s.tim n).prescale ∧ (s.tim n).count + 1 = (s.tim n).cmp ∧ (s.tim n).cmp ≠ 0 ∧ (∀ m, (s.tim m).src ≠ 2 ∧ (s.tim m).link < 2)) ∧
    (∃ (s : State) (n : Fin 32), s.Calm ∧ (s.tim n).run = true ∧ s.gated n = false ∧ (s.tim n).phase = (s.tim n).prescale ∧ (s.tim n).count + 1 = (s.tim n).cmp ∧ (s.tim n).cmp ≠ 0 ∧ (∀ m, (s.tim m).src ≠ 2 ∧ (s.tim m).link < 2)) ∧
    (∃ (s : State) (n : Fin 32), s.Calm ∧ (s.tim n).run = true ∧ s.gated n = false ∧ (s.tim n).phase = (s.tim n).prescale ∧ (s.tim n).count + 1 = (s.tim n).cmp ∧ (s.tim n).cmp ≠ 0 ∧ (∀ m, (s.tim m).src ≠ 2 ∧ (s.tim m).link < 2)) ∧
    (∃ (s : State) (n : Fin 32), s.Calm ∧ (s.tim n).run = true ∧ s.gated n = false ∧ (s.tim n).phase = (s.tim n).prescale ∧ (s.tim n).count + 1 = 0 ∧ (s.tim n).cmp ≠ 0 ∧ (∀ m, (s.tim m).src ≠ 2 ∧ (s.tim m).link < 2)) ∧
    (∃ (s : State) (n : Fin 32), s.Calm ∧ (s.tim n).run = false) ∧
    (∃ (s : State), s.Calm) :=
  ⟨⟨up .service, h0, tmrCfg 31 tc1 1 100, 31, by decide, by decide, by decide, by decide, by decide⟩,
   ⟨tmrRuns, h0, tmrCfg 31 tc1 1 100, 31, by decide, by decide, by decide, by decide, by decide⟩,
   ⟨tmrRuns, h0, cmpTo 0 70, 31, by decide, by decide, by decide, by decide⟩,
   ⟨tmrRuns, h0, cmpTo 1 40, 31, by decide, by decide, by decide, by decide⟩,
   ⟨tmrRuns, h0, [31], 31, by decide, by decide⟩,
   ⟨tmrRuns, h0, [31, 0], 31, 0, by decide, by decide, by decide⟩,
   ⟨tmrRuns, h0, [], by decide⟩,
   ⟨tmrRuns, h0, leOf 4 0x80000001 ++ [2], by decide, by decide⟩,
   ⟨atMatch 0 59, 5, by decide, by decide, by decide, by decide, by decide, by decide, by decide⟩,
   ⟨atMatch 1 59, 5, by decide, by decide, by decide, by decide, by decide, by decide, by decide⟩,
   ⟨atMatch 2 59, 5, by decide, by decide, by decide, by decide, by decide, by decide, by decide⟩,
   ⟨atMatch 1 0xFFFFFFFFFF, 5, by decide, by decide, by decide, by decide, by decide, by decide, by decide⟩,
   ⟨up .service, 5, by decide, by decide⟩,
   ⟨up .service, by decide⟩⟩

theorem test_meets_TheAlwaysOnTickCounts :
    (∃ (s : State), s.Calm ∧ s.pwr.state = .run ∧ s.pwr.start = none ∧ s.pwr.res.size = 4) :=
  ⟨up .service, by decide, by decide, by decide, by decide⟩

def mAt (a n : Nat) : Octets := leOf 3 a ++ o8 n
def poisoned1 : State := { up .service with mem := (up .service).mem.poke 262144 poison47 }
def written2 : State := { up .service with mem := ((up .service).mem.write 262144 0x1122334455).write 262145 0xAABBCCDDEE }
def wWords (a : Nat) : Octets := [0] ++ leOf 3 a ++ [2, 0] ++ List.replicate 10 7
def wOctets : Octets := [1] ++ leOf 3 (5 * 262144 + 3) ++ [9, 0] ++ [1, 2, 3, 4, 5, 6, 7, 8, 9]
theorem test_octets_over_three_words :
    let first := p24 wOctets 1 / 5
    let past := (p24 wOctets 1 + p16 wOctets 4 - 1) / 5 + 1
    past = first + 3 ∧ written2.memRefusal first (past - first) true = none ∧ written2.mem.wf = true ∧
      ∀ a, first ≤ a → a < past → ∃ w, decode47 (written2.mem.stored a) = .good w := by
  refine ⟨by decide, by decide, by decide, fun a h1 h2 => ?_⟩
  have e1 : p24 wOctets 1 / 5 = 262144 := by decide
  have e2 : (p24 wOctets 1 + p16 wOctets 4 - 1) / 5 + 1 = 262147 := by decide
  rw [e1] at h1
  rw [e2] at h2
  have h : a = 262144 ∨ a = 262145 ∨ a = 262146 := by omega
  rcases h with rfl | rfl | rfl
  · exact ⟨0x1122334455, by decide⟩
  · exact ⟨0xAABBCCDDEE, by decide⟩
  · exact ⟨0, by decide⟩

theorem test_meets_MemoryIsReadAndWritten :
    (∃ (s : State) (h : Hdr) (p : Octets) (ws : List Word), s.Ready .memRead h p .none ∧ 1 ≤ p8 p 3 ∧ p8 p 3 ≤ 200 ∧ s.memRefusal (p24 p 0) (p8 p 3) false = none ∧ (∀ i < p8 p 3, firmwareWordAt (p24 p 0 + i) = false) ∧ (∀ e ∈ s.mem.merge, e.addr < p24 p 0 ∨ p24 p 0 + p8 p 3 ≤ e.addr) ∧ ws.length = p8 p 3 ∧ (∀ i < p8 p 3, decode47 (s.mem.stored (p24 p 0 + i)) = .good (ws.getD i 0))) ∧
    (∃ (s : State) (h : Hdr) (p : Octets) (w : Word), s.Ready .memRead h p .none ∧ p8 p 3 = 1 ∧ s.memRefusal (p24 p 0) 1 false = none ∧ (∀ e ∈ s.mem.merge, e.addr ≠ p24 p 0) ∧ decode47 (s.mem.stored (p24 p 0)) = .good w ∧ firmwareWordAt (p24 p 0) = true) ∧
    (∃ (s : State) (h : Hdr) (p : Octets), s.Ready .memRead h p .none ∧ p8 p 3 = 1 ∧ s.memRefusal (p24 p 0) 1 false = none ∧ (∀ e ∈ s.mem.merge, e.addr ≠ p24 p 0) ∧ decode47 (s.mem.stored (p24 p 0)) = .poison) ∧
    (∃ (s : State) (h : Hdr) (p : Octets), s.Ready .memWrite h p .none ∧ p8 p 0 = 0 ∧ 1 ≤ p16 p 4 ∧ p16 p 4 ≤ 200 ∧ s.memRefusal (p24 p 1) (p16 p 4) true = none ∧ s.mem.merge = [] ∧ s.mem.wf = true) ∧
    (∃ (s : State) (h : Hdr) (p : Octets), s.Ready .memWrite h p .none ∧ p8 p 0 = 1 ∧ 1 ≤ p16 p 4 ∧ p16 p 4 ≤ 1000) ∧
    (∃ (s : State) (h : Hdr) (p : Octets), s.Ready .memRead h p .none ∧ 1 ≤ p8 p 3 ∧ p24 p 0 + p8 p 3 ≤ 16384 ∧ p8 p 3 ≤ 200) ∧
    (∃ (s : State) (h : Hdr) (p : Octets), s.Ready .memWrite h p .none ∧ p8 p 0 = 0 ∧ 1 ≤ p16 p 4 ∧ p16 p 4 ≤ 200 ∧ p24 p 1 / 16384 < 16 ∧ (p24 p 1 + p16 p 4 - 1) / 16384 = p24 p 1 / 16384) :=
  ⟨⟨written2, h0, mAt 262144 2, [0x1122334455, 0xAABBCCDDEE], by decide, by decide, by decide, by decide, by decide, by decide, by decide, by decide⟩,
   ⟨up .service, h0, mAt 98304 1, 0, by decide, by decide, by decide, by decide, by decide, by decide⟩,
   ⟨poisoned1, h0, mAt 262144 1, by decide, by decide, by decide, by decide, by decide⟩,
   ⟨up .service, h0, wWords 393214, by decide, by decide, by decide, by decide, by decide, by decide, by decide⟩,
   ⟨up .service, h0, wOctets, by decide, by decide, by decide, by decide⟩,
   ⟨up .service, h0, mAt 16383 1, by decide, by decide, by decide, by decide⟩,
   ⟨up .service, h0, wWords 16384, by decide, by decide, by decide, by decide, by decide, by decide⟩⟩

def glean (n : Nat) (x : BitVec 47) : State := { State.reset with mem := { (if x = 0 then State.reset.mem else State.reset.mem.poke n x) with gleanNext := n } }
def merging (x : BitVec 47) (l : List (Option Octet)) : State :=
  { State.reset with mem := { (if x = 0 then State.reset.mem else State.reset.mem.poke 262144 x) with merge := [{ addr := 262144, octs := l }] } }
def whole5 : List (Option Octet) := List.replicate 5 (some 3)
def part5 : List (Option Octet) := [none, some 3, none, none, none]
def ment (l : List (Option Octet)) : MergeEnt := { addr := 262144, octs := l }
def asleep : State := { State.reset with pwr := { State.reset.pwr with state := .deep } }
/-- Two words at the end of bank 16 read good. -/
theorem scrub_good : ∀ a, p24 (leOf 3 278526 ++ leOf 3 2) 0 ≤ a → a < p24 (leOf 3 278526 ++ leOf 3 2) 0 + p24 (leOf 3 278526 ++ leOf 3 2) 3 →
    (up .service).mem.retired.getLsbD ((up .service).mem.phys a / 16384) = false ∧ ∃ w, decode47 ((up .service).mem.stored a) = .good w := by
  intro a h1 h2
  have e1 : p24 (leOf 3 278526 ++ leOf 3 2) 0 = 278526 := by decide
  have e2 : p24 (leOf 3 278526 ++ leOf 3 2) 3 = 2 := by decide
  rw [e1] at h1 h2
  rw [e2] at h2
  have h : a = 278526 ∨ a = 278527 := by omega
  rcases h with rfl | rfl <;> exact ⟨by decide, 0, by decide⟩

theorem test_meets_MemoryIsKeptGood :
    (∃ (s : State) (h : Hdr) (p : Octets), s.Ready .memScrub h p .none ∧ 1 ≤ p24 p 3 ∧ p24 p 0 + p24 p 3 ≤ 393216 ∧ (∀ a, p24 p 0 ≤ a → a < p24 p 0 + p24 p 3 → s.mem.retired.getLsbD (s.mem.phys a / 16384) = false ∧ ∃ w, decode47 (s.mem.stored a) = .good w)) ∧
    (∃ (s : State) (w : Word), s.Calm ∧ s.sys.faultBoot = false ∧ s.pwr.state ≠ .deep ∧ s.pwr.state ≠ .off ∧ s.mem.gleanNext < 393215 ∧ s.mem.retired.getLsbD (s.mem.phys s.mem.gleanNext / 16384) = false ∧ decode47 (s.mem.stored s.mem.gleanNext) = .good w) ∧
    (∃ (s : State) (w : Word), s.Calm ∧ s.sys.faultBoot = false ∧ s.pwr.state ≠ .deep ∧ s.pwr.state ≠ .off ∧ s.mem.gleanNext = 393215 ∧ s.mem.retired.getLsbD 23 = false ∧ decode47 (s.mem.stored 393215) = .good w) ∧
    (∃ (s : State) (w : Word), s.Calm ∧ s.sys.faultBoot = false ∧ s.pwr.state ≠ .deep ∧ s.pwr.state ≠ .off ∧ s.mem.wf = true ∧ s.mem.gleanNext < 393215 ∧ s.mem.retired.getLsbD (s.mem.phys s.mem.gleanNext / 16384) = false ∧ decode47 (s.mem.stored s.mem.gleanNext) = .corrected w ∧ (∀ e ∈ s.mem.tally, e.addr ≠ s.mem.gleanNext)) ∧
    (∃ (s : State), (s.pwr.state = .deep ∨ s.pwr.state = .off) ∧ s.Calm) ∧
    (∃ (s : State) (e : MergeEnt) (r : List MergeEnt), s.Calm ∧ s.mem.merge = e :: r ∧ e.whole = true) ∧
    (∃ (s : State) (e : MergeEnt) (r : List MergeEnt) (w : Word), s.Calm ∧ s.mem.merge = e :: r ∧ e.whole = false ∧ decode47 (s.mem.stored e.addr) = .good w) ∧
    (∃ (s : State) (e : MergeEnt) (r : List MergeEnt), s.Calm ∧ s.mem.merge = e :: r ∧ e.whole = false ∧ decode47 (s.mem.stored e.addr) = .poison) ∧
    (∃ (s : State), s.Calm ∧ s.mem.merge = []) :=
  ⟨⟨up .service, h0, leOf 3 278526 ++ leOf 3 2, by decide, by decide, by decide, scrub_good⟩,
   ⟨glean 393214 0, 0, by decide, by decide, by decide, by decide, by decide, by decide, by decide⟩,
   ⟨glean 393215 0, 0, by decide, by decide, by decide, by decide, by decide, by decide, by decide⟩,
   ⟨glean 300000 1, 0, by decide, by decide, by decide, by decide, by decide, by decide, by decide, by decide, by decide⟩,
   ⟨asleep, by decide, by decide⟩,
   ⟨merging 0 whole5, ment whole5, [], by decide, by decide, by decide⟩,
   ⟨merging 0 part5, ment part5, [], 0, by decide, by decide, by decide, by decide⟩,
   ⟨merging poison47 part5, ment part5, [], by decide, by decide, by decide, by decide⟩,
   ⟨up .service, by decide, by decide⟩⟩

def logged : State := { up .service with mem := { (up .service).mem with logCount := 1, logNext := 1 } }
def inject : Octets := [0] ++ leOf 3 262145 ++ [0, 1, 46, 0]
theorem alGet_outside {α : Type} (d : α) : ∀ (l : List (Nat × α)) (a : Nat), (∀ x ∈ l, x.1 ≠ a) → alGet d l a = d
  | [], _, _ => rfl
  | (k, v) :: r, a, h => by
    have h1 : a ≠ k := fun e => h (k, v) (by simp) e.symm
    have h2 := alGet_outside d r a (fun x hx => h x (by simp [hx]))
    simp [alGet, h1, h2]
/-- A stored word of the reset's bank 8 reads good. -/
theorem bank8_good : ∀ o < 16384, ∃ w, decode47 ((up .service).mem.stored (p8 [(8 : Octet)] 0 * 16384 + o)) = .good w := by
  intro o ho
  have hp : (up .service).mem.phys (p8 [(8 : Octet)] 0 * 16384 + o) = 131072 + o := by
    have e : p8 [(8 : Octet)] 0 = 8 := by decide
    have e2 : (131072 + o) / 16384 = 8 := by omega
    have e3 : (131072 + o) % 16384 = o := by omega
    have e4 : ((up .service).mem.map[8]?).getD 8 = 8 := by decide
    rw [e]
    show (up .service).mem.phys (131072 + o) = _
    simp only [Mem.phys, e2, e3, e4]
    rfl
  have hc : ∀ x ∈ (up .service).mem.cells, x.1 < 131072 := by decide
  have hf : (up .service).mem.fillAt (131072 + o) = 0 := by
    have e2 : (131072 + o) / 16384 = 8 := by omega
    simp only [Mem.fillAt, e2]
    decide
  exact ⟨0, by rw [Mem.stored, hp, hf, alGet_outside 0 _ (131072 + o) (fun x hx => by have := hc x hx; omega)]; decide⟩

theorem test_meets_BanksAreRetiredAndFaultsLogged :
    (∃ (s : State) (h : Hdr) (p : Octets), s.Ready .memFaultLogRead h p .none ∧ 1 ≤ p8 p 2 ∧ p8 p 2 ≤ 100 ∧ p16 p 0 ≤ 4095 ∧ s.mem.logFrom (p16 p 0) ≠ 0) ∧
    (∃ (s : State) (h : Hdr) (p : Octets), s.Ready .memFaultLogRead h p .none ∧ 1 ≤ p8 p 2 ∧ p8 p 2 ≤ 100 ∧ p16 p 0 ≤ 4095 ∧ s.mem.logFrom (p16 p 0) = 0) ∧
    (∃ (s : State) (h : Hdr) (p : Octets), s.Ready .memRetire h p .none ∧ 16 ≤ p8 p 0 ∧ p8 p 0 ≤ 23 ∧ s.mem.retired.getLsbD (p8 p 0) = false ∧ s.mem.isSpare (p8 p 0) = false ∧ (s.mem.evTicks.filter (fun x => decide (s.age x < 32768))).length < 16 ∧ s.jrn.next + 4098 ≤ s.jrn.blockEnd) ∧
    (∃ (s : State) (h : Hdr) (p : Octets), s.Ready .memRetire h p .none ∧ 16 ≤ p8 p 0 ∧ p8 p 0 ≤ 23 ∧ s.mem.retired.getLsbD (p8 p 0) = false ∧ s.mem.isSpare (p8 p 0) = false ∧ (s.mem.evTicks.filter (fun x => decide (s.age x < 32768))).length < 16 ∧ s.jrn.next + 4098 ≤ s.jrn.blockEnd) ∧
    (∃ (s : State) (h : Hdr) (p : Octets) (dest : Nat), s.Ready .memRetire h p .none ∧ 8 ≤ p8 p 0 ∧ p8 p 0 ≤ 15 ∧ s.mem.Sound ∧ (s.mem.map[p8 p 0]?).getD 0 = p8 p 0 ∧ s.mem.retired.getLsbD (p8 p 0) = false ∧ s.mem.spare? = some dest ∧ (∀ o < 16384, ∃ w, decode47 (s.mem.stored (p8 p 0 * 16384 + o)) = .good w)) ∧
    (∃ (s : State) (h : Hdr) (p : Octets), s.Ready .memRetire h p .none ∧ p8 p 0 = 0) ∧
    (∃ (s : State) (h : Hdr) (p : Octets), s.Ready .memErrorInject h p .none ∧ p8 p 0 = 0 ∧ p24 p 1 < 393216 ∧ p24 p 1 / 16384 ≠ 0 ∧ s.mem.Sound ∧ s.mem.retired.getLsbD (s.mem.phys (p24 p 1) / 16384) = false ∧ s.mem.phys (p24 p 1) / 16384 ≠ s.mem.ringBank ∧ (∀ e ∈ s.mem.merge, e.addr ≠ p24 p 1) ∧ p8 p 5 ≤ 2 ∧ (p8 p 5 ≠ 2 → p8 p 6 ≤ 46) ∧ (p8 p 5 = 1 → p8 p 7 ≤ 46 ∧ p8 p 6 ≠ p8 p 7) ∧ (s.mem.evTicks.filter (fun x => decide (s.age x < 32768))).length < 16 ∧ s.jrn.next + 4098 ≤ s.jrn.blockEnd) ∧
    (∃ (s : State) (h : Hdr) (p : Octets), s.Ready .memErrorInject h p .none ∧ p8 p 0 = 1 ∧ critUsed (p24 p 1) = true ∧ keysRise s.mem.critDiff = true ∧ p8 p 4 ≤ 2 ∧ p8 p 5 = 2 ∧ (s.mem.evTicks.filter (fun x => decide (s.age x < 32768))).length < 16 ∧ s.jrn.next + 4098 ≤ s.jrn.blockEnd) :=
  ⟨⟨logged, h0, [0, 0, 5], by decide, by decide, by decide, by decide, by decide⟩,
   ⟨up .service, h0, [0, 0, 5], by decide, by decide, by decide, by decide, by decide⟩,
   ⟨up .service, h0, [16], by decide, by decide, by decide, by decide, by decide, by decide, by decide⟩,
   ⟨up .service, h0, [23], by decide, by decide, by decide, by decide, by decide, by decide, by decide⟩,
   ⟨up .service, h0, [8], 23, by decide, by decide, by decide, by decide, by decide, by decide, by decide, bank8_good⟩,
   ⟨up .service, h0, [0], by decide, by decide⟩,
   ⟨up .service, h0, inject, by decide, by decide, by decide, by decide, by decide, by decide, by decide, by decide, by decide, by decide, by decide, by decide, by decide⟩,
   ⟨up .service, h0, [1] ++ leOf 3 43 ++ [2, 2, 0, 0], by decide, by decide, by decide, by decide, by decide, by decide, by decide, by decide⟩⟩

/-- The first address of the hosts' part of the store. -/
def hostPage : Nat := 1120 * 128
def nvWr (f : Nat) : Octets := leOf 3 hostPage ++ o8 f ++ o8 1 ++ [1, 2, 3, 4, 5]
def stored1 : State := { up .service with nvm := { (up .service).nvm with dirty := [0], oldest := some 0, work := (up .service).nvm.work.put 65536 (some 77) } }
def worn : State := { up .service with nvm := { (up .service).nvm with pool := List.range 16 } }
def clean : State := { up .service with nvm := { (up .service).nvm with dirty := [], oldest := none } }
def full8 : State := { up .service with nvm := { (up .service).nvm with dirty := List.range 8 } }

theorem test_meets_StoreIsReadAndWritten :
    (∃ (s : State) (h : Hdr) (p : Octets) (ws : List Word), s.Ready .nvmRead h p .none ∧ s.nvmRefusal (s.ctx h.ctx) (p24 p 0) (p8 p 3) false = none ∧ (span (p24 p 0) (p8 p 3)).map s.nvm.work.get = ws.map some) ∧
    (∃ (s : State) (h : Hdr) (p : Octets), s.Ready .nvmWrite h p .none ∧ p8 p 3 ≤ 1 ∧ s.nvmRefusal (s.ctx h.ctx) (p24 p 0) (p8 p 4) true = none ∧ 16 < s.nvm.poolFree ∧ s.nvm.backlog = [] ∧ s.nvm.work.wf = true ∧ s.nvm.bufPages.length + (s.nvm.newPages ((wordsOf (p.drop 5) (p8 p 4)).mapIdx (fun i w => (p24 p 0 + i, some w)))).length ≤ 8) ∧
    (∃ (s : State) (h : Hdr) (p : Octets), s.Ready .nvmWrite h p .none ∧ p8 p 3 ≤ 1 ∧ s.nvmRefusal (s.ctx h.ctx) (p24 p 0) (p8 p 4) true = none ∧ 16 < s.nvm.poolFree ∧ s.nvm.backlog = [] ∧ s.nvm.work.wf = true ∧ s.nvm.bufPages.length + (s.nvm.newPages ((wordsOf (p.drop 5) (p8 p 4)).mapIdx (fun i w => (p24 p 0 + i, some w)))).length ≤ 8) ∧
    (∃ (s : State) (h : Hdr) (p : Octets), s.Ready .nvmWrite h p .none ∧ p8 p 3 ≤ 1 ∧ s.nvmRefusal (s.ctx h.ctx) (p24 p 0) (p8 p 4) true = none ∧ s.nvm.poolFree ≤ 16) ∧
    (∃ (s : State) (h : Hdr) (p : Octets), s.Ready .nvmWrite h p .none ∧ p8 p 3 = 0 ∧ s.nvmRefusal (s.ctx h.ctx) (p24 p 0) (p8 p 4) true = none ∧ 16 < s.nvm.poolFree ∧ s.nvm.backlog = [] ∧ s.nvm.bufPages.length = 8 ∧ (∀ i < p8 p 4, (p24 p 0 + i) / 128 ∉ s.nvm.bufPages)) ∧
    (∃ (s : State) (h : Hdr) (p : Octets), s.Ready .nvmCommit h p .none ∧ s.nvm.bufPages = []) ∧
    (∃ (s : State) (h : Hdr) (p : Octets), s.Ready .nvmCommit h p .none ∧ s.nvm.dirty ≠ [] ∧ s.nvm.commit = none) ∧
    (∃ (s : State) (h : Hdr) (p : Octets), s.Ready .nvmStatus h p .none) :=
  ⟨⟨stored1, h0, mAt 65536 1, [77], by decide, by decide, by decide⟩,
   ⟨clean, h0, nvWr 0, by decide, by decide, by decide, by decide, by decide, by decide, by decide⟩,
   ⟨clean, h0, nvWr 1, by decide, by decide, by decide, by decide, by decide, by decide, by decide⟩,
   ⟨worn, h0, nvWr 0, by decide, by decide, by decide, by decide⟩,
   ⟨full8, h0, nvWr 0, by decide, by decide, by decide, by decide, by decide, by decide, by decide⟩,
   ⟨clean, h0, [], by decide, by decide⟩,
   ⟨stored1, h0, [], by decide, by decide, by decide⟩,
   ⟨up .service, h0, [], by decide⟩⟩

def pwd (op r k : Nat) : Octets := o8 op ++ o8 r ++ o8 k ++ List.replicate 8 9 ++ List.replicate 8 8
/-- A password on writing region 7; `back` when the context's back-off runs. -/
def guarded (v : BitVec 64) (back : Bool) : State :=
  { (up .service).modCtx 0 (fun x => { x with pwTries := { fails := [], since := if back then some 0 else none } }) with
    nvm := { (up .service).nvm with pw := (up .service).nvm.pw.set 15 (some v) } }
theorem succ_ne (x : BitVec 64) : x + 1 ≠ x := by bv_omega
def tag9 : BitVec 64 := passwordTag (List.replicate 8 9)

theorem test_meets_PasswordsGuardRegions :
    (∃ (s : State) (h : Hdr) (p : Octets) (i : Fin 16), s.Ready .nvmPassword h p .none ∧ p8 p 0 = 0 ∧ p8 p 1 ≤ 7 ∧ p8 p 2 ≤ 1 ∧ i.val = 2 * p8 p 1 + p8 p 2 ∧ (s.ctx h.ctx).pwTries.active s.aon.tick = false ∧ s.nvm.pw[i] = some (passwordTag (pRun p 3 8))) ∧
    (∃ (s : State) (h : Hdr) (p : Octets) (i : Fin 16) (g : BitVec 64), s.Ready .nvmPassword h p .none ∧ p8 p 0 = 0 ∧ p8 p 1 ≤ 7 ∧ p8 p 2 ≤ 1 ∧ i.val = 2 * p8 p 1 + p8 p 2 ∧ (s.ctx h.ctx).pwTries.active s.aon.tick = false ∧ s.nvm.pw[i] = some g ∧ g ≠ passwordTag (pRun p 3 8) ∧ ((s.ctx h.ctx).pwTries.fail s.aon.tick).since ≠ some s.aon.tick) ∧
    (∃ (s : State) (h : Hdr) (p : Octets), s.Ready .nvmPassword h p .none ∧ p8 p 0 ≤ 4 ∧ p8 p 1 ≤ 7 ∧ p8 p 2 ≤ 1 ∧ (s.ctx h.ctx).pwTries.active s.aon.tick = true) ∧
    (∃ (s : State) (h : Hdr) (p : Octets) (i : Fin 16), s.Ready .nvmPassword h p .none ∧ (p8 p 0 = 1 ∨ p8 p 0 = 2) ∧ p8 p 1 ≤ 7 ∧ p8 p 2 ≤ 1 ∧ i.val = 2 * p8 p 1 + p8 p 2 ∧ (s.ctx h.ctx).pwTries.active s.aon.tick = false ∧ (s.nvm.pw[i] = none ∨ s.nvm.pw[i] = some (passwordTag (pRun p 3 8)))) ∧
    (∃ (s : State) (h : Hdr) (p : Octets) (i : Fin 16), s.Ready .nvmPassword h p .none ∧ (p8 p 0 = 1 ∨ p8 p 0 = 2) ∧ p8 p 1 ≤ 7 ∧ p8 p 2 ≤ 1 ∧ i.val = 2 * p8 p 1 + p8 p 2 ∧ (s.ctx h.ctx).pwTries.active s.aon.tick = false ∧ (s.nvm.pw[i] = none ∨ s.nvm.pw[i] = some (passwordTag (pRun p 3 8)))) ∧
    (∃ (s : State) (h : Hdr) (p : Octets) (i : Fin 16), s.Ready .nvmPassword h p .none ∧ (p8 p 0 = 1 ∨ p8 p 0 = 2) ∧ p8 p 1 ≤ 7 ∧ p8 p 2 ≤ 1 ∧ i.val = 2 * p8 p 1 + p8 p 2 ∧ (s.ctx h.ctx).pwTries.active s.aon.tick = false ∧ (s.nvm.pw[i] = none ∨ s.nvm.pw[i] = some (passwordTag (pRun p 3 8)))) ∧
    (∃ (s : State) (h : Hdr) (p : Octets), s.Ready .nvmPassword h p .none ∧ p8 p 0 = 3 ∧ p8 p 1 ≤ 7 ∧ p8 p 2 ≤ 1 ∧ (s.ctx h.ctx).pwTries.active s.aon.tick = false) ∧
    (∃ (s : State) (h : Hdr) (p : Octets), s.Ready .nvmPassword h p .none ∧ p8 p 0 = 4 ∧ p8 p 1 ≤ 7 ∧ p8 p 2 ≤ 1 ∧ (s.ctx h.ctx).pwTries.active s.aon.tick = false ∧ (s.ctx h.ctx).role = .fleet ∧ s.jrn.nvHead < 8192) ∧
    (∃ (s : State) (h : Hdr) (p : Octets), s.Ready .nvmPassword h p .none ∧ p8 p 0 = 4 ∧ p8 p 1 ≤ 7 ∧ p8 p 2 ≤ 1 ∧ (s.ctx h.ctx).pwTries.active s.aon.tick = false ∧ (s.ctx h.ctx).role = .service) :=
  ⟨⟨guarded tag9 false, h0, pwd 0 7 1, 15, by decide, by decide, by decide, by decide, by decide, by decide, rfl⟩,
   ⟨guarded (tag9 + 1) false, h0, pwd 0 7 1, 15, tag9 + 1, by decide, by decide, by decide, by decide, by decide, by decide, rfl, succ_ne tag9, by decide⟩,
   ⟨guarded 5 true, h0, pwd 0 7 1, by decide, by decide, by decide, by decide, by decide⟩,
   ⟨guarded tag9 false, h0, pwd 1 7 1, 15, by decide, by decide, by decide, by decide, by decide, by decide, Or.inr rfl⟩,
   ⟨guarded tag9 false, h0, pwd 2 7 1, 15, by decide, by decide, by decide, by decide, by decide, by decide, Or.inr rfl⟩,
   ⟨up .service, h0, pwd 1 7 0, 14, by decide, by decide, by decide, by decide, by decide, by decide, by decide⟩,
   ⟨up .service, h0, pwd 3 7 1, by decide, by decide, by decide, by decide, by decide⟩,
   ⟨up .fleet, h0, pwd 4 7 0, by decide, by decide, by decide, by decide, by decide, by decide, by decide⟩,
   ⟨up .service, h0, pwd 4 7 0, by decide, by decide, by decide, by decide, by decide, by decide⟩⟩

def fullTally : State := { up .service with nvm := { (up .service).nvm with tallies := (up .service).nvm.tallies.set 20 { base := 0xFFFFFFFFFF, bits := 0, gen := 0, intent := none } } }
/-- The one increment that waits. -/
def tallyOp (k : Fin 32) (u : TallyUse) : TallyOp := { counter := k, number := 1, use := u }
def tallying (k : Fin 32) (u : TallyUse) : State := { up .service with nvm := { (up .service).nvm with tallyOps := [tallyOp k u] } }
/-- A command of `op` of context 0, running and waiting for `w`. -/
def waiter (op : Op) (w : Wait) : Cmd :=
  { op := op, seq := 1, retry := false, role := .service, port := .spiA, dst := 0, key := 0, entry := Entry.none, slot := 0, nvAt := none,
    p := [], obs := .none, phase := .running w, status := .ok, data := [], dropped := false }
def awaits (op : Op) (w : Wait) (s : State) : State := s.modCtx 0 (fun x => { x with cmds := [waiter op w] })
def regOctets (w1 l10 : Nat) : Octets := [0] ++ wordOctets 1 ++ wordOctets (BitVec.ofNat 40 w1) ++ (List.replicate 8 (wordOctets 0)).flatten ++ wordOctets (BitVec.ofNat 40 l10)
def regRec (l : Bool) (w1 : Nat) : List Word := setFld ((wordsOf ((regOctets w1 1652).drop 1) 11).getD 0 0) 16 1 (b2n l) :: (wordsOf ((regOctets w1 1652).drop 1) 11).drop 1
def regSet (l : Bool) : State := { up .fleet with nvm := { (up .fleet).nvm with reg := regRec l 5, regWritten := true } }

theorem test_meets_TalliesAndRegulatoryRecord :
    (∃ (s : State) (h : Hdr) (p : Octets) (k : Fin 32), s.Ready .nvmTallyIncrement h p .none ∧ p8 p 0 = k.val ∧ 16 ≤ k.val ∧ s.nvm.tallyFull k = false) ∧
    (∃ (s : State) (h : Hdr) (p : Octets), s.Ready .nvmTallyIncrement h p .none ∧ p8 p 0 < 16) ∧
    (∃ (s : State) (h : Hdr) (p : Octets) (k : Fin 32), s.Ready .nvmTallyRead h p .none ∧ p8 p 0 = k.val) ∧
    (∃ (s : State) (o : TallyOp), s.Calm ∧ s.storeOn = true ∧ s.nvm.tallyOps = [o] ∧ o.use = .user) ∧
    (∃ (s : State) (o : TallyOp), s.Calm ∧ s.storeOn = true ∧ s.nvm.tallyOps = [o] ∧ o.use = .block ∧ s.nvm.tallies[o.counter].bits < 512 ∧ s.nvm.tallies[o.counter].value + 1 < 2 ^ 24) ∧
    (∃ (s : State) (n : Fin 8) (c : Cmd) (o : TallyOp), s.OneWaits n c (.tally o.number) ∧ s.storeOn = true ∧ s.nvm.tallyOps = [o] ∧ o.use = .user) ∧
    (∃ (s : State), s.Calm ∧ s.nvm.tallyOps = []) ∧
    (∃ (s : State) (h : Hdr) (p : Octets) (r : List Word), s.Ready .nvmRegulatoryLock h p .none ∧ p8 p 0 = 0 ∧ r = setFld ((wordsOf (p.drop 1) 11).getD 0 0) 16 1 (b2n s.nvm.regLocked) :: (wordsOf (p.drop 1) 11).drop 1 ∧ regGood r = true ∧ (s.nvm.regLocked = false ∨ regStricter r s.nvm.reg = true)) ∧
    (∃ (s : State) (h : Hdr) (p : Octets) (r : List Word), s.Ready .nvmRegulatoryLock h p .none ∧ p8 p 0 = 0 ∧ r = setFld ((wordsOf (p.drop 1) 11).getD 0 0) 16 1 (b2n s.nvm.regLocked) :: (wordsOf (p.drop 1) 11).drop 1 ∧ regGood r = true ∧ (s.nvm.regLocked = false ∨ regStricter r s.nvm.reg = true)) ∧
    (∃ (s : State) (h : Hdr) (p : Octets) (r : List Word), s.Ready .nvmRegulatoryLock h p .none ∧ p8 p 0 = 0 ∧ r = setFld ((wordsOf (p.drop 1) 11).getD 0 0) 16 1 (b2n s.nvm.regLocked) :: (wordsOf (p.drop 1) 11).drop 1 ∧ regGood r = true ∧ s.nvm.regLocked = true ∧ regStricter r s.nvm.reg = false) ∧
    (∃ (s : State) (h : Hdr) (p : Octets), s.Ready .nvmRegulatoryLock h p .none ∧ p8 p 0 = 1 ∧ s.nvm.regWritten = true ∧ fld (s.nvm.reg.getD 0 0) 0 16 ≠ 0) ∧
    (∃ (s : State) (h : Hdr) (p : Octets), s.Ready .nvmRegulatoryLock h p .none ∧ p8 p 0 = 1 ∧ s.nvm.regWritten = false) ∧
    (∃ (s : State) (h : Hdr) (p : Octets) (k : Fin 32), s.Ready .nvmTallyIncrement h p .none ∧ p8 p 0 = k.val ∧ 16 ≤ k.val ∧ s.nvm.tallyFull k = true) :=
  ⟨⟨up .service, h0, [31], 31, by decide, by decide, by decide, by decide⟩,
   ⟨up .service, h0, [15], by decide, by decide⟩,
   ⟨up .service, h0, [0], 0, by decide, by decide⟩,
   ⟨tallying 20 .user, tallyOp 20 .user, by decide, by decide, by decide, by decide⟩,
   ⟨tallying 0 .block, tallyOp 0 .block, by decide, by decide, by decide, by decide, by decide, by decide⟩,
   ⟨awaits .nvmTallyIncrement (.tally 1) (tallying 20 .user), 0, waiter .nvmTallyIncrement (.tally 1), tallyOp 20 .user, by constructor <;> decide, by decide, by decide, by decide⟩,
   ⟨up .service, by decide, by decide⟩,
   ⟨up .fleet, h0, regOctets 5 1652, regRec false 5, by decide, by decide, by decide, by decide, by decide⟩,
   ⟨regSet true, h0, regOctets 5 1652, regRec true 5, by decide, by decide, by decide, by decide, by decide⟩,
   ⟨regSet true, h0, regOctets 6 1652, regRec true 6, by decide, by decide, by decide, by decide, by decide, by decide⟩,
   ⟨regSet false, h0, [1], by decide, by decide, by decide, by decide⟩,
   ⟨up .fleet, h0, [1], by decide, by decide, by decide⟩,
   ⟨fullTally, h0, [20], 20, by decide, by decide, by decide, by decide⟩⟩

def commit1 (ps : List Nat) : Commit := { pages := ps, image := State.reset.nvm.work.put 5 (some 7), upTo := 9 }
def committing (ps : List Nat) (k : List KeyPend) : State := { State.reset with
  nvm := { State.reset.nvm with work := State.reset.nvm.work.put 5 (some 7), dirty := [], ticket := 9, commit := some (commit1 ps) }, cph := { State.reset.cph with pend := k } }
def keyPend : KeyPend := { slot := 30, ticket := 9, val := { Slot.blank with gen := 77 } }
def dirty0 (t : Word) : State := { State.reset with nvm := { State.reset.nvm with dirty := [0], oldest := some 0 }, aon := { State.reset.aon with tick := t } }
def erasing : State := { State.reset with nvm := { State.reset.nvm with erasing := [99] } }
def patrols (n cal : Nat) : State := { State.reset with
  aon := { State.reset.aon with calendar := BitVec.ofNat 40 cal }, nvm := { State.reset.nvm with dirty := [], patrolDue := 324000, patrolNext := n } }

theorem test_meets_PagesAreSealedAndPatrolled :
    (∃ (s : State) (c : Commit), s.Calm ∧ s.storeOn = true ∧ s.nvm.commit = some c ∧ s.nvm.again = false ∧ s.nvm.backlog = [] ∧ s.cph.pend = [] ∧ c.pages.length ≤ s.nvm.pool.length ∧ c.image.wf = true ∧ s.nvm.sealed.wf = true) ∧
    (∃ (s : State) (c : Commit) (q : KeyPend), s.Calm ∧ s.storeOn = true ∧ s.nvm.commit = some c ∧ s.nvm.again = false ∧ s.nvm.backlog = [] ∧ s.cph.pend = [q] ∧ q.ticket ≤ c.upTo ∧ q.slot < 256 ∧ c.pages.length ≤ s.nvm.pool.length) ∧
    (∃ (s : State) (c : Commit) (q : Nat), s.Calm ∧ s.storeOn = true ∧ s.nvm.commit = some c ∧ c.pages = [q] ∧ s.nvm.again = false ∧ s.nvm.backlog = []) ∧
    (∃ (s : State), s.Calm ∧ s.nvm.commit = none) ∧
    (∃ (s : State) (x : Word), s.Calm ∧ s.nvm.oldest = some x ∧ s.storeOn = true ∧ s.nvm.commit = none ∧ s.nvm.dirty ≠ [] ∧ ticksMs (fld s.nvm.cfg 0 11) ≤ s.age x) ∧
    (∃ (s : State) (x : Word), s.Calm ∧ s.nvm.oldest = some x ∧ s.age x < ticksMs (fld s.nvm.cfg 0 11)) ∧
    (∃ (s : State) (ph : Nat) (r : List Nat), s.Calm ∧ s.storeOn = true ∧ s.nvm.erasing = ph :: r) ∧
    (∃ (s : State) (ph : Nat) (r : List Nat), s.Calm ∧ s.storeOn = true ∧ s.nvm.erasing = ph :: r) ∧
    (∃ (s : State) (p : Nat), s.Calm ∧ s.storeOn = true ∧ s.nvm.patrolDue ≤ s.aon.calendar.toNat ∧ s.nvm.patrolNext < 2047 ∧ s.nvm.retired.contains s.nvm.patrolNext = false ∧ s.nvm.logicalOf s.nvm.patrolNext = some p ∧ p ∉ s.nvm.bufPages) ∧
    (∃ (s : State) (p : Nat) (ph : Nat) (r : List Nat), s.Calm ∧ s.storeOn = true ∧ s.nvm.patrolDue ≤ s.aon.calendar.toNat ∧ s.nvm.patrolNext < 2047 ∧ s.nvm.retired.contains s.nvm.patrolNext = false ∧ s.nvm.logicalOf s.nvm.patrolNext = some p ∧ p ∉ s.nvm.bufPages ∧ (p < 1056 ∨ 1119 < p) ∧ s.nvm.pool = ph :: r ∧ 65 < s.nvm.poolFree) ∧
    (∃ (s : State) (p : Nat), s.Calm ∧ s.storeOn = true ∧ s.nvm.patrolDue ≤ s.aon.calendar.toNat ∧ s.nvm.patrolNext < 2047 ∧ s.nvm.retired.contains s.nvm.patrolNext = false ∧ s.nvm.logicalOf s.nvm.patrolNext = some p ∧ p ∉ s.nvm.bufPages ∧ (p < 512 ∨ 952 ≤ p) ∧ s.nvm.physOf p < 2048 ∧ s.mem.logNext < 4096 ∧ s.jrn.nvHead < 8192 ∧ s.nvm.work.wf = true ∧ s.nvm.sealed.wf = true) ∧
    (∃ (s : State), s.Calm ∧ s.aon.calendar.toNat < s.nvm.patrolDue) ∧
    (∃ (s : State) (h : Hdr) (p : Octets), s.Ready .nvmPatrol h p (.patrol [])) :=
  ⟨⟨committing [0] [], commit1 [0], by decide, by decide, by first | rfl | decide, by decide, by decide, by decide, by decide, by decide, by decide⟩,
   ⟨committing [0] [keyPend], commit1 [0], keyPend, by decide, by decide, by first | rfl | decide, by decide, by decide, by decide, by decide, by decide, by decide⟩,
   ⟨committing [7] [], commit1 [7], 7, by decide, by decide, by first | rfl | decide, by decide, by decide, by decide⟩,
   ⟨State.reset, by decide, by decide⟩,
   ⟨dirty0 327680, 0, by decide, by first | rfl | decide, by decide, by decide, by decide, by decide⟩,
   ⟨dirty0 5, 0, by decide, by first | rfl | decide, by decide⟩,
   ⟨erasing, 99, [], by decide, by decide, by decide⟩,
   ⟨erasing, 99, [], by decide, by decide, by decide⟩,
   ⟨patrols 5 400000, 5, by decide, by decide, by decide, by decide, by decide, by decide, by decide⟩,
   ⟨patrols 5 400000, 5, 1632, List.range' 1633 415, by decide, by decide, by decide, by decide, by decide, by decide, by decide, by decide, by decide, by decide⟩,
   ⟨patrols 5 400000, 5, by decide, by decide, by decide, by decide, by decide, by decide, by decide, by decide, by decide, by decide, by decide, by decide, by decide⟩,
   ⟨patrols 5 0, by decide, by decide⟩,
   ⟨up .service, h0, [], by decide⟩⟩

def entry0 (t : PState) (ph : EntryPhase) (host : Bool) : PwrEntry :=
  { target := t, force := false, retain := 0, waitMs := 0, began := 0, done := 0, phase := ph, latched := none, byHost := host }
def entering (t : PState) (ph : EntryPhase) (host : Bool) : State := { up .service with pwr := { (up .service).pwr with entry := some (entry0 t ph host) } }
def claimedEntry : State := { claimed with pwr := { claimed.pwr with entry := some (entry0 .idle .claims true) } }
def collects : State := let s := entering .sleep .collect false
  { s with aon := { s.aon with tick := 400 } }
def ramps : State := { up .service with pwr := { (up .service).pwr with ramping := true, profNext := some 2 } }

theorem test_meets_EntriesGoThroughTheirSteps :
    (∃ (s : State) (e : PwrEntry), s.Calm ∧ s.pwr.entry = some e ∧ e.phase = .claims ∧ (e.force = true ∨ s.claimForbids e.target = false)) ∧
    (∃ (s : State) (e : PwrEntry), s.Calm ∧ s.pwr.entry = some e ∧ e.phase = .claims ∧ (e.force = true ∨ s.claimForbids e.target = false)) ∧
    (∃ (s : State), s.Calm ∧ s.pwr.entry = none) ∧
    (∃ (s : State) (e : PwrEntry), s.Calm ∧ s.pwr.entry = some e ∧ e.phase = .claims ∧ e.force = false ∧ s.claimForbids e.target = true ∧ e.byHost = true ∧ ticksMs e.waitMs ≤ s.age e.began) ∧
    (∃ (s : State) (e : PwrEntry), s.Calm ∧ s.pwr.entry = some e ∧ e.phase = .drain ∧ e.byHost = false ∧ s.lf.round = none ∧ s.uwb.round = none ∧ s.hrv.period = none ∧ (∀ k : Fin 2, (s.hrv.drivers[k]).running = false ∧ (s.hrv.drivers[k]).waiting = false)) ∧
    (∃ (s : State) (e : PwrEntry), s.Calm ∧ s.pwr.entry = some e ∧ e.phase = .drain ∧ e.byHost = false ∧ s.lf.round = none ∧ s.uwb.round = none ∧ s.hrv.period = none ∧ (∀ k : Fin 2, (s.hrv.drivers[k]).running = false ∧ (s.hrv.drivers[k]).waiting = false)) ∧
    (∃ (s : State) (e : PwrEntry), s.Calm ∧ s.pwr.entry = some e ∧ e.phase = .collect ∧ ticksMs 10 ≤ s.age e.done) ∧
    (∃ (s : State) (e : PwrEntry), s.Calm ∧ s.pwr.entry = some e ∧ e.phase = .collect) ∧
    (∃ (s : State), s.Calm ∧ s.pwr.ramping = true ∧ s.pwr.boost = false) ∧
    (∃ (s : State), s.Calm ∧ s.pwr.ramping = false) :=
  ⟨⟨entering .idle .claims false, entry0 .idle .claims false, by decide, by first | rfl | decide, by decide, by decide⟩,
   ⟨entering .deep .claims false, entry0 .deep .claims false, by decide, by first | rfl | decide, by decide, by decide⟩,
   ⟨up .service, by decide, by decide⟩,
   ⟨claimedEntry, entry0 .idle .claims true, by decide, by first | rfl | decide, by decide, by decide, by decide, by decide, by decide⟩,
   ⟨entering .sleep .drain false, entry0 .sleep .drain false, by decide, by first | rfl | decide, by decide, by decide, by decide, by decide, by decide, by decide⟩,
   ⟨entering .off .drain false, entry0 .off .drain false, by decide, by first | rfl | decide, by decide, by decide, by decide, by decide, by decide, by decide⟩,
   ⟨collects, entry0 .sleep .collect false, by decide, by first | rfl | decide, by decide, by decide⟩,
   ⟨entering .deep .collect false, entry0 .deep .collect false, by decide, by first | rfl | decide, by decide⟩,
   ⟨ramps, by decide, by decide, by decide⟩,
   ⟨up .service, by decide, by decide⟩⟩

def inState (p : PState) : State := { up .service with pwr := { (up .service).pwr with state := p, wakeCfg := 0x7FF } }
def wakeless : State := { up .service with pwr := { (up .service).pwr with wakeCfg := 0 } }
def noVsys (p : PState) : State := { inState p with pwr := { (inState p).pwr with vsysOk := false } }
def noBattery : State := (up .service).modCrd (fun c => { c with battery := none, batDefer := false })
def shadowVal : Shadow := { lockFails := 0, lockLevel := 0, lockActive := false, lockEnd := 0, lockNonce := 0, nonceLive := false, tamper := 0, calendar := 0, lastAttest := 0, idleSince := 0, counters := [] }
def shadow0 : ShadowGen := { gen := 1, complete := true, val := shadowVal }
def down0 : PowerDown := { before := State.reset.nvm.work, pages := [0, 1], image := State.reset.nvm.work.put 5 (some 7), shadows := [], keys := [] }
def held : State := { noVsys .run with nvm := { (noVsys .run).nvm with powerDown := some down0, shadows := [shadow0] } }

theorem test_meets_SuppliesAndWakeSources :
    (∃ (s : State) (k : Fin 2), s.Calm ∧ s.pwr.enabled k.val = true ∧ s.pwr.entry = none ∧ s.pwr.start = none) ∧
    (∃ (s : State) (k : Fin 2), s.Calm ∧ s.pwr.enabled k.val = true ∧ s.pwr.entry = none ∧ s.pwr.start = none) ∧
    (∃ (s : State) (k : Fin 2), s.Calm ∧ s.pwr.enabled k.val = true ∧ s.pwr.entry = none ∧ s.pwr.start = none) ∧
    (∃ (s : State) (k : Fin 2), s.Calm ∧ s.pwr.enabled k.val = false) ∧
    (∃ (s : State), s.Calm ∧ s.sys.vddio = true ∧ s.pwr.enabled 8 = true ∧ s.pwr.entry = none ∧ s.pwr.start = none ∧ s.pwr.state = .sleep) ∧
    (∃ (s : State), s.Calm ∧ s.hears .uartC = true) ∧
    (∃ (s : State), s.Calm ∧ s.pwr.vsysOk = true ∧ (s.pwr.state = .run ∨ s.pwr.state = .idle ∨ s.pwr.state = .sleep) ∧ s.pwr.start = none ∧ s.sys.faultBoot = false ∧ s.lf.round = none ∧ s.uwb.round = none ∧ s.hrv.period = none ∧ s.crd.battery = none) ∧
    (∃ (s : State), s.Calm ∧ s.pwr.vsysOk = true ∧ s.pwr.state = .deep ∧ s.pwr.start = none ∧ s.sys.faultBoot = false ∧ s.pwr.vbkupOk = true) ∧
    (∃ (s : State), s.Calm ∧ s.pwr.vsysOk = true ∧ s.pwr.state = .off) ∧
    (∃ (s : State), s.Calm ∧ s.pwr.vsysOk = false) ∧
    (∃ (s : State) (d : PowerDown) (g : ShadowGen) (r : List ShadowGen), s.Calm ∧ s.nvm.powerDown = some d ∧ s.pwr.vsysOk = false ∧ s.pwr.start = none ∧ s.nvm.shadows = g :: r ∧ g.complete = true ∧ d.keys = [] ∧ d.before.wf = true ∧ d.image.wf = true) ∧
    (∃ (s : State), s.Calm ∧ s.pwr.vsysOk = true) ∧
    (∃ (s : State), s.Calm ∧ s.pwr.vsysOk = false ∧ s.pwr.start = none ∧ s.pwr.entry = none) ∧
    (∃ (s : State), s.Calm ∧ s.pwr.vsysOk = false ∧ s.pwr.start = none ∧ s.pwr.entry = none) ∧
    (∃ (s : State), s.Calm ∧ s.pwr.vsysOk = true) ∧
    (∃ (s : State), s.Calm ∧ s.pwr.vsysOk = true ∧ s.pwr.vbkupOk = true) ∧
    (∃ (s : State), s.Calm ∧ s.pwr.vsysOk = false) ∧
    (∃ (s : State), s.Calm ∧ s.pwr.vsysOk = true) ∧
    (∃ (s : State), s.Calm) ∧
    (∃ (s : State), s.Calm) :=
  ⟨⟨inState .sleep, 1, by decide, by decide, by decide, by decide⟩,
   ⟨inState .deep, 0, by decide, by decide, by decide, by decide⟩,
   ⟨inState .idle, 1, by decide, by decide, by decide, by decide⟩,
   ⟨wakeless, 1, by decide, by decide⟩,
   ⟨inState .sleep, by decide, by decide, by decide, by decide, by decide, by decide⟩,
   ⟨up .service, by decide, by decide⟩,
   ⟨noBattery, by decide, by decide, by decide, by decide, by decide, by decide, by decide, by decide, by decide⟩,
   ⟨inState .deep, by decide, by decide, by decide, by decide, by decide, by decide⟩,
   ⟨inState .off, by decide, by decide, by decide⟩,
   ⟨noVsys .run, by decide, by decide⟩,
   ⟨held, down0, shadow0, [], by decide, by first | rfl | decide, by decide, by decide, by decide, by decide, by decide, by decide, by decide⟩,
   ⟨up .service, by decide, by decide⟩,
   ⟨noVsys .deep, by decide, by decide, by decide, by decide⟩,
   ⟨noVsys .off, by decide, by decide, by decide, by decide⟩,
   ⟨up .service, by decide, by decide⟩,
   ⟨up .service, by decide, by decide, by decide⟩,
   ⟨noVsys .deep, by decide, by decide⟩,
   ⟨up .service, by decide, by decide⟩,
   ⟨up .service, by decide⟩,
   ⟨up .service, by decide⟩⟩

def start0 (k : StartKind) (ph : StartPhase) : Start :=
  { kind := k, left := .sleep, phase := ph, source := 5, timer := 6, latched := false, began := 0, tries := 0, saveFail := false, commitFail := false, bankFail := 0 }
def starting (k : StartKind) (ph : StartPhase) : State := { State.reset with pwr := { State.reset.pwr with start := some (start0 k ph) } }
def faultStart : State := { starting .cold .logic with sys := { State.reset.sys with faultBoot := true } }
def xoBroken : State := { State.reset with pwr := { State.reset.pwr with xoOk := false, xoFail := true } }

theorem test_meets_StartsGoThroughTheirSignals :
    (∃ (s : State) (x : Start), s.Calm ∧ s.pwr.start = some x ∧ x.phase = .vcore) ∧
    (∃ (s : State) (x : Start), s.Calm ∧ s.pwr.start = some x ∧ x.phase = .xo) ∧
    (∃ (s : State), s.Calm ∧ s.pwr.start = none ∧ s.pwr.xoFail = true ∧ s.pwr.state = .run) ∧
    (∃ (s : State), s.Calm) ∧
    (∃ (s : State) (x : Start), s.Calm ∧ s.pwr.start = some x ∧ x.phase = .mem ∧ x.kind.fresh = true) ∧
    (∃ (s : State) (x : Start), s.Calm ∧ s.pwr.start = some x ∧ x.phase = .mem ∧ x.kind.fresh = true) ∧
    (∃ (s : State) (x : Start), s.Calm ∧ s.pwr.start = some x ∧ x.phase = .mem ∧ x.kind = .sleep) ∧
    (∃ (s : State) (x : Start), s.Calm ∧ s.pwr.start = some x ∧ x.phase = .mem ∧ x.kind = .deep ∧ s.nvm.torn = false ∧ s.critSound [34, 35, 36, 37, 38, 39, 40, 41] = true) ∧
    (∃ (s : State) (x : Start), s.Calm ∧ s.pwr.start = some x ∧ x.phase = .logic ∧ x.kind.fresh = true ∧ s.sys.faultBoot = false) ∧
    (∃ (s : State) (x : Start), s.Calm ∧ s.pwr.start = some x ∧ x.phase = .logic ∧ x.kind.fresh = true ∧ s.sys.faultBoot = false) ∧
    (∃ (s : State) (x : Start), s.Calm ∧ s.pwr.start = some x ∧ x.phase = .logic ∧ x.kind.fresh = true ∧ s.sys.faultBoot = true) ∧
    (∃ (s : State) (x : Start), s.Calm ∧ s.pwr.start = some x ∧ x.phase = .logic ∧ x.kind = .sleep) ∧
    (∃ (s : State) (x : Start), s.Calm ∧ s.pwr.start = some x ∧ x.phase = .logic ∧ x.kind = .deep) ∧
    (∃ (s : State) (x : Start), s.Calm ∧ s.pwr.start = some x ∧ x.phase = .accept ∧ x.kind.fresh = true) ∧
    (∃ (s : State) (x : Start), s.Calm ∧ s.pwr.start = some x ∧ x.phase = .accept ∧ x.kind.fresh = false) ∧
    (∃ (s : State), s.Calm ∧ s.pwr.start = none) :=
  ⟨⟨starting .cold .vcore, start0 .cold .vcore, by decide, by first | rfl | decide, by decide⟩,
   ⟨starting .cold .xo, start0 .cold .xo, by decide, by first | rfl | decide, by decide⟩,
   ⟨xoBroken, by decide, by decide, by decide, by decide⟩,
   ⟨State.reset, by decide⟩,
   ⟨starting .reset .mem, start0 .reset .mem, by decide, by first | rfl | decide, by decide, by decide⟩,
   ⟨starting .reset .mem, start0 .reset .mem, by decide, by first | rfl | decide, by decide, by decide⟩,
   ⟨starting .sleep .mem, start0 .sleep .mem, by decide, by first | rfl | decide, by decide, by decide⟩,
   ⟨starting .deep .mem, start0 .deep .mem, by decide, by first | rfl | decide, by decide, by decide, by decide, by decide⟩,
   ⟨starting .cold .logic, start0 .cold .logic, by decide, by first | rfl | decide, by decide, by decide, by decide⟩,
   ⟨starting .reset .logic, start0 .reset .logic, by decide, by first | rfl | decide, by decide, by decide, by decide⟩,
   ⟨faultStart, start0 .cold .logic, by decide, by first | rfl | decide, by decide, by decide, by decide⟩,
   ⟨starting .sleep .logic, start0 .sleep .logic, by decide, by first | rfl | decide, by decide, by decide⟩,
   ⟨starting .deep .logic, start0 .deep .logic, by decide, by first | rfl | decide, by decide, by decide⟩,
   ⟨starting .reset .accept, start0 .reset .accept, by decide, by first | rfl | decide, by decide, by decide⟩,
   ⟨starting .deep .accept, start0 .deep .accept, by decide, by first | rfl | decide, by decide, by decide⟩,
   ⟨State.reset, by decide, by decide⟩⟩

def cobs (os : Octets) : Octets := (os.foldr (fun x a => if x = 0 then (1, o8 a.1 ++ a.2) else (a.1 + 1, x :: a.2)) ((1, []) : Nat × Octets)) |> fun a => o8 a.1 ++ a.2
def hU1 : Hdr := { h0 with port := .uartC }
/-- A session of the segment: context 0 under the key of slot 3. -/
def netS : State := let s := withKey 3 3 ((up .service).modCtx 0 (fun x => { x with port := .net, mac := 5, keySlot := 3 }))
  { s with ntc := { s.ntc with link := true, netCfg := s.ntc.netCfg ||| 1 } }
def hN0 : Hdr := { h0 with port := .net, src := 5 }
def hN : Hdr := { hN0 with cmac := cmac64 key7 ((cmdPkt .hstClaim hN0 [1]).head ++ [1]) }
def frameN : Frame := { dst := Config.mac, src := 5, tagged := false, length := 100, fcsOk := true, ether := 0x88B5, payload := netPayload .hstClaim hN [1] [0, 0, 9], time := 0, queueFull := false }
theorem test_network_session : netS.Ready .hstClaim hN [1] .none := by decide +kernel

theorem test_meets_PacketsSpellCommands :
    (∃ (h : Hdr) (p : Octets), (h.port = .spiA ∨ h.port = .spiB) ∧ h.src = 0 ∧ h.cmac = 0 ∧ p.length ≤ 65535) ∧
    (∃ (op : Op) (h : Hdr) (p : Octets) (os : Octets), h.port = .uartC ∧ h.src = 0 ∧ h.cmac = 0 ∧ p.length ≤ 1024 ∧ cobsDecode os.length os = some (framed (commandHead op h p) p)) ∧
    (∃ (s : State) (op : Op) (h : Hdr) (p : Octets) (pad : Octets) (f : Frame), h.port = .net ∧ h.src = f.src ∧ p.length ≤ 65535 ∧ s.hears .net = true ∧ (s.acceptFrame f).2 = true ∧ f.ether = 0x88B5 ∧ f.dst = Config.mac ∧ f.payload = netPayload op h p pad) ∧
    (∃ (h : Hdr) (p : Octets), (h.port = .spiA ∨ h.port = .spiB) ∧ h.src = 0 ∧ h.cmac = 0 ∧ p.length ≤ 65535) :=
  ⟨⟨h0, [], by decide, by decide, by decide, by decide⟩,
   ⟨.sysStatus, hU1, [], cobs (framed (commandHead .sysStatus hU1 []) []), by decide, by decide, by decide, by decide, by decide +kernel⟩,
   ⟨netS, .hstClaim, hN, [1], [0, 0, 9], frameN, by decide, rfl, by decide, by decide, by simp [State.acceptFrame, frameN, heard]; decide, by decide, rfl, rfl⟩,
   ⟨h0, [], by decide, by decide, by decide, by decide⟩⟩

def hB : Hdr := { h0 with port := .spiB, ctx := 3 }
def faultUp : State := { up .service with sys := { (up .service).sys with faultBoot := true } }
def noMark : Octets := [1, 2, 3]
def head0 (a : Nat) (code : Nat) (n : Nat) : Octets := headerOctets a 0 1 code 0 n

theorem test_meets_PacketsAreCheckedInOrder :
    (∃ (s : State) (q : Port) (head : Octets) (p : Octets) (crc : Octets), s.Calm ∧ (q = .spiA ∨ q = .spiB) ∧ s.hears q = true ∧ head.length = 12 ∧ p16 head 7 = p.length ∧ crc.length = 4 ∧ crc ≠ leOf 4 (crc32c (head ++ p)).toNat) ∧
    (∃ (s : State) (q : Port) (head : Octets) (p : Octets), s.Calm ∧ (q = .spiA ∨ q = .spiB) ∧ s.hears q = true ∧ head.length = 12 ∧ p16 head 7 = p.length) ∧
    (∃ (s : State) (q : Port) (head : Octets) (p : Octets), s.Calm ∧ (q = .spiA ∨ q = .spiB) ∧ s.hears q = true ∧ head.length = 12 ∧ p16 head 7 = p.length) ∧
    (∃ (s : State) (q : Port) (head : Octets) (p : Octets), s.Calm ∧ (q = .spiA ∨ q = .spiB) ∧ s.hears q = true ∧ head.length = 12 ∧ p16 head 7 = p.length) ∧
    (∃ (s : State) (h : Hdr) (p : Octets), s.Calm ∧ (h.port = .spiA ∨ h.port = .spiB) ∧ s.hears h.port = true ∧ p.length ≤ 1024) ∧
    (∃ (s : State) (h : Hdr) (p : Octets), s.Calm ∧ (h.port = .spiA ∨ h.port = .spiB) ∧ s.hears h.port = true ∧ p.length ≤ 1024) ∧
    (∃ (s : State) (h : Hdr) (p : Octets), s.Calm ∧ (h.port = .spiA ∨ h.port = .spiB) ∧ s.hears h.port = true ∧ p.length ≤ 1024) ∧
    (∃ (s : State) (os : Octets), s.Calm ∧ (∀ o ∈ os, o ≠ 0xA7)) :=
  ⟨⟨up .service, .spiB, commandHead .sysStatus hB [], [], [1, 2, 3, 4], by decide, by decide, by decide, by decide, by decide, by decide, by decide +kernel⟩,
   ⟨up .service, .spiA, head0 0x20 1 0, [], by decide, by decide, by decide, by decide, by decide⟩,
   ⟨up .service, .spiA, head0 0x10 1 1025, List.replicate 1025 0, by decide, by decide, by decide, by decide, by decide⟩,
   ⟨up .service, .spiA, head0 0x10 0xFFFF 0, [], by decide, by decide, by decide, by decide, by decide⟩,
   ⟨faultUp, h0, [1], by decide, by decide, by decide, by decide⟩,
   ⟨up .service, hB, [], by decide, by decide, by decide, by decide⟩,
   ⟨up .observer, h0, [], by decide, by decide, by decide, by decide⟩,
   ⟨up .service, noMark, by decide, by decide⟩⟩

def packet0 (k : PacketKind) : Packet := { kind := k, ctx := 0, high := 0, seq := 1, code := 1, trunc := false, params := [], frees := decide (k = .reply) }
def atPort (q : Port) (s : State) : State := s.modPort q (fun x => { x with selected := true, cur := some (packet0 .reply) })
def sentCmd : Cmd := { waiter .sysStatus .claims with phase := .sent }
def delivers : State := atPort .spiA ((up .service).modCtx 0 (fun x => { x with cmds := [sentCmd] }))
def uartOut : State := ((up .service).modCtx 0 (fun x => { x with cmds := [sentCmd] })).modPort .uartC (fun x => { x with out := [packet0 .reply] })
def event0 : Event := { code := 1, seq := 1, stamp := 0, data := [] }
def eventOut : State := ((up .service).modCtx 0 (fun x => { x with events := [event0] })).modPort .spiA (fun x => { x with selected := true, cur := some (packet0 .event) })
def asleepS : State := inState .sleep
def selectedA : State := (up .service).modPort .spiA (fun x => { x with selected := true })
def netShut : State := { netS with hst := State.reset.hst }
theorem bad_cobs : ∀ d, cobsDecode ([5, 1] : Octets).length [5, 1] = some d → 1041 < d.length ∨ d.length < 17 ∨ d.headD 0 ≠ 0xA7 := by
  intro d h
  cases h

theorem test_meets_PortsMovePackets :
    (∃ (s : State) (q : Port), s.Calm ∧ (q = .spiA ∨ q = .spiB) ∧ s.sys.vddio = true ∧ s.hears q = true ∧ (s.port q).cur = none) ∧
    (∃ (s : State) (q : Port), s.Calm ∧ (q = .spiA ∨ q = .spiB) ∧ s.sys.vddio = true ∧ s.hears q = true ∧ (s.port q).cur.isSome = true) ∧
    (∃ (s : State) (q : Port), s.Calm ∧ (q = .spiA ∨ q = .spiB) ∧ s.sys.vddio = true ∧ s.pwr.state = .sleep ∧ s.pwr.start = none ∧ s.pwr.entry = none ∧ s.pwr.enabled (if q = .spiA then 6 else 7) = true) ∧
    (∃ (s : State) (q : Port), s.Calm ∧ (q = .spiA ∨ q = .spiB) ∧ (s.port q).selected = true ∧ s.hears q = true) ∧
    (∃ (s : State) (q : Port), s.Calm ∧ (s.port q).selected = false) ∧
    (∃ (s : State) (q : Port) (x : Packet) (c : Cmd), s.hears q = true ∧ (q = .spiA ∨ q = .spiB) ∧ (s.port q).selected = true ∧ (s.port q).cur = some x ∧ x.kind = .reply ∧ x.frees = true ∧ (s.ctx x.ctx).cmds = [c] ∧ c.seq = x.seq ∧ (∀ m, m ≠ x.ctx → (s.ctx m).cmds = []) ∧ s.jrn.held = [] ∧ (∀ k : Fin 3, s.ranOff k = false)) ∧
    (∃ (s : State) (x : Packet) (r : List Packet) (c : Cmd), s.hears .uartC = true ∧ (s.port .uartC).out = x :: r ∧ x.kind = .reply ∧ x.frees = true ∧ (s.ctx x.ctx).cmds = [c] ∧ c.seq = x.seq ∧ (∀ m, m ≠ x.ctx → (s.ctx m).cmds = []) ∧ s.jrn.held = [] ∧ (∀ k : Fin 3, s.ranOff k = false)) ∧
    (∃ (s : State) (q : Port) (x : Packet) (e : Event) (r : List Event), s.Calm ∧ s.hears q = true ∧ (q = .spiA ∨ q = .spiB) ∧ (s.port q).selected = true ∧ (s.port q).cur = some x ∧ x.kind = .event ∧ (s.ctx x.ctx).events = e :: r ∧ e.seq = x.seq) ∧
    (∃ (s : State) (os : Octets), s.Calm ∧ s.hears .uartC = true ∧ (∀ d, cobsDecode os.length os = some d → 1041 < d.length ∨ d.length < 17 ∨ d.headD 0 ≠ 0xA7)) ∧
    (∃ (s : State) (op : Op) (h : Hdr) (p : Octets) (pad : Octets) (f : Frame), s.Calm ∧ h.src = f.src ∧ p.length ≤ 1024 ∧ s.hears .net = true ∧ (s.acceptFrame f).2 = true ∧ f.ether = 0x88B5 ∧ f.dst = Config.mac ∧ f.payload = netPayload op h p pad ∧ op ≠ .hstOpen ∧ (s.ctx h.ctx).isOpen = false) :=
  ⟨⟨up .service, .spiA, by decide, by decide, by decide, by decide, by decide⟩,
   ⟨eventOut, .spiA, by decide, by decide, by decide, by decide, by decide⟩,
   ⟨asleepS, .spiB, by decide, by decide, by decide, by decide, by decide, by decide, by decide⟩,
   ⟨selectedA, .spiA, by decide, by decide, by decide, by decide⟩,
   ⟨up .service, .spiA, by decide, by decide⟩,
   ⟨delivers, .spiA, packet0 .reply, sentCmd, by decide, by decide, by decide, by decide, by decide, by decide, by decide, by decide, by decide, by decide, by decide⟩,
   ⟨uartOut, packet0 .reply, [], sentCmd, by decide, by decide, by decide, by decide, by decide, by decide, by decide, by decide, by decide⟩,
   ⟨eventOut, .spiA, packet0 .event, event0, [], by decide, by decide, by decide, by decide, by decide, by decide, by decide, by decide⟩,
   ⟨up .service, [5, 1], by decide, by decide, bad_cobs⟩,
   ⟨netShut, .hstClaim, hN, [1], [0, 0, 9], frameN, by decide, rfl, by decide, by decide, by simp [State.acceptFrame, frameN, heard]; decide, by decide, rfl, rfl, by decide, by decide⟩⟩

def sealWait : Wait := .seal 9 .ok [4]
def sealing (w : Wait) : State := awaits .nvmCommit w { up .service with nvm := { (up .service).nvm with ticket := 9, commit := some (commit1 [7]) } }
def e_claims : PwrEntry := entry0 .idle .claims true
def claimWaits : State := awaits .pwrEnter .claims (entering .idle .claims true)
def claimLate : State := awaits .pwrEnter .claims claimedEntry
def entryWaits : State := awaits .pwrEnter .entry (entering .sleep .drain true)

theorem test_meets_WaitsEndWithTheirReply :
    (∃ (s : State) (n : Fin 8) (c : Cmd) (k : Nat) (st : Status) (d : Octets) (x : Commit), s.OneWaits n c (.seal k st d) ∧ s.storeOn = true ∧ s.nvm.commit = some x ∧ k ≤ x.upTo ∧ x.pages.length ≤ s.nvm.pool.length ∧ s.nvm.backlog = []) ∧
    (∃ (s : State) (n : Fin 8) (c : Cmd) (k : Nat) (st : Status) (d : Octets) (x : Commit) (q : Nat), s.OneWaits n c (.seal k st d) ∧ s.storeOn = true ∧ s.nvm.commit = some x ∧ k ≤ x.upTo ∧ x.pages = [q] ∧ s.nvm.backlog = []) ∧
    (∃ (s : State) (n : Fin 8) (c : Cmd) (k : Nat) (m : Nat) (x : Commit), s.OneWaits n c (.commit k m) ∧ s.storeOn = true ∧ s.nvm.commit = some x ∧ k ≤ x.upTo ∧ x.pages.length ≤ s.nvm.pool.length ∧ s.nvm.backlog = []) ∧
    (∃ (s : State) (n : Fin 8) (c : Cmd) (e : PwrEntry), s.OneWaits n c .claims ∧ s.pwr.entry = some e ∧ e.phase = .claims ∧ e.force = false ∧ s.claimForbids e.target = true ∧ e.byHost = true ∧ ticksMs e.waitMs ≤ s.age e.began) ∧
    (∃ (s : State) (n : Fin 8) (c : Cmd) (e : PwrEntry), s.OneWaits n c .claims ∧ s.pwr.entry = some e ∧ e.phase = .claims ∧ s.claimForbids e.target = false ∧ e.target = .idle ∧ e.latched = none) ∧
    (∃ (s : State) (n : Fin 8) (c : Cmd) (e : PwrEntry), s.OneWaits n c .entry ∧ s.pwr.entry = some e ∧ e.phase = .drain ∧ e.byHost = true ∧ e.target = .sleep ∧ s.lf.round = none ∧ s.uwb.round = none ∧ s.hrv.period = none ∧ (∀ k : Fin 2, (s.hrv.drivers[k]).running = false ∧ (s.hrv.drivers[k]).waiting = false)) :=
  ⟨⟨sealing sealWait, 0, waiter .nvmCommit sealWait, 9, .ok, [4], commit1 [7], by constructor <;> decide, by decide, by first | rfl | decide, by decide, by decide, by decide⟩,
   ⟨sealing sealWait, 0, waiter .nvmCommit sealWait, 9, .ok, [4], commit1 [7], 7, by constructor <;> decide, by decide, by first | rfl | decide, by decide, by decide, by decide⟩,
   ⟨sealing (.commit 9 1), 0, waiter .nvmCommit (.commit 9 1), 9, 1, commit1 [7], by constructor <;> decide, by decide, by first | rfl | decide, by decide, by decide, by decide⟩,
   ⟨claimLate, 0, waiter .pwrEnter .claims, e_claims, by constructor <;> decide, by first | rfl | decide, by decide, by decide, by decide, by decide, by decide⟩,
   ⟨claimWaits, 0, waiter .pwrEnter .claims, e_claims, by constructor <;> decide, by first | rfl | decide, by decide, by decide, by decide, by decide⟩,
   ⟨entryWaits, 0, waiter .pwrEnter .entry, entry0 .sleep .drain true, by constructor <;> decide, by first | rfl | decide, by decide, by decide, by decide, by decide, by decide, by decide, by decide⟩⟩

theorem up_delivered : (up .service).AllDelivered := by
  have h : ∀ n, ((up .service).ctx n).ready? = none := by decide
  intro n c e
  rw [h n] at e
  cases e

theorem test_meets_NoReplyWaitsAfterAStep :
    (∃ (s : State) (t : State), s.AllDelivered ∧ step s = .next t) :=
  ⟨up .service, up .service, up_delivered, rfl⟩

theorem test_meets_EveryStepAnswersANextState :
    (∃ (s : State), s.pending = []) :=
  ⟨State.reset, by decide⟩

theorem test_meets_AcceptedCommandsAreNumbered :
    (∃ (s : State) (op : Op) (h : Hdr) (p : Octets) (obs : Obs), s.Ready op h p obs ∧ op.journaled = true ∧ s.mem.Sound) ∧
    (∃ (s : State) (op : Op) (h : Hdr) (p : Octets) (obs : Obs), s.Ready op h p obs ∧ op.journaled = false) ∧
    (∃ (s : State) (op : Op) (h : Hdr) (p : Octets), (s.ctx h.ctx).isOpen = true ∧ (s.ctx h.ctx).port = h.port ∧ ((s.ctx h.ctx).seen? h.seq ≠ none ∨ (s.ctx h.ctx).roleNow.may op = false ∨ op.lenOk p = false ∨ (4 ≤ (s.ctx h.ctx).cmds.length ∧ op ≠ .hstClose ∧ op ≠ .hstOpen))) ∧
    (∃ (s : State) (op : Op) (h : Hdr) (p : Octets), (s.ctx h.ctx).isOpen = true ∧ (s.ctx h.ctx).port = h.port ∧ ((s.ctx h.ctx).seen? h.seq ≠ none ∨ (s.ctx h.ctx).roleNow.may op = false ∨ op.lenOk p = false ∨ (4 ≤ (s.ctx h.ctx).cmds.length ∧ op ≠ .hstClose ∧ op ≠ .hstOpen))) :=
  ⟨⟨up .service, .hstClaim, h0, [1], .none, by decide, by decide, by decide⟩,
   ⟨up .service, .sysStatus, h0, [], .none, by decide, by decide⟩,
   ⟨up .service, .sysReset, h0, [1, 2, 3], by decide, by decide, by decide⟩,
   ⟨up .observer, .sysReset, h0, [], by decide, by decide, by decide⟩⟩

/-! ## Branches of the packet checks -/

theorem test_packet_branches :
    (1024 < (List.replicate 1025 (0 : Octet)).length) ∧ Op.ofCode 0xFFFF = none ∧ (up .service).sys.faultBoot = false ∧
    ((up .service).ctx 0).port = .spiA ∧ ((up .service).ctx 0).seen? 1 = none ∧ Role.service.may .hstClaim = true ∧
    Role.observer.may .sysReset = false ∧ Op.hstClaim.lenOk [] = false := by decide

/-! ## Ill-formed commands, one for each check of `Instr.wf`, and well-formed ones -/

def measBad : CoilMeas := { coil := 1, phase := 32768, ampl := 0, q := 0, trip := false }
def hSrc : Hdr := { h0 with src := 5 }
def frame41 : RxFrame := frameOf []

theorem test_wf_refuses_ports : (Instr.spiPacket .uartC [] .none).wf = false ∧ (Instr.chipSelectFall .net true).wf = false ∧
    (Instr.chipSelectRise .uartC 0).wf = false ∧ (Instr.outputPacketDelivered .net).wf = false := by decide
theorem test_wf_refuses_headers : (Instr.sysNop hSrc []).wf = false ∧ (Instr.sysNop { h0 with cmac := 1 } []).wf = false := by decide
theorem test_wf_refuses_long_parameters (p : Octets) (h : 65535 < p.length) : (Instr.sysNop h0 p).wf = false := by
  simp [Instr.wf, commandWf, h]
theorem test_wf_refuses_frames : (Instr.networkFrame { badFcs with length := 1, payload := [1, 2] }).wf = false ∧
    (Instr.announce { ptpM with domain := 256 }).wf = false ∧ (Instr.sync { ptpM with time := -1 } 0).wf = false ∧
    (Instr.delayResp { ptpM with time := 2 ^ 48 * 1000000000 }).wf = false := by decide
theorem test_wf_refuses_measurements : (Instr.elementEnd true [measBad]).wf = false ∧ (Instr.diagnosisPulse true { measBad with phase := -32769 }).wf = false ∧
    (Instr.lfTune h0 [] (.coils true [measBad])).wf = false ∧ (Instr.triggerFire 0 [measBad]).wf = false := by decide
theorem test_wf_refuses_receptions : (Instr.responseFrame frame41).wf = false ∧ (Instr.responseFrame { frameOf (body 0 false) with rssi := 256 }).wf = false ∧
    (Instr.lateFrameEnd 0 true false 0 256).wf = false ∧ (Instr.uwbFrameTxDue (2 ^ 40) false).wf = false ∧
    (Instr.uwbPollReceived { arrival 0 with ta := 2 ^ 40 }).wf = false := by decide +kernel
theorem test_wf_refuses_observations : (Instr.sysSelfTest h0 [] .glitch).wf = false ∧ (Instr.sysFwCommit h0 [] .glitch).wf = false ∧
    (Instr.uhfCalibrate h0 [] .glitch).wf = false ∧ (Instr.uwbCalibrate h0 [] .glitch).wf = false ∧
    (Instr.crdRosterWrite h0 [] .glitch).wf = false ∧ (Instr.cphRun h0 [] .indexFull).wf = false ∧ (Instr.nvmPatrol h0 [] .glitch).wf = false := by decide
theorem test_wf_refuses_events : (Instr.memOk 0 [(393216, 1)] []).wf = false ∧ (Instr.logicOk [3, 3] 0).wf = false ∧
    (Instr.pageCommitDone [4]).wf = false ∧ (Instr.patrolPageDue (.weak 132)).wf = false ∧ (Instr.patrolPageDue (.lost [])).wf = false ∧
    (Instr.nvmPatrol h0 [] (.patrol [(2048, .good)])).wf = false ∧ (Instr.nvmPatrol h0 [] (.patrol [(3, .good), (3, .good)])).wf = false := by decide
theorem test_wf_accepts : (Instr.sysNop h0 []).wf = true ∧ (Instr.responseFrame (frameOf (body 0x11 true))).wf = true ∧
    (Instr.elementEnd true [{ measBad with phase := 32767 }]).wf = true ∧ (Instr.networkCommand { frameN with length := 1500 } .none).wf = true := by
  decide +kernel

/-! ## Values the spec gives -/

/-- R319: an all-zero 128-bit key has the KCV 0x66E94B. -/
theorem test_kcv_of_zero_key : kcvOf (List.replicate 16 0) = 0x66E94B := by decide +kernel
/-- R281: LOOP g5 to index 10 is 0x16_8000_000A, and SET g5 with the immediate 2 is 0x06_8800_0002. -/
theorem test_tilth_words : tOp 0x168000000A = 5 ∧ tRa 0x168000000A = 5 ∧ tI 0x168000000A = false ∧ tOp 0x0688000002 = 1 ∧ tRa 0x0688000002 = 5 ∧
    tI 0x0688000002 = true ∧ tImm 0x0688000002 = 2 := by decide
/-- R10: the octets of an almanac number, least significant first. -/
theorem test_word_octets : wordOctets 0x0000012C3A = [0x3A, 0x2C, 0x01, 0x00, 0x00] := by decide
/-- R419, R436: a flipped data bit 0 has the syndrome 0x07, data bit 13 has 0x29, and both are corrected. -/
theorem test_syndromes : syndrome (encode47 0x1234 ^^^ 1) = 0x07 ∧ syndrome (encode47 0x1234 ^^^ 0x2000) = 0x29 ∧
    decode47 (encode47 0x1234 ^^^ 1) = .corrected 0x1234 ∧ decode47 poison47 = .poison := by decide
/-- R255's example: the header and the nonce of a sheaf. -/
theorem test_sheaf_header_and_nonce : releaseHeader 0x30A1C 1 19 = [0x13, 0x00, 0x1C, 0x0A, 0x01, 0x00, 0x00, 0x13, 0x00, 0x00, 0x00, 0x00] ∧
    releaseNonce 0x5E002231 0 0x30A1C 1 5 = [0x00, 0x5E, 0x00, 0x22, 0x31, 0x00, 0x00, 0x00, 0x03, 0x0A, 0x1C, 0x01, 0x05] := by decide
/-- R49's example: SYS_NOP at host sequence 0x01F4 of context 2. -/
theorem test_sys_nop_header : commandHead .sysNop { h0 with ctx := 2, seq := 0x01F4 } [] =
    [0x10, 0x02, 0xF4, 0x01, 0x01, 0x00, 0x00, 0x00, 0x00, 0x00, 0x00, 0x00] := by decide
/-- R225's example: the codes by coil of a plan of coils 0, 1, 4, 5, 8 and 9. -/
def mopedCode : Nat → Nat := coilCode 0x985410 0x600 (BitVec.ofNat 12 0x100) [0xA2, 0x9C, 0xB8, 0xB4, 0x31, 0x6A]
def rangesFrom (l : List (Nat × Nat)) : Zone := { name := [], lo := (List.range 12).map (fun c => BitVec.ofNat 8 ((l.lookup c).getD 0)), hi := List.replicate 12 255 }
/-- R225's example: coil 8 is silent, and the fob is in SADDLE, the first of the four zones. -/
theorem test_moped_zone : (List.range 12).map mopedCode = [162, 156, 0, 0, 184, 180, 0, 0, 0, 106, 0, 0] ∧
    classify [rangesFrom [(4, 176), (5, 170)], rangesFrom [(0, 170), (1, 170)], rangesFrom [(0, 120)], rangesFrom []] mopedCode = 0 ∧
    classify [rangesFrom [(4, 186), (5, 170)], rangesFrom [(0, 170), (1, 170)], rangesFrom [(0, 120)], rangesFrom []] mopedCode = 2 := by decide

/-- FIPS 197, appendix B (published vector). -/
theorem test_aes_fips197 : aesEnc [0x2b,0x7e,0x15,0x16,0x28,0xae,0xd2,0xa6,0xab,0xf7,0x15,0x88,0x09,0xcf,0x4f,0x3c]
    [0x32,0x43,0xf6,0xa8,0x88,0x5a,0x30,0x8d,0x31,0x31,0x98,0xa2,0xe0,0x37,0x07,0x34] =
    [0x39,0x25,0x84,0x1d,0x02,0xdc,0x09,0xfb,0xdc,0x11,0x85,0x97,0x19,0x6a,0x0b,0x32] := by decide +kernel
/-- The check value of CRC-32C, of the characters 1 to 9. -/
theorem test_crc32c_check : crc32c [0x31,0x32,0x33,0x34,0x35,0x36,0x37,0x38,0x39] = 0xE3069283#32 := by decide +kernel
/-- RFC 4493, example 2 (published vector). -/
theorem test_cmac_rfc4493 : cmac [0x2b,0x7e,0x15,0x16,0x28,0xae,0xd2,0xa6,0xab,0xf7,0x15,0x88,0x09,0xcf,0x4f,0x3c]
    [0x6b,0xc1,0xbe,0xe2,0x2e,0x40,0x9f,0x96,0xe9,0x3d,0x7e,0x11,0x73,0x93,0x17,0x2a] =
    [0x07,0x0a,0x16,0xb4,0x6b,0x4d,0x41,0x44,0xf7,0x9b,0xdd,0x9d,0xd0,0x4a,0x28,0x7c] := by decide +kernel

end Sys2Proof.Tests
end

section
/-!
PROOFS. R73, R75: which opcodes are journaled, and what acceptance and refusal do to the almanac and the working ring.
-/
namespace Sys2Proof.Machine

open Sys2Proof

/-! ## The opcodes that are not journaled (R57, R73) -/

/-- The Read opcodes column of R57, as a list. -/
def Op.readColumn : List Op :=
  [.sysNop, .sysIdentify, .sysStatus, .sysRegRead, .jrnRead, .jrnStatus, .jrnLookup, .pwrResidencyRead, .pwrWakeRecordRead, .lfDiagnose,
   .uwbCirRead, .crdRosterRead, .crdLockoutStatus, .crdRoundResultRead, .hrvStatus, .seqStatus, .cphKeyInfo, .ntcRead, .ntcCaptureRead,
   .ntcCalendarRead, .tmrRead, .tmrReadPair, .tmrSnapshotAll, .memFaultLogRead, .nvmStatus, .nvmTallyRead]

theorem Op.isRead_iff_mem_readColumn (op : Op) : op.isRead = true ↔ op ∈ Op.readColumn := by cases op <;> decide

theorem Op.journaled_eq_false_iff (op : Op) :
    op.journaled = false ↔ op ∈ Op.readColumn ++ [.hstEventRead, .memRead, .nvmRead] := by
  rw [List.mem_append, ← Op.isRead_iff_mem_readColumn, Op.journaled, Bool.not_eq_false']
  simp [or_assoc]

/-! ## A run of words written inside one bank (R416, R420) -/

/-- R433: the map moves whole banks, so two addresses of one bank never share a word. -/
theorem Mem.eq_of_phys_eq (m : Mem) {a c : Nat} (hb : a / 16384 = c / 16384) (h : m.phys a = m.phys c) : a = c := by
  simp only [Mem.phys, hb] at h
  split at h <;> omega

theorem Mem.write_cells_rise (m : Mem) (a : Nat) (w : Word) (h : keysRise m.cells = true) : keysRise (m.write a w).cells = true :=
  alPut_rise _ _ _ _ h

theorem Mem.stored_write_same (m : Mem) (a : Nat) (w : Word) (h : keysRise m.cells = true) : (m.write a w).stored a = encode47 w := by
  rw [Mem.write, Mem.stored_poke _ _ _ _ h, if_pos rfl]

theorem Mem.stored_write_ne (m : Mem) {a c : Nat} (w : Word) (h : keysRise m.cells = true) (hb : c / 16384 = a / 16384) (hc : c ≠ a) :
    (m.write a w).stored c = m.stored c := by
  rw [Mem.write, Mem.stored_poke _ _ _ _ h, if_neg fun e => hc (m.eq_of_phys_eq hb e)]

/-- A run leaves the words of its bank that stand below it. -/
theorem Mem.stored_writeRun_below (ws : List Word) : ∀ (m : Mem) (a c : Nat), keysRise m.cells = true → c < a →
    a % 16384 + ws.length ≤ 16384 → c / 16384 = a / 16384 → (m.writeRun a ws).stored c = m.stored c := by
  induction ws with
  | nil => exact fun _ _ _ _ _ _ _ => rfl
  | cons w r ih =>
    intro m a c h hc hl hb
    have hw : (m.write a w).stored c = m.stored c := m.stored_write_ne w h hb (by omega)
    rw [List.length_cons] at hl
    cases r with
    | nil => exact hw
    | cons x y =>
      rw [List.length_cons] at hl
      exact (ih _ (a + 1) c (m.write_cells_rise a w h) (by omega) (by rw [List.length_cons]; omega) (by omega)).trans hw

/-- R420: each word of a run inside one bank is stored as its valid code. -/
theorem Mem.stored_writeRun (ws : List Word) : ∀ (m : Mem) (a : Nat), keysRise m.cells = true → a % 16384 + ws.length ≤ 16384 →
    ∀ i < ws.length, (m.writeRun a ws).stored (a + i) = encode47 (ws.getD i 0) := by
  induction ws with
  | nil => exact fun _ _ _ _ i hi => absurd hi (Nat.not_lt_zero i)
  | cons w r ih =>
    intro m a h hl i hi
    rw [List.length_cons] at hl hi
    have hr : keysRise (m.write a w).cells = true := m.write_cells_rise a w h
    cases i with
    | zero =>
      have hw : (m.write a w).stored a = encode47 w := m.stored_write_same a w h
      cases r with
      | nil => exact hw
      | cons x y =>
        rw [List.length_cons] at hl
        exact (Mem.stored_writeRun_below _ _ (a + 1) a hr (by omega) (by rw [List.length_cons]; omega) (by omega)).trans hw
    | succ j =>
      have := ih (m.write a w) (a + 1) hr (by omega) j (by omega)
      rwa [show a + 1 + j = a + (j + 1) by omega] at this

/-- R80: the ring's slots fill their bank from its first word on. -/
theorem ringAddr_mod (k : Nat) (hk : k < 2048) : ringAddr k % 16384 = 5 * k := Nat.mul_add_mod_of_lt (by omega)

/-- R80: an entry written to a slot of the working ring stands there, word by word. -/
theorem State.ringPut_stored (s : State) (e : Entry) (h : s.mem.wf = true) (hd : s.jrn.head < 2048) :
    ∀ i < 5, (s.ringPut e).mem.stored (ringAddr s.jrn.head + i) = encode47 (e.words.getD i 0) := by
  rw [State.ringPut_mem]
  exact Mem.stored_writeRun e.words _ _ ((Mem.wf_iff _).1 h).1 (by rw [Entry.words_length, ringAddr_mod _ hd]; omega)

/-! ## Acceptance (R52, R73, R75) -/

/-- R75: the five words of a command's entry at acceptance: its number, the stamp, who sent what, the flags, and the digest. -/
theorem State.newEntry_words (s : State) (op : Op) (h : Hdr) (role : Role) (p : Octets) (n : Word) :
    Entry.words { s.newEntry op h role p with seq := n } =
      [n, s.aon.calendar,
       put 0 16 op.code ||| put 16 16 h.seq.toNat ||| put 32 3 h.ctx.val ||| put 35 3 role.code ||| put 38 2 (portIx h.port).val,
       put 0 16 0xFFFF ||| flag 16 true ||| flag 17 op.security ||| flag 20 h.retry,
       put 0 32 (crc32c (digested op p)).toNat] := by
  have hcode : op.code % 65536 = op.code := Nat.mod_eq_of_lt op.code_lt
  have hrole : role.code % 8 = role.code := by cases role <;> rfl
  have hdispatch : put 24 16 0 = 0 := by decide
  simp [Entry.words, State.newEntry, Entry.none, flag, hcode, hrole, hdispatch]

/-- Both the almanac and working memory of `t` are those of `s`. -/
abbrev State.SameRing (s t : State) : Prop := t.jrn = s.jrn ∧ t.mem = s.mem

/-- R58: cutting a session that has no command pending writes no entry. -/
theorem State.sameRing_sessionCut (s : State) (n : Fin 8) (h : (s.ctx n).cmds = []) : s.SameRing (s.sessionCut n) := by
  simp [State.SameRing, State.sessionCut, h]

/-- R53, R73: a reply outside the queue goes to its port and writes no entry. -/
theorem State.sameRing_answerPkt (s : State) (h : Hdr) (high code key : Nat) (st : Status) (jseq : Word) (d : Octets) :
    s.SameRing (s.answerPkt h high code key st jseq d) := by
  unfold State.answerPkt State.sendReply
  split <;> exact ⟨rfl, rfl⟩

/-- R73, R86: a repeat receives no entry. -/
theorem State.sameRing_repeated (s : State) (h : Hdr) (code : Nat) (p : Octets) (e : Seen) : s.SameRing (s.repeated h code p e) := by
  simp only [State.repeated]
  split
  · exact ⟨rfl, rfl⟩
  · exact State.sameRing_answerPkt ..

/-- R52, R58: an accepted command of a session without pending commands: `u` is its state once its entry is written, and whether its
session is cut or not, no entry is discarded. -/
theorem State.SameRing.cut_or_not {s u : State} (hu : s.SameRing u) {n : Fin 8} (h : (u.ctx n).cmds = []) (b : Prop) [Decidable b] :
    s.SameRing (if b then u.sessionCut n else u) := by
  split
  · exact ⟨(u.sameRing_sessionCut n h).1.trans hu.1, (u.sameRing_sessionCut n h).2.trans hu.2⟩
  · exact hu

/-- R73: taking a number is all that acceptance does to the almanac, whatever the opcode. -/
theorem State.Ready.sameRing_accept {s : State} {op : Op} {h : Hdr} {p : Octets} {obs : Obs} (r : s.Ready op h p obs) :
    (s.numbered op h p).SameRing (s.accept op h p obs) := by
  obtain ⟨⟨hc, -, -⟩, -, -, -, hv, ho, hpt, -, -, -, -, hx, hn, -, -⟩ := r
  have hq := s.quiet_numbered op h p
  have hrole : (s.ctx h.ctx).roleNow = (s.ctx h.ctx).role := by simp [Ctx.roleNow, hc h.ctx]
  have hnum : (if op.journaled then s.number (s.newEntry op h (s.ctx h.ctx).role p) else (s, Entry.none)).1 = s.numbered op h p := by
    unfold State.numbered
    split
    · rw [s.number_ready _ hx hn]
    · rfl
  have hvisit : (s.numbered op h p).visitOver = s.numbered op h p := State.visitOver_of _ (by rw [State.pwr_of hq.outside]; exact hv)
  have hcmds : (((s.numbered op h p).active op).ctx h.ctx).cmds = [] := by rw [State.active_ctx, hq.cmds, hc]
  have hactive : (s.numbered op h p).SameRing ((s.numbered op h p).active op) := ⟨State.active_jrn .., State.active_mem ..⟩
  simp only [State.accept, hrole, hnum, hvisit, ho, hpt, decide_true, Bool.and_true, Bool.not_true, Bool.and_false, Bool.false_eq_true,
    if_false]
  exact hactive.cut_or_not hcmds _

/-- R73, R75: an accepted journaled command takes the next number, and its entry stands in the next slot of the ring. -/
theorem State.Ready.accept_journaled {s : State} {op : Op} {h : Hdr} {p : Octets} {obs : Obs} (r : s.Ready op h p obs)
    (hj : op.journaled = true) (hm : s.mem.wf = true) :
    (s.accept op h p obs).jrn =
      { s.jrn with next := s.jrn.next + 1, head := (s.jrn.head + 1) % 2048, count := satSucc s.jrn.count 2048 } ∧
    ∀ i < 5, (s.accept op h p obs).mem.stored (ringAddr s.jrn.head + i) =
      encode47 ((Entry.words { s.newEntry op h (s.ctx h.ctx).role p with seq := BitVec.ofNat 40 s.jrn.next }).getD i 0) := by
  obtain ⟨ej, em⟩ := r.sameRing_accept
  obtain ⟨-, -, -, -, -, -, -, -, -, -, -, -, -, hd, -⟩ := r
  rw [ej, em, State.numbered, if_pos hj, State.ringPut_jrn]
  exact ⟨rfl, State.ringPut_stored _ _ hm hd⟩

/-! ## Refusals and repeats (R52, R73, R86) -/

/-- R52, R73: a command of an open context that is a repeat, or that a check refuses, leaves the almanac and the ring. -/
theorem State.sameRing_takeIn_refused (s : State) (op : Op) (h : Hdr) (p : Octets) (obs : Obs) (ho : (s.ctx h.ctx).isOpen = true)
    (hpt : (s.ctx h.ctx).port = h.port)
    (hr : (s.ctx h.ctx).seen? h.seq ≠ none ∨ (s.ctx h.ctx).roleNow.may op = false ∨ op.lenOk p = false ∨
      (4 ≤ (s.ctx h.ctx).cmds.length ∧ op ≠ .hstClose ∧ op ≠ .hstOpen)) :
    s.SameRing (s.takeIn h op.code p obs false) := by
  simp only [State.takeIn, ho, hpt, decide_true, Bool.and_true, if_true, Op.ofCode_code]
  split
  next e _ => exact s.sameRing_repeated h op.code p e
  next hnew =>
    split
    · exact State.sameRing_answerPkt ..
    next hmay =>
      split
      · exact State.sameRing_answerPkt ..
      next hlen =>
        split
        · exact State.sameRing_answerPkt ..
        next hroom =>
          -- Every check passed, against `hr`.
          exact absurd hr (by simp_all)

/-- Settles O59: the opcodes by the Read column of R57, acceptance by what taking a number does, refusals by each being a reply only. -/
theorem acceptedCommandsAreNumbered : Obligations.AcceptedCommandsAreNumbered := by
  refine ⟨Op.journaled_eq_false_iff, ?_, ?_, ?_⟩
  · intro s op h p obs r hj hm
    obtain ⟨ej, em⟩ := r.accept_journaled hj hm.1
    rw [State.newEntry_words] at em
    rw [ej]
    exact ⟨rfl, rfl, rfl, em⟩
  · intro s op h p obs r hj
    have hs := r.sameRing_accept
    rwa [State.numbered, if_neg (by simp [hj])] at hs
  · exact State.sameRing_takeIn_refused

end Sys2Proof.Machine
end

section
/-!
PROOFS. R286 to R289: the waits and signals of Tilth.
-/
namespace Sys2Proof.Machine

open Sys2Proof

/-! ## One sequencer changed in a calm state -/

@[simp] theorem State.sq_modSeq_self (s : State) (n : Fin 3) (f : Seq → Seq) : (s.modSeq n f).sq n = f (s.sq n) := by
  simp [State.sq, State.modSeq]

theorem State.sq_modSeq_ne (s : State) {n m : Fin 3} (h : m ≠ n) (f : Seq → Seq) : (s.modSeq n f).sq m = s.sq m :=
  Vector.getElem_set_ne n.isLt m.isLt fun e => h (Fin.ext e.symm)

theorem State.modSeq_congr (s : State) (n : Fin 3) {f g : Seq → Seq} (h : f (s.sq n) = g (s.sq n)) : s.modSeq n f = s.modSeq n g := by
  simp only [State.modSeq, h]

/-- R283: a program that something holds up, or that stands inside its image, has not run off. -/
abbrev Seq.Stays (q : Seq) : Prop := q.stall ≠ .none ∨ q.pc < q.image.code.length

theorem Seq.Stays.ranOff {s : State} {n : Fin 3} (h : (s.sq n).Stays) : s.ranOff n = false := by
  rcases h with h | h
  · simp [State.ranOff, h]
  · simp [State.ranOff, Nat.not_le.2 h]

theorem State.Calm.ranOff {s : State} (h : s.Calm) (n : Fin 3) : s.ranOff n = false := h.2.2 n

theorem State.Calm.modSeq {s : State} (h : s.Calm) {n : Fin 3} {f : Seq → Seq} (hr : (s.modSeq n f).ranOff n = false) : (s.modSeq n f).Calm := by
  obtain ⟨hc, hh, ho⟩ := h
  refine ⟨hc, hh, fun m => ?_⟩
  by_cases e : m = n
  · exact e ▸ hr
  · simpa only [State.ranOff, State.sq_modSeq_ne s e] using ho m

/-- Nothing follows an instruction that makes `g` of its sequencer and leaves it stalled, or inside its image. -/
theorem State.settle_modSeq {s : State} (h : s.Calm) {n : Fin 3} {f g : Seq → Seq} (e : f (s.sq n) = g (s.sq n))
    (hg : (g (s.sq n)).Stays) : (s.modSeq n f).settle = s.modSeq n g := by
  rw [State.modSeq_congr s n e]
  exact State.settle_calm _ (h.modSeq (Seq.Stays.ranOff (by rwa [State.sq_modSeq_self])))

/-! ## The instruction a sequencer stands at (R281) -/

theorem State.runOp_of_fetchOp {s : State} {n : Fin 3} {op : Nat} {w : Word} (h : s.fetchOp n op = some w) (f : Word → State) :
    s.runOp n op f = f w := by
  rw [State.runOp, h]

theorem State.Calm.next' {s : State} (h : s.Calm) {n : Fin 3} (hp : (s.sq n).pc + 1 < (s.sq n).image.code.length) :
    (s.modSeq n Seq.next').Calm :=
  h.modSeq (Seq.Stays.ranOff (Or.inr (by rwa [State.sq_modSeq_self])))

/-! ## WAIT_TIME (R286) -/

theorem exec_waitTime {s : State} {n : Fin 3} {w : Word} {x : Bool} {g : Seq → Seq} (hs : s.Calm) (hw : s.fetchOp n 0x10 = some w)
    (e : s.waitTime n w x = s.modSeq n g) (hg : (g (s.sq n)).Stays) :
    exec (.waitTime n x) s = .next (s.modSeq n g) := by
  have run : exec (.waitTime n x) s = .next (s.runOp n 0x10 (fun w => s.waitTime n w x)).settle := rfl
  rw [run, State.runOp_of_fetchOp hw, e, State.settle_modSeq hs rfl hg]

/-- The count of a WAIT_TIME: the immediate, or the low 24 bits of RB. -/
def Seq.waitCount (q : Seq) (w : Word) : Nat := if tI w then fld w 0 24 else fld (q.reg (tRb w)) 0 24

theorem State.waitTime_relative (s : State) (n : Fin 3) {w : Word} (x : Bool) (h : bit w 24 = false) :
    s.waitTime n w x = s.modSeq n (fun q => { q with stall := .time (fld w 25 2) (q.waitCount w) s.aon.tick }) := by
  simp only [State.waitTime, h]
  rfl

/-- An absolute time that cannot have passed holds the program, whatever `x` says. -/
theorem State.waitTime_ahead (s : State) (n : Fin 3) {w : Word} (x : Bool) (h : bit w 24 = true)
    (hm : s.maybePast (fld w 25 2) ((s.sq n).waitCount w) (s.age (s.sq n).began) = false)
    (hs : s.surelyPast (fld w 25 2) ((s.sq n).waitCount w) (s.age (s.sq n).began) = false) :
    s.waitTime n w x = s.modSeq n (fun q => { q with stall := .time (fld w 25 2) ((s.sq n).waitCount w) q.began }) := by
  rw [Seq.waitCount] at *
  simp only [State.waitTime, h, hm, hs, if_true, Bool.false_and, Bool.or_false, Bool.false_eq_true, if_false]

theorem State.waitTime_past (s : State) (n : Fin 3) {w : Word} (x : Bool) (h : bit w 24 = true)
    (hs : s.surelyPast (fld w 25 2) ((s.sq n).waitCount w) (s.age (s.sq n).began) = true) :
    s.waitTime n w x = s.modSeq n (fun q => { q with regs := q.regs.set (tRa w) 1, pc := q.pc + 1 }) := by
  rw [Seq.waitCount] at hs
  simp only [State.waitTime, h, hs, if_true, Bool.true_or]
  rfl

theorem State.waitTimeEnd_due (s : State) (n : Fin 3) {w since : Word} {u c : Nat} (hst : (s.sq n).stall = .time u c since)
    (hr : (s.sq n).inRound = true) (he : (s.sq n).ending = false) (hw : (s.sq n).image.code[(s.sq n).pc]? = some w)
    (hm : s.maybePast u c (s.age since) = true) :
    s.waitTimeEnd n = s.modSeq n (fun q => { q with regs := q.regs.set (tRa w) 0, pc := q.pc + 1, stall := .none }) := by
  simp only [State.waitTimeEnd, hst, hw, hr, he, hm, Bool.not_false, Bool.and_true, if_true]
  rfl

/-! ## WAIT_EVENT and the lines (R288) -/

theorem exec_waitEvent {s : State} {n : Fin 3} {w : Word} {g : Seq → Seq} (hs : s.Calm) (hw : s.fetchOp n 0x11 = some w)
    (e : (s.sq n).waitEvent w = g (s.sq n)) (hg : (g (s.sq n)).Stays) :
    exec (.waitEvent n) s = .next (s.modSeq n g) := by
  have run : exec (.waitEvent n) s = .next (s.runOp n 0x11 (fun w => s.modSeq n (fun q => q.waitEvent w))).settle := rfl
  rw [run, State.runOp_of_fetchOp hw, State.settle_modSeq hs e hg]

theorem lowestLine_eq_some {b : BitVec 16} {k : Nat} (hk : k < 16) (h : b.getLsbD k = true) (hj : ∀ j < k, b.getLsbD j = false) :
    lowestLine b = some k := by
  rw [lowestLine, List.find?_range_eq_some]
  exact ⟨h, List.mem_range.2 hk, fun j hlt => by simp [hj j hlt]⟩

theorem lowestLine_zero : lowestLine 0 = none := by decide

theorem Seq.waitEvent_latched (q : Seq) {w : Word} {k : Nat} (h : lowestLine (q.lines &&& BitVec.ofNat 16 (fld w 0 16)) = some k) :
    q.waitEvent w = { q with
      lines := q.lines &&& ~~~BitVec.ofNat 16 (2 ^ k), regs := q.regs.set (tRa w) (BitVec.ofNat 40 k), pc := q.pc + 1 } := by
  simp only [Seq.waitEvent, h, Nat.one_shiftLeft]
  rfl

theorem Seq.waitEvent_none (q : Seq) {w : Word} (h : q.lines &&& BitVec.ofNat 16 (fld w 0 16) = 0) :
    q.waitEvent w = { q with stall := .event (BitVec.ofNat 16 (fld w 0 16)) (tRa w) } := by
  simp only [Seq.waitEvent, h, lowestLine_zero]

/-- A line of a program that waits for no event is latched beside those it has. -/
theorem Seq.latchLine_of_running (q : Seq) (i : Nat) (h : q.stall = .none) :
    q.latchLine i = { q with lines := q.lines ||| BitVec.ofNat 16 (2 ^ i) } := by
  simp only [Seq.latchLine, h, Nat.one_shiftLeft]

/-- The one line a program waits for, with none latched, is taken as it comes. -/
theorem Seq.latchLine_of_awaited (q : Seq) {i : Nat} (hi : i < 16) {ra : Fin 8} (h : q.stall = .event (BitVec.ofNat 16 (2 ^ i)) ra)
    (hl : q.lines = 0) :
    q.latchLine i = { q with regs := q.regs.set ra (BitVec.ofNat 40 i), stall := .none, pc := q.pc + 1 } := by
  have hlow : lowestLine (BitVec.ofNat 16 (2 ^ i)) = some i := by
    refine lowestLine_eq_some hi ?_ fun j hj => ?_
    · rw [BitVec.getLsbD_ofNat, Nat.testBit_two_pow_self, decide_eq_true hi]; rfl
    · rw [BitVec.getLsbD_ofNat, Nat.testBit_two_pow_of_ne (Nat.ne_of_gt hj), Bool.and_false]
  have hor : 0#16 ||| BitVec.ofNat 16 (2 ^ i) = BitVec.ofNat 16 (2 ^ i) := BitVec.zero_or
  have hand : BitVec.ofNat 16 (2 ^ i) &&& ~~~BitVec.ofNat 16 (2 ^ i) = 0 := BitVec.and_not_self _
  simp only [Seq.latchLine, h, Nat.one_shiftLeft, hl, BitVec.ofNat_eq_ofNat, hor, BitVec.and_self, hlow, hand, Seq.setReg]

/-! ## SIGNAL (R289) -/

theorem fld_lt (w : Word) (lo len : Nat) : fld w lo len < 2 ^ len := Nat.mod_lt _ (Nat.two_pow_pos _)

/-- The target's state, once the program that signals has gone on: only the running sequencer has moved, and only its index. -/
theorem State.sq_next' (s : State) (n t : Fin 3) : (s.modSeq n Seq.next').sq t = if t = n then (s.sq t).next' else s.sq t := by
  split
  · next e => subst e; exact s.sq_modSeq_self _ _
  · next e => exact s.sq_modSeq_ne e _

theorem State.unit_next' (s : State) (n t : Fin 3) : ((s.modSeq n Seq.next').sq t).unit = (s.sq t).unit := by
  rw [State.sq_next']; split <;> rfl

theorem State.stall_next' (s : State) (n t : Fin 3) : ((s.modSeq n Seq.next').sq t).stall = (s.sq t).stall := by
  rw [State.sq_next']; split <;> rfl

theorem exec_signal_off {s : State} {n t : Fin 3} {w : Word} (hs : s.Calm) (hw : s.fetchOp n 0x12 = some w)
    (hp : (s.sq n).pc + 1 < (s.sq n).image.code.length) (ht : fld w 0 2 = t.val) (hoff : (s.sq t).unit = .off) :
    exec (.signal n) s = .next (s.modSeq n Seq.next') := by
  have run : exec (.signal n) s = .next (s.runOp n 0x12 (fun w => s.signalInstr n w)).settle := rfl
  rw [run, State.runOp_of_fetchOp hw, State.signalInstr, ht, Fin.ofNat_val_eq_self]
  simp only [State.unit_next', hoff, if_true, State.settle_calm _ (hs.next' hp)]

/-- SIGNAL to a sequencer that is not OFF: the program goes on, and what latching the line makes of the target follows. -/
theorem exec_signal_on {s : State} {n t : Fin 3} {w : Word} {g : Seq → Seq} (hs : s.Calm) (hw : s.fetchOp n 0x12 = some w)
    (hp : (s.sq n).pc + 1 < (s.sq n).image.code.length) (ht : fld w 0 2 = t.val) (hon : (s.sq t).unit ≠ .off)
    (e : ((s.modSeq n Seq.next').sq t).latchLine (fld w 2 2) = g ((s.modSeq n Seq.next').sq t))
    (hg : ((s.modSeq n Seq.next').modSeq t g).ranOff t = false) :
    exec (.signal n) s = .next ((s.modSeq n Seq.next').modSeq t g) := by
  have run : exec (.signal n) s = .next (s.runOp n 0x12 (fun w => s.signalInstr n w)).settle := rfl
  rw [run, State.runOp_of_fetchOp hw, State.signalInstr, ht, Fin.ofNat_val_eq_self]
  simp only [State.unit_next', hon, if_false]
  rw [State.modSeq_congr _ t e, State.settle_calm _ ((hs.next' hp).modSeq hg)]

/-- R283, R288: the lines latched do not bear on whether a program has run off. -/
theorem State.ranOff_lines (s : State) (n : Fin 3) (f : Seq → BitVec 16) : (s.modSeq n (fun q => { q with lines := f q })).ranOff n = s.ranOff n := by
  simp only [State.ranOff, State.sq_modSeq_self]

/-- Settles O27: each clause is what the instruction makes of its sequencer, or of its target, after which a calm state stays as it is. -/
theorem tilthWaitsAndSignals : Obligations.TilthWaitsAndSignals := by
  unfold Obligations.TilthWaitsAndSignals
  refine ⟨?_, ?_, ?_, ?_, ?_, ?_, ?_, ?_, ?_⟩
  · intro s n w x hs hw hb
    exact exec_waitTime hs hw (s.waitTime_relative n x hb) (Or.inl (by simp))
  · rintro s n w x c hs hw hb rfl hm hp
    exact exec_waitTime hs hw (s.waitTime_ahead n x hb hm hp) (Or.inl (by simp))
  · rintro s n w x c hs hw hb rfl hl hp
    exact exec_waitTime hs hw (s.waitTime_past n x hb hp) (Or.inr hl)
  · intro s n w since u c hs hst hr he hw hl hm
    have run : exec (.waitTimeEnd n) s = .next (s.waitTimeEnd n).settle := rfl
    rw [run, s.waitTimeEnd_due n hst hr he hw hm, State.settle_modSeq hs rfl (Or.inr hl)]
  · intro s n w k hs hw hl hk hline hmask hlow
    have hfirst : lowestLine ((s.sq n).lines &&& BitVec.ofNat 16 (fld w 0 16)) = some k := by
      refine lowestLine_eq_some hk ?_ fun j hj => ?_
      · rw [BitVec.getLsbD_and, BitVec.getLsbD_ofNat, hline, hmask, decide_eq_true hk]; rfl
      · rw [BitVec.getLsbD_and, BitVec.getLsbD_ofNat, decide_eq_true (Nat.lt_trans hj hk), Bool.true_and, hlow j hj]
    exact exec_waitEvent hs hw (Seq.waitEvent_latched _ hfirst) (Or.inr hl)
  · intro s n w hs hw h0
    exact exec_waitEvent hs hw (Seq.waitEvent_none _ h0) (Or.inl (by simp))
  · intro s n t w hs hw hl ht hon hst
    refine exec_signal_on hs hw hl ht hon (Seq.latchLine_of_running _ _ ((s.stall_next' n t).trans hst)) ?_
    exact (State.ranOff_lines _ t _).trans ((hs.next' hl).ranOff t)
  · intro s n t w ra hs hw hl ht hne hon hst hl' h0
    have ht' : (s.modSeq n Seq.next').sq t = s.sq t := s.sq_modSeq_ne hne _
    refine exec_signal_on hs hw hl ht hon (Seq.latchLine_of_awaited _ (Nat.lt_trans (fld_lt w 2 2) (by decide)) (ht'.symm ▸ hst) (ht'.symm ▸ h0)) ?_
    exact Seq.Stays.ranOff (Or.inr (by rw [State.sq_modSeq_self, ht']; exact hl'))
  · intro s n t w hs hw hl ht hoff
    exact exec_signal_off hs hw hl ht hoff

end Sys2Proof.Machine
end

section
/-!
PROOFS. R301: the first chunk of a load, in a working memory that is not in canonical form.
-/
namespace Sys2Proof.Machine

open Sys2Proof

/-- Context 0 is open on SPI-A, almanac number 0 is the next, and the sparse list of working memory is out of order (R416): it lists a word of
the almanac's next slot before the first word of the staging area, whose address is the lower one. -/
def misordered : State :=
  { State.reset.modCtx 0 (fun c => { c with isOpen := true, role := .service }) with
    jrn := { Jrn.reset with next := 0 }
    mem := { Mem.reset with cells := [(ringAddr 1, 1), (stageBase, 1)] } }

/-- A command of context 0 on SPI-A. -/
def spiHdr : Hdr := { port := .spiA, ctx := 0, seq := 1, retry := false, src := 0, cmac := 0 }

/-- R489: a first chunk for sequencer 0 that is not the last: one zero word. -/
def zeroChunk : Octets := [0, 1, 0, 0, 0, 0, 0, 0, 0]

theorem misordered_ready : misordered.Ready .seqLoad spiHdr zeroChunk .none := by decide +kernel

/-- The zero word of the entry takes the slot's word off the list; the chunk's zero word then finds the staged word and removes it. -/
theorem misordered_loaded : alGet 0 (misordered.command .seqLoad spiHdr zeroChunk .none).mem.cells stageBase = 0 := by decide +kernel

/-- Without the entry, the chunk's zero word comes no further than the slot's word, and the staged word stays. -/
theorem misordered_written : alGet 0 (misordered.mem.writeRun stageBase (wordsOf (zeroChunk.drop 4) 1)).cells stageBase = 1 := by decide

/-- Refutes O25: its first clause asks nothing of the working memory. Where the sparse list is out of order (R416), the almanac's entry for the
command changes what the chunk's write then leaves at the first word of the staging area, which is outside the bank of the ring. -/
theorem not_sequencersAreLoadedAndRun : ¬ Obligations.SequencersAreLoadedAndRun := by
  unfold Obligations.SequencersAreLoadedAndRun
  rintro ⟨first, -⟩
  obtain ⟨t, ht, -, hb⟩ := first misordered spiHdr zeroChunk misordered_ready (by decide) (by decide) (by decide) (by decide) rfl
  have et : misordered.command .seqLoad spiHdr zeroChunk .none = t := Host.Outcome.next.inj ht
  have hcell : alGet 0 t.mem.cells stageBase = alGet 0 (misordered.mem.writeRun stageBase (wordsOf (zeroChunk.drop 4) 1)).cells stageBase :=
    hb.mem.cells 0 stageBase (by decide)
  rw [← et, misordered_loaded, misordered_written] at hcell
  exact absurd hcell (by decide)

end Sys2Proof.Machine
end

section
/-!
PROOFS. R82, R451, R62: a command that waits for the seal of what it wrote, and the completion of the one command that waits.
-/
namespace Sys2Proof.Machine

open Sys2Proof

/-! ## Something left to seal (R450, R451) -/

/-- R451: a page of the buffer, or a write that waits for room in it, is not sealed yet. -/
def Nvm.Unsealed (n : Nvm) : Prop := n.bufPages ≠ [] ∨ n.backlog ≠ []

theorem Nvm.Unsealed.of_dirty {n : Nvm} (h : n.dirty ≠ []) : n.Unsealed := by
  refine Or.inl ?_
  unfold Nvm.bufPages
  split
  · exact h
  · exact List.append_ne_nil_of_left_ne_nil h _

theorem Nvm.Unsealed.startCommit {n : Nvm} (h : n.Unsealed) : n.startCommit.Unsealed := by
  cases hc : n.commit with
  | some c => simpa only [Nvm.Unsealed, Nvm.bufPages, Nvm.startCommit, hc] using h
  | none =>
    by_cases hd : n.dirty = []
    · simpa [Nvm.startCommit, hc, hd] using h
    · have pages : n.startCommit.bufPages = n.dirty := by
        simp only [Nvm.startCommit, Nvm.bufPages, hc, List.isEmpty_iff, hd, if_false, List.nil_append, List.contains_nil, Bool.not_false]
        exact List.filter_eq_self.2 fun _ _ => rfl
      exact Or.inl (pages ▸ hd)

/-- The page of a word that is put into the buffer is dirty. -/
theorem Nvm.dirty_fillBuffer_ne_nil (n : Nvm) (now : Word) {l : List (Nat × Option Word)} (hl : l ≠ []) : (n.fillBuffer now l).dirty ≠ [] := by
  obtain ⟨kv, r, rfl⟩ := List.exists_cons_of_ne_nil hl
  by_cases hd : n.dirty = []
  · simp [Nvm.fillBuffer, hd, List.eraseDups_cons]
  · exact List.append_ne_nil_of_left_ne_nil hd _

/-- R450: words that are written are in the buffer or wait for room in it. -/
theorem Nvm.unsealed_bufWrite (n : Nvm) (now : Word) {l : List (Nat × Option Word)} (hl : l ≠ []) : (n.bufWrite now l).Unsealed := by
  unfold Nvm.bufWrite
  simp only
  split
  · exact .of_dirty (Nvm.dirty_fillBuffer_ne_nil _ now hl)
  · exact Nvm.Unsealed.startCommit (Or.inr (by simp))

theorem State.unsealed_nvPut (s : State) (k : Nat) (e : Entry) : (s.nvPut k e).nvm.Unsealed :=
  Nvm.unsealed_bufWrite _ _ (by simp [Entry.words])

theorem State.unsealed_secure {s : State} (hu : s.nvm.Unsealed) (n : Fin 8) (c : Cmd) (e : Entry) : (s.secure n c e).nvm.Unsealed := by
  unfold State.secure
  split
  · split
    · exact hu
    · exact s.unsealed_nvPut _ e
  · exact s.unsealed_nvPut _ e

theorem State.unsealed_sealStart {s : State} (hu : s.nvm.Unsealed) (n : Fin 8) (c : Cmd) (w : Wait) : (s.sealStart n c w).nvm.Unsealed := by
  unfold State.sealStart
  split
  · exact hu
  · split
    · exact (State.unsealed_secure hu n c _).startCommit
    · exact hu.startCommit

theorem State.sealed_of_unsealed {s : State} (hu : s.nvm.Unsealed) : s.sealed = s := by
  refine if_neg fun e => ?_
  simp only [Bool.and_eq_true, List.isEmpty_iff] at e
  obtain ⟨pages, backlog⟩ := e
  exact hu.elim (fun h => h pages) (fun h => h backlog)

/-! ## A command that waits for the seal -/

/-- The start of a wait keeps the one command, but for the slot of its entry in the non-volatile ring. -/
theorem State.cmds_sealStart {s : State} {n : Fin 8} {x : Cmd} (hown : (s.ctx n).cmds = [x]) (hoth : ∀ m, m ≠ n → (s.ctx m).cmds = [])
    {c : Cmd} (hq : c.seq = x.seq) (w : Wait) :
    (∃ k, ((s.sealStart n c w).ctx n).cmds = [{ x with nvAt := k }]) ∧ ∀ m, m ≠ n → ((s.sealStart n c w).ctx m).cmds = [] := by
  unfold State.sealStart
  split
  · exact ⟨⟨x.nvAt, hown⟩, hoth⟩
  next st _ =>
    split
    · obtain ⟨-, -, -, -, others, -, -, -, own⟩ := s.quiet_secure n c (c.entry.complete st false) x.seq hq x hown rfl
      exact ⟨own, fun m hm => (others m hm).trans (hoth m hm)⟩
    · exact ⟨⟨x.nvAt, hown⟩, hoth⟩

/-- While something is left to seal, nothing follows a dispatch whose one command waits for other than work in a gap. -/
theorem State.after_wait {s : State} {n : Fin 8} {x : Cmd} {w : Wait} (hown : (s.ctx n).cmds = [x]) (hoth : ∀ m, m ≠ n → (s.ctx m).cmds = [])
    (hx : x.phase = .running w) (hw : ∀ o, w ≠ .work o) (hu : s.nvm.Unsealed) (k : Nat) : (s.works.dispatchAll k).sealed.releaseAll = s := by
  have hph : ∀ m, ∀ c ∈ (s.ctx m).cmds, c.phase = .running w := by
    intro m c hc
    by_cases hm : m = n
    · rw [hm, hown, List.mem_singleton] at hc
      rw [hc, hx]
    · rw [hoth m hm] at hc
      cases hc
  have hready : ∀ m, (s.ctx m).ready? = none := by
    intro m
    by_cases hm : m = n
    · simp [Ctx.ready?, hm, hown, hx]
    · exact Ctx.ready?_nil (hoth m hm)
  rw [State.works_running s fun m c hc o e => hw o (Phase.running.inj ((hph m c hc).symm.trans e)),
    s.dispatchAll_none fun m c hc => by simp [Cmd.isWaiting, hph m c hc], State.sealed_of_unsealed hu, s.releaseAll_none hready]

/-- R62, R82: a command whose body writes to the store and waits for the seal stays pending. -/
theorem State.length_run_seal (s : State) (op : Op) (h : Hdr) (p : Octets) (obs : Obs) (hp : op.plain = true) (r : s.Ready op h p obs)
    (F : State → State) (W : State → Wait)
    (hb : ∀ t c, s.Taken op h p obs t c → opBody op t h.ctx c = (F t, .await (W t)))
    (hno : ∀ t o, W t ≠ .work o)
    (hc : ∀ t m, ((F t).ctx m).cmds = (t.ctx m).cmds)
    (hu : ∀ t, (F t).nvm.Unsealed) : ((s.command op h p obs).ctx h.ctx).cmds.length = 1 := by
  have tk := s.taken_atDispatch op h p obs hp r
  rw [s.command_dispatch op h p obs hp r, s.dispatch_body op h p obs hp r _ _ (hb _ _ tk), State.doneWith]
  generalize (s.atDispatch op h p obs).1 = t at *
  generalize (s.atDispatch op h p obs).2 = c at *
  obtain ⟨r1, r2, -⟩ := (F t).runningState h.ctx c h.seq tk.cseq (W t) ((hc t h.ctx).trans tk.own) fun m hm => (hc t m).trans (tk.others m hm)
  obtain ⟨⟨k, own⟩, others⟩ := State.cmds_sealStart r1 r2 (c := c) rfl (W t)
  rw [State.after_wait own others rfl (hno t) (State.unsealed_sealStart (by exact hu t) h.ctx c (W t)), own]
  rfl

/-! ## Commands that leave the state as it is -/

theorem State.active_of_not (s : State) {op : Op} (h : op.activity = false) : s.active op = s := if_neg (by simp [h])

/-- A command that its body answers without a change. -/
theorem State.run_unchanged (s : State) (op : Op) (h : Hdr) (p : Octets) (obs : Obs) (hp : op.plain = true) (ha : op.activity = false)
    (r : s.Ready op h p obs) (st : Status) (d : Octets)
    (hb : ∀ t c, s.Taken op h p obs t c → opBody op t h.ctx c = (t, .reply st d)) :
    s.Becomes (s.command op h p obs) ∧ s.Replies op h st d (s.command op h p obs) := by
  obtain ⟨u, -, becomes, replies⟩ := s.run_reply op h p obs hp r (fun t => t) st (fun _ => d) s hb (fun _ _ => rfl) fun t c tk => by
    simpa only [s.active_of_not ha] using tk.becomes
  exact ⟨becomes, replies rfl rfl rfl⟩

/-! ## The one command that waits completes (R53, R62) -/

theorem State.ranOff_of_seq {s t : State} (e : t.seq = s.seq) (k : Fin 3) : t.ranOff k = s.ranOff k := by
  unfold State.ranOff State.sq
  rw [e]

theorem State.Calm.nvm {s : State} (h : s.Calm) (v : Nvm) : ({ s with nvm := v } : State).Calm := h

theorem State.OneWaits.nvm {s : State} {n : Fin 8} {c : Cmd} {w : Wait} (h : s.OneWaits n c w) (v : Nvm) :
    ({ s with nvm := v } : State).OneWaits n c w := ⟨h.own, h.run, h.rest, h.held, h.ran, h.port, h.stays⟩

theorem State.secure_held (s : State) (n : Fin 8) (c : Cmd) (e : Entry) : (s.secure n c e).jrn.held = s.jrn.held := by
  unfold State.secure
  split
  · split <;> rfl
  · rfl

theorem State.journalDone_held (s : State) (n : Fin 8) (c : Cmd) (st : Status) (b : Bool) : (s.journalDone n c st b).jrn.held = s.jrn.held := by
  unfold State.journalDone
  split
  · rfl
  · dsimp only
    split
    · rw [State.secure_held, State.ringUpdate_jrn]
    · rw [State.ringUpdate_jrn]

theorem State.finish_held (s : State) (n : Fin 8) (q : BitVec 16) (st : Status) (d : Octets) : (s.finish n q st d).jrn.held = s.jrn.held := by
  unfold State.finish
  split
  · rfl
  · exact s.journalDone_held n _ st _

/-- With no command waiting or in flight, nothing follows a step but the replies. -/
theorem State.settle_answered {s : State} (hh : s.jrn.held = []) (hr : ∀ k, s.ranOff k = false)
    (hc : ∀ m, ∀ c ∈ (s.ctx m).cmds, c.isWaiting = false ∧ c.inFlight = false) : s.settle = s.releaseAll := by
  have e0 : s.serveHeld s.jrn.held.length = s := by rw [hh]; rfl
  have hf := fun m c hm => (hc m c hm).2
  simp only [State.settle, e0, s.runOff_of_not _ (hr 0), s.runOff_of_not _ (hr 1), s.runOff_of_not _ (hr 2), s.works_waiting hf,
    s.sealed_waiting hf, s.dispatchAll_none fun m c hm => (hc m c hm).1]

/-- R53: the reply of the one complete command of the device is the last packet at its port, a wired one. -/
theorem State.releaseAll_out {s : State} {n : Fin 8} {x : Cmd} (hown : (s.ctx n).cmds = [x]) (hoth : ∀ m, m ≠ n → (s.ctx m).cmds = [])
    (hx : x.phase = .done) (hd : x.dropped = false) (hp : x.port ≠ .net) :
    (s.releaseAll.port x.port).out = (s.port x.port).out ++ [x.packet n] := by
  have sent : s.release n 1 = (s.sendReply x.port x.dst x.key.toNat (x.packet n)).modCtx n (fun y => y.markSent x) := by
    cases e : x.port with
    | net => exact absurd e hp
    | spiA | spiB | uartC => simp only [State.release, s.ready_done n x hown hx, hd, e, Bool.false_eq_true, if_false]
  have wired : s.sendReply x.port x.dst x.key.toNat (x.packet n) = s.modPort x.port (fun q => { q with out := q.out ++ [x.packet n] }) := by
    cases e : x.port with
    | net => exact absurd e hp
    | spiA | spiB | uartC => rfl
  have keeps : ∀ (g : State) (f : Ctx → Ctx), (g.modCtx n f).port x.port = g.port x.port := fun _ _ => rfl
  rw [s.releaseAll_one n x hown hoth, sent, wired, keeps, State.ports_modPort, if_pos rfl]

/-- The end of its wait completes the command, and its reply goes. -/
theorem State.OneWaits.completes {s : State} {n : Fin 8} {c : Cmd} {w : Wait} (h : s.OneWaits n c w) (st : Status) (d : Octets) :
    s.Completes n c st d (s.finishWait w st d).settle := by
  have ends : s.finishWait w st d = s.finish n c.seq st d := by
    rw [State.finishWait, s.finishWhere_one n c h.own h.rest]
    exact if_pos (by simp [Cmd.inFlight, Cmd.wait?, h.run])
  have fin := s.finish_finished n c h.own h.rest st d
  have ran := fun k => (State.ranOff_of_seq (State.seq_of fin.outside) k).trans (h.ran k)
  obtain ⟨k, own⟩ := fin.own
  rw [ends, State.settle_answered ((s.finish_held n c.seq st d).trans h.held) ran (State.finished_settled fin)]
  have out := State.releaseAll_out own fin.others rfl h.stays h.port
  have ports : (s.finish n c.seq st d).port c.port = s.port c.port := by simp only [State.port, fin.ports]
  exact out.trans (by rw [ports]; rfl)

end Sys2Proof.Machine
end

section
/-!
PROOFS. R456 to R460, R466, R467: the tally counters and the regulatory record.
-/
namespace Sys2Proof.Machine

open Sys2Proof

/-! ## What the commands do -/

theorem nvmTallyIncrement_notPermitted (s : State) (n : Fin 8) {c : Cmd} (hk : p8 c.p 0 < 16) :
    nvmTallyIncrement s n c = (s, .reply .notPermitted []) := by
  simp [nvmTallyIncrement, refuse, hk, Nat.lt_trans hk]

/-- NVM_TALLY_INCREMENT of a user counter: refused where its increments would pass the end, and started otherwise. -/
theorem nvmTallyIncrement_user (s : State) (n : Fin 8) {c : Cmd} {k : Fin 32} (hk : p8 c.p 0 = k.val) (hu : 16 ≤ k.val) :
    nvmTallyIncrement s n c =
      if s.nvm.tallyFull k then (s, .reply .nonceExhausted []) else (s.startTally k .user, .await (.tally s.nvm.tallyNext)) := by
  simp only [nvmTallyIncrement, hk, k.isLt, dif_pos, Nat.not_lt.2 hu, if_false, refuse]

theorem nvmTallyRead_eq (s : State) (n : Fin 8) {c : Cmd} {k : Fin 32} (hk : p8 c.p 0 = k.val) :
    nvmTallyRead s n c = (s, .reply .ok (wordOctets (BitVec.ofNat 40 (s.nvm.tally k)))) := by
  simp only [nvmTallyRead, hk, k.isLt, dif_pos, okData]

/-- The record of an NVM_REGULATORY_LOCK WRITE: its parameters, with the lock bit as it stands. -/
def Nvm.regOffered (n : Nvm) (p : Octets) : List Word :=
  setFld ((wordsOf (p.drop 1) 11).getD 0 0) 16 1 (b2n n.regLocked) :: (wordsOf (p.drop 1) 11).drop 1

/-- The record in force, with the lock bit set. -/
def Nvm.regRaised (n : Nvm) : List Word := raiseFlag (n.reg.getD 0 0) 16 :: n.reg.drop 1

/-- A WRITE of a record that keeps every limit. -/
theorem nvmRegulatoryLock_write (s : State) (n : Fin 8) {c : Cmd} (h0 : p8 c.p 0 = 0) (hg : regGood (s.nvm.regOffered c.p) = true) :
    nvmRegulatoryLock s n c =
      if s.nvm.regLocked && !regStricter (s.nvm.regOffered c.p) s.nvm.reg then (s, .reply .regulatoryLimit [])
      else sealThen (s.putReg (s.nvm.regOffered c.p)) [] := by
  unfold Nvm.regOffered at *
  simp only [nvmRegulatoryLock, h0, hg, refuse, Bool.not_true, Bool.false_eq_true, if_false]

/-- LOCK of a record with a version. -/
theorem nvmRegulatoryLock_lock (s : State) (n : Fin 8) {c : Cmd} (h1 : p8 c.p 0 = 1) (hw : s.nvm.regWritten = true)
    (hv : fld (s.nvm.reg.getD 0 0) 0 16 ≠ 0) : nvmRegulatoryLock s n c = sealThen (s.putReg s.nvm.regRaised) [] := by
  simp only [nvmRegulatoryLock, h1, hw, hv, decide_false, Bool.not_true, Bool.or_false, Bool.false_eq_true, if_false, Nvm.regRaised]

theorem nvmRegulatoryLock_unwritten (s : State) (n : Fin 8) {c : Cmd} (h1 : p8 c.p 0 = 1) (hw : s.nvm.regWritten = false) :
    nvmRegulatoryLock s n c = (s, .reply .wrongState []) := by
  simp only [nvmRegulatoryLock, h1, hw, Bool.not_false, Bool.true_or, if_true, refuse]

/-! ## The record put in force -/

theorem State.unsealed_putReg (s : State) (r : List Word) : (s.putReg r).nvm.Unsealed :=
  Nvm.unsealed_bufWrite s.nvm s.aon.tick (by simp [List.range_succ])

/-- Beside the write buffer, putting a record in force changes the record alone. -/
theorem State.Becomes.putReg {s t : State} (h : s.Becomes t) (r : List Word) :
    State.Becomes { s with nvm := { s.nvm with reg := r, regWritten := true } } (t.putReg r) := by
  refine ⟨h.outside, h.settled, h.hrest, ?_, h.mem⟩
  have e := (Nvm.rest_bufWrite t.nvm t.aon.tick
    ((List.range 8).map (fun k => (r ++ List.replicate 117 0).mapIdx (fun i w => ((952 + k) * 128 + i, some w)))).flatten).trans h.nrest
  exact congrArg (fun v : Nvm => { v with reg := r, regWritten := true }) e

/-- A command that puts a record in force waits for its seal. -/
theorem State.run_putReg (s : State) (h : Hdr) (p : Octets) (r : s.Ready .nvmRegulatoryLock h p .none) (x : List Word)
    (hb : ∀ t c, s.Taken .nvmRegulatoryLock h p .none t c → nvmRegulatoryLock t h.ctx c = sealThen (t.putReg x) []) :
    ((s.command .nvmRegulatoryLock h p .none).ctx h.ctx).cmds.length = 1 ∧
      State.Becomes { s with nvm := { s.nvm with reg := x, regWritten := true } } (s.command .nvmRegulatoryLock h p .none) := by
  constructor
  · exact s.length_run_seal _ h p .none rfl r (fun t => t.putReg x) (fun t => .seal (t.putReg x).nvm.ticket .ok []) hb
      (fun _ _ => Wait.noConfusion) (fun _ _ => rfl) (fun t => t.unsealed_putReg x)
  · exact s.run_seal _ h p .none rfl r (fun t => t.putReg x) (fun t => .seal (t.putReg x).nvm.ticket .ok []) _ hb
      (fun _ _ => Wait.noConfusion) (fun _ _ => rfl) (fun _ _ tk => tk.becomes.putReg x)

/-! ## An increment under way (R457, R458) -/

theorem Tally.step_of_lt {t : Tally} (h : t.bits < 512) : t.step 0 = { t with bits := t.bits + 1 } := by
  rw [Tally.step, if_pos h, Nat.add_zero, Nat.min_eq_right h]

theorem Tally.step_zero (t : Tally) : t.step 0 =
    if t.bits < 512 then { t with bits := t.bits + 1 } else { base := t.base + 513, gen := (t.gen + 1) % 65536, bits := 0, intent := none } := by
  split
  next h => exact Tally.step_of_lt h
  next h => exact if_neg h

theorem State.Becomes.startTally {s t : State} (h : s.Becomes t) (k : Fin 32) (u : TallyUse) (e : t.nvm = s.nvm) :
    (s.startTally k u).Becomes (t.startTally k u) := by
  refine ⟨h.outside, h.settled, h.hrest, ?_, h.mem⟩
  simp only [State.startTally, e]

/-- The state in which the one increment `o` has ended: its counter has advanced. -/
def State.tallied (s : State) (o : TallyOp) : State :=
  { s with nvm := { s.nvm with tallies := s.nvm.tallies.set o.counter (s.nvm.tallies[o.counter].step 0), tallyOps := [] } }

theorem State.tallyDone_user {s : State} {o : TallyOp} (ho : s.nvm.tallyOps = [o]) (hu : o.use = .user) :
    s.tallyDone 0 = (s.tallied o).finishWait (.tally o.number) .ok (wordOctets (BitVec.ofNat 40 (s.nvm.tallies[o.counter].step 0).value)) := by
  simp only [State.tallyDone, ho, hu]
  rfl

theorem State.tallyDone_block {s : State} {o : TallyOp} (ho : s.nvm.tallyOps = [o]) (hu : o.use = .block)
    (hv : (s.nvm.tallies[o.counter].step 0).value < 2 ^ 24) :
    s.tallyDone 0 = { s.tallied o with
      jrn := { s.jrn with reserving := false, nextBlock := some (((s.nvm.tallies[o.counter].step 0).value - 1) * 65536 + 1) } } := by
  simp only [State.tallyDone, ho, hu, hv, if_true]
  rfl

theorem exec_tallyIncrementDone (s : State) :
    exec (.tallyIncrementDone 0) s = .next (State.settle (if s.storeOn then s.tallyDone 0 else s)) := rfl

theorem exec_tallyIncrementDone_on {s : State} (hs : s.storeOn = true) : exec (.tallyIncrementDone 0) s = .next (s.tallyDone 0).settle := by
  rw [exec_tallyIncrementDone, if_pos hs]

/-! ## The obligation -/

/-- Settles O46: an increment is started by its command and ends with the use of its value; a record put in force leaves its command waiting for
the seal, as its pages are in the write buffer; every other command answers and leaves the state as it is. -/
theorem talliesAndRegulatoryRecord : Obligations.TalliesAndRegulatoryRecord := by
  unfold Obligations.TalliesAndRegulatoryRecord
  refine ⟨?_, ?_, ?_, ?_, ?_, ?_, ?_, ?_, ?_, ?_, ?_, ?_⟩
  · intro s h p k r hk hu hf
    obtain ⟨t, c, tk, run⟩ := s.command_await .nvmTallyIncrement h p .none rfl r
    have body : opBody .nvmTallyIncrement t h.ctx c = (t.startTally k .user, .await (.tally t.nvm.tallyNext)) :=
      (nvmTallyIncrement_user t h.ctx (tk.cp.symm ▸ hk) hu).trans (if_neg (by simp [tk.nvm, hf]))
    obtain ⟨-, own, waits⟩ := run _ _ body (fun _ => rfl) rfl (fun _ => Wait.noConfusion)
    exact ⟨_, rfl, by rw [own]; rfl, waits.becomes (tk.becomes.startTally k .user tk.nvm)⟩
  · intro s h p r hk
    exact ⟨_, rfl, s.run_unchanged _ h p .none rfl rfl r _ _ fun t c tk => nvmTallyIncrement_notPermitted t h.ctx (tk.cp.symm ▸ hk)⟩
  · intro s h p k r hk
    refine ⟨_, rfl, s.run_unchanged _ h p .none rfl rfl r _ _ fun t c tk => (nvmTallyRead_eq t h.ctx (tk.cp.symm ▸ hk)).trans ?_⟩
    rw [tk.nvm]
    rfl
  · intro s o hc hs ho hu
    have calm : (s.tallied o).Calm := hc.nvm _
    rw [exec_tallyIncrementDone_on hs, State.tallyDone_user ho hu, State.finishWait, State.finishWhere_none _ calm.1, State.settle_calm _ calm,
      State.tallied, Tally.step_zero]
  · intro s o hc hs ho hu hb hv
    have next : (s.nvm.tallies[o.counter].step 0).value = s.nvm.tallies[o.counter].value + 1 := by rw [Tally.step_of_lt hb]; rfl
    rw [exec_tallyIncrementDone_on hs, State.tallyDone_block ho hu (next ▸ hv), State.settle_calm _ (by exact hc), next, Nat.add_sub_cancel,
      State.tallied, Tally.step_of_lt hb]
  · intro s n c o w hs ho hu
    refine ⟨_, exec_tallyIncrementDone_on hs, ?_⟩
    rw [State.tallyDone_user ho hu]
    exact (w.nvm (s.tallied o).nvm).completes .ok _
  · intro s hc ho
    have idle : s.tallyDone 0 = s := by simp only [State.tallyDone, ho]
    rw [exec_tallyIncrementDone, idle, ite_self, State.settle_calm s hc]
  · rintro s h p r rd h0 rfl hg hl
    have limit : (s.nvm.regLocked && !regStricter (s.nvm.regOffered p) s.nvm.reg) = false := by
      rcases hl with hl | hl
      · simp [hl]
      · rw [Nvm.regOffered, hl, Bool.not_true, Bool.and_false]
    refine ⟨_, rfl, s.run_putReg h p rd (s.nvm.regOffered p) fun t c tk => ?_⟩
    rw [nvmRegulatoryLock_write t h.ctx (tk.cp.symm ▸ h0) (by rw [tk.cp, tk.nvm]; exact hg), tk.cp, tk.nvm, limit]
    rfl
  · rintro s h p r rd h0 rfl hg hl hn
    refine ⟨_, rfl, s.run_unchanged _ h p .none rfl rfl rd _ _ fun t c tk => ?_⟩
    refine (nvmRegulatoryLock_write t h.ctx (tk.cp.symm ▸ h0) (by rw [tk.cp, tk.nvm]; exact hg)).trans (if_pos ?_)
    rw [tk.cp, tk.nvm, Nvm.regOffered, hn, hl]
    rfl
  · intro s h p rd h1 hw hv
    refine ⟨_, rfl, s.run_putReg h p rd s.nvm.regRaised fun t c tk => ?_⟩
    rw [nvmRegulatoryLock_lock t h.ctx (tk.cp.symm ▸ h1) (by rw [tk.nvm, hw]) (by rw [tk.nvm]; exact hv), tk.nvm]
  · intro s h p rd h1 hw
    refine ⟨_, rfl, s.run_unchanged _ h p .none rfl rfl rd _ _ fun t c tk => ?_⟩
    exact nvmRegulatoryLock_unwritten t h.ctx (tk.cp.symm ▸ h1) (by rw [tk.nvm, hw])
  · intro s h p k r hk hu hf
    refine ⟨_, rfl, s.run_unchanged _ h p .none rfl rfl r _ _ fun t c tk => ?_⟩
    exact (nvmTallyIncrement_user t h.ctx (tk.cp.symm ▸ hk) hu).trans (if_pos (by rw [tk.nvm, hf]))

end Sys2Proof.Machine
end
